-- ==== Sys2Proof/Word.lean ====
section
/-! DEFINITION. The words of the part's frames. -/

namespace Sys2Proof

/-- A byte of a frame. -/
abbrev Byte := BitVec 8

/-- A CRC register, a border digest or an inquiry value (R7, R164). -/
abbrev Word16 := BitVec 16

/-- A robot's serial (R1). -/
abbrev Serial := BitVec 32

end Sys2Proof
end

