-- ==== Sys2Proof/Syntax.lean ====
section
/-! DEFINITION. The commands the block takes, one constructor for each row of spec/opcode_table.json,
and the types of their operands. The table names no operands: they are the ones the rules name. -/

namespace Sys2Proof

/-- The two station ports (R173). -/
inductive PortId where
  /-- The instrument sequencer's port. -/
  | sequencer
  /-- The metrology processor's port. -/
  | metrology
deriving DecidableEq, Repr

/-- What every request carries besides its arguments: the port it was taken from, its tag, and
whether its payload holds the arguments of the request (R173, R174). -/
structure Req where
  /-- Port whose queue the request is taken from. -/
  port : PortId
  /-- Tag byte, echoed by the response. -/
  tag : Byte
  /-- The payload's size holds the request's arguments (R173: otherwise BAD_ARG). -/
  fits : Bool
deriving DecidableEq, Repr

/-- A neighbour entry as a MAP_SITES request carries it (R2, R10). -/
inductive NeighbourArg where
  /-- OPEN: no robot that way. -/
  | vacant
  /-- LOCAL: a site index. -/
  | site (index : Nat)
  /-- BORDER: a peer link number and a remote site index. -/
  | border (link remote : Nat)
  /-- A kind that is none of the three. -/
  | other
deriving DecidableEq, Repr

/-- One site entry of a MAP_SITES request: the index and the fields of a site record (R10). -/
structure SiteArg where
  index : Nat
  serial : Serial
  bus : Nat
  mount : Nat
  alphaMin : Nat
  alphaMax : Nat
  betaMax : Nat
  backlashAlpha : Nat
  backlashBeta : Nat
  neighbours : List NeighbourArg
deriving DecidableEq, Repr

/-- One entry of a LOAD_TARGETS request (R110). -/
structure TargetArg where
  site : Nat
  alpha : Nat
  beta : Nat
deriving DecidableEq, Repr

/-- One correction report of a CORRECT request (R120). -/
structure CorrectionReport where
  site : Nat
  epochSeen : Nat
  residual : Nat
  dAlpha : Int
  dBeta : Int
deriving DecidableEq, Repr

/-- The motion state a robot reports (R150). -/
inductive Motion where
  | still
  | moving
  | fault
deriving DecidableEq, Repr

/-- The fault code of a status reply (R181: 1 STALL, 2 LIMIT_SWITCH, 3 DRIVER). -/
inductive ReplyFault where
  | stall
  | limitSwitch
  | driver
deriving DecidableEq, Repr

/-- The contents of a status reply, which are those of a last reported group (R150). -/
structure StatusReply where
  motion : Motion
  /-- Last accepted leg tag. -/
  tag : Nat
  alpha : Nat
  beta : Nat
  /-- Counts-valid flag. -/
  countsValid : Bool
  fault : Option ReplyFault
deriving DecidableEq, Repr

/-- A good reply of a robot to an addressed frame (R150). -/
inductive BusReply where
  | status (r : StatusReply)
  | acknowledge
  /-- Item number and its value, or none for the unsupported mark. -/
  | item (number : Nat) (value : Option Word16)
deriving DecidableEq, Repr

/-- How a roll-call slot is judged (R159). -/
inductive SlotJudgement where
  | empty
  | clean (serial : Serial)
  | garbled
deriving DecidableEq, Repr

/-- The header of a numbered peer frame: the link it came on, its sender sector and its sequence
number (R135). -/
structure PeerHeader where
  link : Nat
  sender : Nat
  seq : Nat
deriving DecidableEq, Repr

/-- How a border message names its lens: border position and pair (R135). -/
structure LensName where
  position : Nat
  arbiterSite : Nat
  clientSite : Nat
deriving DecidableEq, Repr

/-- The contents of an IDENT (R137). -/
structure Ident where
  sector : Nat
  expected : Nat
  level : Nat
  digest : Word16
  ack : Bool
deriving DecidableEq, Repr

/-- One entry of a SUMMARY as it stands on the line: state 1 is HELD and 2 is PINNED (R181). -/
structure SummaryEntry where
  position : Nat
  state : Nat
deriving DecidableEq, Repr

/-- The reason a REFUSE carries (R144). -/
inductive RefuseReason where
  | taken
  | pinned
deriving DecidableEq, Repr

/-- The share ratio as SET_PARAM carries it: a number or STRICT_A (R43). -/
inductive ShareArg where
  | ratio (r : Nat)
  | strictA
deriving DecidableEq, Repr

/-- The deadline action (R115). -/
inductive DeadlineAction where
  | runOn
  | cut
deriving DecidableEq, Repr

/-- The eight objects a statistics counter can count (R163). -/
inductive StatObject where
  | framesSent
  | goodReplies
  | replyTimeouts
  | checkErrors
  | retries
  | failedTransactions
  | collisions
  | haltsSent
deriving DecidableEq, Repr

/-- The commands. A request carries its `Req` first; a frame or an event of a link, bus or robot
names that link, bus or site. -/
inductive Instr where
  -- Resets (R180) and inputs (R106)
  | powerOn (shutterOpen stopAsserted : Bool)
  | resetLine (shutterOpen stopAsserted : Bool)
  | shutterOpened
  | shutterClosed
  | stopAsserted
  | stopReleased
  -- Station ports (R173 to R175)
  | stationFrameReceived (port : PortId) (bytes : List Byte)
  | badFrame (port : PortId) (tag code : Byte)
  | unknown (port : PortId) (tag code : Byte)
  -- Plate map (R9 to R15)
  | mapBegin (r : Req) (sector siteCount : Nat) (neighbours : List Nat)
  | mapSites (r : Req) (entries : List SiteArg)
  | mapEnd (r : Req)
  | readMap (r : Req) (first count : Nat)
  -- Robot records and lens table (R29 to R32, R71)
  | enableSet (r : Req) (mask : List Bool)
  | enableClear (r : Req) (mask : List Bool)
  | clearFault (r : Req) (site : Nat)
  | readRobot (r : Req) (first count : Nat)
  | readLens (r : Req) (first count : Nat)
  -- Moves (R74 to R98)
  | moveTo (r : Req) (site alpha beta : Nat)
  | park (r : Req) (site : Nat)
  | home (r : Req) (site : Nat)
  | abort (r : Req) (site : Nat)
  | abortField (r : Req)
  | readOutcomes (r : Req) (count : Nat)
  -- Sector modes and fields (R100 to R117)
  | openSector (r : Req)
  | freeze (r : Req)
  | thaw (r : Req)
  | resume (r : Req)
  | restart (r : Req)
  | loadTargets (r : Req) (entries : List TargetArg)
  | clearTargets (r : Req)
  | configure (r : Req) (number : Nat)
  | readField (r : Req)
  -- Metrology (R118 to R132)
  | snapshot (r : Req) (first count : Nat)
  | correct (r : Req) (reports : List CorrectionReport)
  | reAnchor (r : Req) (site alpha beta : Nat)
  -- Peer links (R134, R149)
  | peerControlEnable (r : Req) (link : Nat)
  | peerControlDisable (r : Req) (link : Nat)
  | peerControlReset (r : Req) (link : Nat)
  | readPeer (r : Req) (link : Nat)
  -- Robot buses and their supply (R164, R165, R167, R168, R172)
  | inquire (r : Req) (site item : Nat)
  | readInquiry (r : Req)
  | busPowerOn (r : Req) (bus : Nat)
  | busPowerOff (r : Req) (bus : Nat)
  | readBus (r : Req) (bus : Nat)
  -- Ports (R177, R178, R180)
  | portStatus (r : Req)
  | setMask (r : Req) (enables : List Bool)
  | readCause (r : Req)
  -- Parameters (R179); `none` is a value that names none of the parameter's choices
  | setParamStowAngle (r : Req) (value : Nat)
  | setParamParkBeta (r : Req) (value : Nat)
  | setParamGain (r : Req) (value : Nat)
  | setParamMaximumCorrection (r : Req) (value : Nat)
  | setParamTolerance (r : Req) (value : Nat)
  | setParamIterationLimit (r : Req) (value : Nat)
  | setParamShareRatio (r : Req) (value : ShareArg)
  | setParamDeadlinePreset (r : Req) (value : Nat)
  | setParamDeadlineAction (r : Req) (value : Option DeadlineAction)
  | setParamLensWaitLimit (r : Req) (value : Nat)
  | setParamLegTimeLimit (r : Req) (value : Nat)
  | setParamAttemptLimit (r : Req) (value : Nat)
  | setParamFailureLimit (r : Req) (value : Nat)
  | setParamPollInterval (r : Req) (value : Nat)
  | setParamKeepaliveInterval (r : Req) (value : Nat)
  | setParamConcurrencyLimit (r : Req) (bus value : Nat)
  | setParamThreshold (r : Req) (bus value : Nat)
  | setParamTripCount (r : Req) (bus value : Nat)
  | setParamStatisticsSelection (r : Req) (bus counter : Nat) (object : Option StatObject)
  -- Time limits of fields and moves (R116, R58, R87, R90)
  | deadlineExpiry
  | waitDeadlinePasses (site : Nat)
  | legTimeout (site : Nat)
  | haltTimeLimit (site : Nat)
  -- What a bus's arbiter begins (R157)
  | legDispatch (bus : Nat)
  | haltBroadcast (bus : Nat)
  | haltAddressed (bus : Nat)
  | poll (bus : Nat)
  | setCounts (bus : Nat)
  | inquireTransaction (bus : Nat)
  | keepalivePoll (bus : Nat)
  -- What a bus's line brings (R151, R153)
  | robotReplyGood (bus : Nat) (reply : BusReply)
  | robotReplyMissing (bus : Nat)
  | robotReplyCheckError (bus : Nat)
  -- Supply (R167, R169, R170) and census (R159)
  | currentSample (bus milliamps : Nat)
  | jabber (bus : Nat)
  | blankingEnd (bus : Nat)
  | rollcall (bus : Nat)
  | rollcallSlotEnd (bus : Nat) (slot : SlotJudgement)
  -- Peer frames taken (R135 to R147)
  | ident (link : Nat) (frame : Ident)
  | summary (h : PeerHeader) (count : Nat) (entries : List SummaryEntry)
  | summaryClient (h : PeerHeader) (count : Nat) (entries : List SummaryEntry)
  | keepalive (h : PeerHeader)
  | claim (h : PeerHeader) (lens : LensName)
  | withdraw (h : PeerHeader) (lens : LensName)
  | release (h : PeerHeader) (lens : LensName)
  | pin (h : PeerHeader) (lens : LensName)
  | hold (h : PeerHeader) (lens : LensName)
  | grant (h : PeerHeader) (lens : LensName)
  | refuse (h : PeerHeader) (lens : LensName) (reason : RefuseReason)
  | peerFrameError (link : Nat)
  -- What a link unit does in time (R137, R139, R140, R143, R135)
  | identSend (link : Nat)
  | keepaliveSend (link : Nat)
  | silenceLimit (link : Nat)
  | matchedTimeout (link : Nat)
  | syncingTimeout (link : Nat)
  | peerFrameSent (link : Nat)
deriving DecidableEq, Repr

end Sys2Proof
end

