-- ==== Sys2Proof/Config.lean ====
section
/-! DEFINITION. Capacities, time limits and step counts that the manual fixes for every BJ460.
The one free value is how the bytes of a request's payload carry its arguments, which the manual leaves
out. -/

namespace Sys2Proof.Config

/-- Sites of a sector, at most (R1). -/
def maxSites : Nat := 96
/-- Lens records, at most (R4). -/
def maxLenses : Nat := 384
/-- Robots of one bus, and entries of a learned address table (R11, R162). -/
def robotsPerBus : Nat := 12
/-- Requests a station port queues (R174). -/
def requestDepth : Nat := 4
/-- Outcome records the outcome queue holds (R97). -/
def outcomeDepth : Nat := 128
/-- Frames a peer link's transmit queue holds (R135). -/
def transmitDepth : Nat := 64
/-- Serials the overflow list of a census names (R161). -/
def overflowListDepth : Nat := 16
/-- Rounds of a census, at most (R159). -/
def censusRounds : Nat := 10

/-- Steps of one turn of alpha (00 The setting, R33). -/
def turn : Nat := 23040
/-- Highest alpha count (R1). -/
def alphaTop : Nat := 23039
/-- Highest beta count (R1). -/
def betaTop : Nat := 11520
/-- Width of a facing sector in steps (R34). -/
def sectorWidth : Nat := 3840
/-- Half a facing sector (R34). -/
def halfSector : Nat := 1920

/-- A saturating 32-bit count's maximum: epochs and statistics counters (R26, R163). -/
def top32 : Nat := 4294967295
/-- A saturating 16-bit count's maximum (R46, R136, R173). -/
def top16 : Nat := 65535
/-- Maximum of the drop count and the stray count (R133, R161). -/
def top8 : Nat := 255
/-- Maximum of the iteration count (R125). -/
def iterationTop : Nat := 15
/-- Maximum of the consecutive failure count (R152). -/
def failureTop : Nat := 8

/-- Milliseconds of one unit of the deadline timer (R46). -/
def deadlineUnit : Nat := 100
/-- Blanking interval in ms (R167). -/
def blankingMs : Nat := 50
/-- Interval between IDENTs in ms (R137). -/
def identMs : Nat := 20
/-- Time without sending after which a KEEPALIVE is due, in ms (R143). -/
def keepaliveMs : Nat := 25
/-- Silence limit in UP, in ms (R143). -/
def silenceMs : Nat := 100
/-- Time in MATCHED with no frame taken, in ms (R139). -/
def matchedMs : Nat := 100
/-- Time in SYNCING with no SUMMARY taken, in ms (R140). -/
def syncingMs : Nat := 200

/-- This part's protocol level in IDENT frames (R137). -/
def protocolLevel : Nat := 1

/-- The request a payload's bytes stand for, and none where the payload cannot hold the arguments of the
request its code names. The manual gives requests no payload layout, so this is a free value (log entry
33): nothing is known of it. -/
opaque requestArguments (port : PortId) (tag code : Byte) (payload : List Byte) : Option Instr

end Sys2Proof.Config
end

