-- ==== Sys2Proof/Machine/State.lean ====
section
/-! DEFINITION. Everything the block holds, as plain data, and its value right after full reset. -/

namespace Sys2Proof.Machine

/-- The stops of the machine: there are none. Every command of this block has an effect the spec
gives, or none, and ends in a next state. -/
inductive Fault where
deriving DecidableEq, Repr

/-- Why a command is turned down by the model itself. -/
inductive Refusal where
  /-- Raised by an arm of `exec` for a command that has no meaning yet. Safe: the machine stops. -/
  | notModelled (mnemonic : String)
deriving DecidableEq, Repr

/-! ### Plate map (chapter 1) -/

/-- A neighbour entry of an installed or staged site record (R2). -/
inductive Neighbour where
  /-- OPEN. -/
  | vacant
  /-- LOCAL. -/
  | site (index : Nat)
  /-- BORDER. -/
  | border (link remote : Nat)
deriving DecidableEq, Repr

/-- A site record (R1). `neighbours` holds the entries of directions 0 to 5. -/
structure Site where
  serial : Serial
  bus : Nat
  mount : Nat
  alphaMin : Nat
  alphaMax : Nat
  betaMax : Nat
  backlashAlpha : Nat
  backlashBeta : Nat
  neighbours : List Neighbour
deriving DecidableEq, Repr

/-- The installed map (R1, R3). `neighbours` holds the six neighbour sector numbers. -/
structure PlateMap where
  sector : Nat
  neighbours : List Nat
  sites : List Site
deriving DecidableEq, Repr

/-- What an open load has staged (R8): `sites` has one place per index below the site count, and an
unwritten place is `none`. -/
structure Staging where
  sector : Nat
  neighbours : List Nat
  sites : List (Option Site)
deriving DecidableEq, Repr

/-- The checks of MAP_END in their order (R11), but for LENS_CAPACITY, which has a status of its own. -/
inductive MapCheck where
  | missing
  | axisLimits
  | betaRange
  | localTarget
  | repeated
  | symmetry
  | linkCheck
  | busLoad
  | serial
deriving DecidableEq, Repr

/-- The fields MAP_SITES checks (R10). -/
inductive SiteField where
  | entryCount
  | siteIndex
  | bus
  | mount
  | alphaMin
  | alphaMax
  | backlashAlpha
  | backlashBeta
  | entryKind
  | siteEntry
  | borderEntry
deriving DecidableEq, Repr

/-! ### Lens table (chapter 4) -/

/-- One side of a lens: a site of this sector, or a remote side (R4). -/
inductive LensSide where
  | site (index : Nat)
  | remote (link site : Nat)
deriving DecidableEq, Repr

/-- Which of a lens's two sides (R4). -/
inductive Party where
  | a
  | b
deriving DecidableEq, Repr

/-- Hold kind (R49). -/
inductive HoldKind where
  | reserved
  | occupied
deriving DecidableEq, Repr

/-- The record of a LOCAL or ARBITER lens (R49). -/
structure Decided where
  holder : Option (Party × HoldKind)
  pinA : Bool
  pinB : Bool
  waiter : Option Party
  /-- Wait deadline, on the 1 ms base. -/
  deadline : Option Nat
deriving DecidableEq, Repr

/-- Claim states of a CLIENT lens (R50). -/
inductive ClaimState where
  | none
  | claiming
  | heldReserved
  | heldOccupied
  | pinned
deriving DecidableEq, Repr

/-- The record of a CLIENT lens (R50). -/
structure Client where
  claim : ClaimState
  deadline : Option Nat
  lastRefusal : Option RefuseReason
deriving DecidableEq, Repr

/-- A lens record has the form of its role (R48). -/
inductive LensBody where
  | decided (d : Decided)
  | client (c : Client)
deriving DecidableEq, Repr

/-- A lens: its two sides and its record. -/
structure Lens where
  a : LensSide
  b : LensSide
  body : LensBody
deriving DecidableEq, Repr

/-- Lens roles (R3). -/
inductive LensRole where
  | within
  | arbiter
  | client
deriving DecidableEq, Repr

/-- The four states read from a decided record (R49). -/
inductive LensState where
  | free
  | reserved
  | occupied
  | pinned
deriving DecidableEq, Repr

/-! ### Moves (chapter 5) -/

/-- A position: alpha and beta in steps. -/
structure Pos where
  alpha : Nat
  beta : Nat
deriving DecidableEq, Repr

/-- Leg kinds (R78, R181). -/
inductive LegKind where
  | stow
  | slew
  | deploy
  | trim
  | fold
  | seek
deriving DecidableEq, Repr

/-- A leg with the carried target of each axis it drives (R78). -/
structure Leg where
  kind : LegKind
  alpha : Option Nat
  beta : Option Nat
deriving DecidableEq, Repr

/-- Move kinds (R72). -/
inductive MoveKind where
  | field
  | moveTo
  | park
  | home
  | correction
deriving DecidableEq, Repr

/-- Move outcomes (R95). -/
inductive MoveOutcome where
  | done
  | denied
  | timeout
  | aborted
  | disabled
  | halted
  | cut
  | stalled
  | fault
  | lost
deriving DecidableEq, Repr

/-- Reasons of a denial (R52). -/
inductive DenyReason where
  | taken
  | pinned
  | linkDown
  | refused
deriving DecidableEq, Repr

/-- Halt causes (R89). -/
inductive HaltCause where
  | abort
  | stall
  | shutter
  | restart
deriving DecidableEq, Repr

/-- A move record (R72). Its class follows from its kind. -/
structure Move where
  kind : MoveKind
  target : Option Pos
  legs : List Leg
  index : Nat
  tag : Option Nat
  targetLens : Option Nat
  dispatch : Option Nat
  /-- The leg time limit in force when the current leg was accepted, in seconds (R87). -/
  legLimit : Nat
  haltCause : Option HaltCause
  haltTime : Option Nat
  pendingDenial : Option DenyReason
  limited : Bool
deriving DecidableEq, Repr

/-- An outcome record (R97). -/
structure OutcomeRecord where
  site : Nat
  kind : MoveKind
  outcome : MoveOutcome
  final : Option Pos
  epoch : Nat
  limited : Bool
  reason : Option DenyReason
deriving DecidableEq, Repr

/-! ### Robot records (chapter 2) -/

/-- Causes of LOST (R19). -/
inductive LostCause where
  | power
  | silent
  | uncertain
deriving DecidableEq, Repr

/-- The nine robot states; LOST carries its cause (R18). -/
inductive RobotState where
  | offline
  | lost (cause : LostCause)
  | idle
  | faulted
  | queued
  | inLeg
  | waitLens
  | halting
  | anchoring
deriving DecidableEq, Repr

/-- History (R22). -/
inductive History where
  | none
  | frozen
deriving DecidableEq, Repr

/-- Fault codes of a robot record (R30). -/
inductive FaultCode where
  | stall
  | limitSwitch
  | driver
  | inconsistent
deriving DecidableEq, Repr

/-- The sign of an axis's last motion (R28). -/
inductive Sign where
  | plus
  | minus
deriving DecidableEq, Repr

/-- What the part holds for the robot of a site: the robot record (R17), the move engine's move
record (R72) and tag memory (R80), the bus controller's poll time (R158) and the anchor position of
a re-anchor (R129). The address is the entry of the bus's learned address table that holds the site
(R162), and the holdings are read from the lens table (R51): neither is held twice. -/
structure Robot where
  serial : Serial
  bus : Nat
  state : RobotState
  history : History
  alpha : Option Nat
  beta : Option Nat
  last : Option StatusReply
  epoch : Nat
  enabled : Bool
  fault : Option FaultCode
  lastOutcome : Option MoveOutcome
  dirAlpha : Option Sign
  dirBeta : Option Sign
  iterations : Nat
  converged : Bool
  notConverged : Bool
  failures : Nat
  move : Option Move
  tagMemory : Nat
  pollTime : Option Nat
  anchor : Option Pos
deriving DecidableEq, Repr

/-! ### Sector control (chapter 6) and the deadline timer (chapter 3) -/

/-- Causes of FROZEN (R99). -/
inductive FrozenCause where
  | freeze
  | shutter
deriving DecidableEq, Repr

/-- Sector modes (R99). -/
inductive Mode where
  | init
  | opened
  | frozen (cause : FrozenCause)
  | halted
deriving DecidableEq, Repr

/-- Field states (R112). -/
inductive FieldState where
  | none
  | running
  | ended
deriving DecidableEq, Repr

/-- The ten outcome counts of a field (R112). -/
structure Tally where
  done : Nat
  denied : Nat
  timeout : Nat
  aborted : Nat
  disabled : Nat
  halted : Nat
  cut : Nat
  stalled : Nat
  fault : Nat
  lost : Nat
deriving DecidableEq, Repr

/-- The field record (R112); the in-progress count is `admitted` less the sum of the counts. -/
structure FieldRecord where
  number : Nat
  state : FieldState
  admitted : Nat
  counts : Tally
  already : Nat
  notAttempted : Nat
  deadlinePassed : Bool
  cut : Bool
deriving DecidableEq, Repr

/-- Phases of the deadline timer (R45). -/
inductive Phase where
  | stopped
  | down
  | overtime
  | held
deriving DecidableEq, Repr

/-- The deadline timer (R45). `ms` is the part of the present 100 ms unit already counted (R46). -/
structure Timer where
  loaded : Nat
  remaining : Nat
  overtime : Nat
  phase : Phase
  ms : Nat
deriving DecidableEq, Repr

/-- The levels and change latches of the shutter and stop inputs (R106). -/
structure Inputs where
  shutterOpen : Bool
  stopAsserted : Bool
  shutterOpenedLatch : Bool
  shutterClosedLatch : Bool
  stopAssertedLatch : Bool
  stopReleasedLatch : Bool
deriving DecidableEq, Repr

/-- Share ratios (R43). -/
inductive ShareRatio where
  | one
  | three
  | seven
  | strictA
deriving DecidableEq, Repr

/-- The parameters of the whole part (R179). Times are in the units of the table. -/
structure Params where
  stowAngle : Nat
  parkBeta : Nat
  gain : Nat
  maxCorrection : Nat
  tolerance : Nat
  iterationLimit : Nat
  share : ShareRatio
  deadlinePreset : Nat
  deadlineAction : DeadlineAction
  /-- In seconds. -/
  lensWaitLimit : Nat
  /-- In seconds. -/
  legTimeLimit : Nat
  attemptLimit : Nat
  failureLimit : Nat
  /-- In ms. -/
  pollInterval : Nat
  /-- In ms. -/
  keepaliveInterval : Nat
deriving DecidableEq, Repr

/-! ### Peer links (chapter 8) -/

/-- Link states (R133). -/
inductive LinkState where
  | disabled
  | probing
  | matched
  | syncing
  | up
  | fault
deriving DecidableEq, Repr

/-- Mismatch causes (R133). -/
inductive Mismatch where
  | none
  | sector
  | digest
deriving DecidableEq, Repr

/-- What a client's SUMMARY says of a lens (R140). -/
inductive SummaryState where
  | held
  | pinned
deriving DecidableEq, Repr

/-- The seven border messages (R135). -/
inductive BorderMessage where
  | claim
  | grant
  | refuse (reason : RefuseReason)
  | withdraw
  | release
  | pin
  | hold
deriving DecidableEq, Repr

/-- The payload of a peer frame this part sends (R135). -/
inductive PeerBody where
  | ident (frame : Ident)
  | summary (entries : List (Nat × SummaryState))
  | keepalive
  | border (message : BorderMessage) (lens : LensName)
deriving DecidableEq, Repr

/-- A frame of a transmit queue: sender sector, sequence number (0 in an IDENT) and payload (R135). -/
structure PeerFrame where
  sender : Nat
  seq : Nat
  body : PeerBody
deriving DecidableEq, Repr

/-- A peer link unit (R133), with the times its limits run from. -/
structure Link where
  state : LinkState
  matchCount : Nat
  lastIdent : Option Ident
  partnerAck : Bool
  sentSummary : List (Nat × SummaryState)
  sendSeq : Nat
  recvSeq : Nat
  transmit : List PeerFrame
  errors : Nat
  drops : Nat
  wasDown : Bool
  mismatch : Mismatch
  dispute : Bool
  lastDisputeCount : Nat
  lastDisputeLens : Option Nat
  /-- Entry to the present state (R140). -/
  since : Nat
  /-- The unit last sent a frame: one left its queue (R143). -/
  sentAt : Nat
  /-- The last IDENT of the unit joined its queue (R137). -/
  identAt : Nat
  /-- A frame was last taken without error, or the state was entered (R139, R143). -/
  takenAt : Nat
deriving DecidableEq, Repr

/-! ### Robot buses (chapters 9 and 10) -/

/-- Supply switch states (R166). -/
inductive Switch where
  | off
  | on
  | tripped
deriving DecidableEq, Repr

/-- Last-off causes (R166). -/
inductive OffCause where
  | none
  | request
  | stop
  | trip
deriving DecidableEq, Repr

/-- Bus protocol states (R156). -/
inductive Protocol where
  | down
  | census
  | running
deriving DecidableEq, Repr

/-- The kinds of transaction (R150, R151). -/
inductive TxnKind where
  | move (leg : Leg) (tag : Nat)
  | poll
  | halt
  | setCounts (anchor : Pos)
  /-- `withdrawn`: a RESTART withdrew it from the inquiry slot while it was on the line (R165). -/
  | inquire (item : Nat) (withdrawn : Bool)
deriving DecidableEq, Repr

/-- The transaction on the line: the robot it addresses, the attempts begun, and the attempt limit
in force when it was begun (R151). -/
structure Txn where
  kind : TxnKind
  site : Nat
  attempts : Nat
  limit : Nat
deriving DecidableEq, Repr

/-- A pending transaction of the arbiter's place 4 (R157). -/
inductive PendingOp where
  | setCounts (site : Nat) (anchor : Pos)
  | inquire (site item : Nat)
deriving DecidableEq, Repr

/-- The payload of a frame the part sends on a robot bus (R150). -/
inductive BusBody where
  | move (leg : Leg) (tag : Nat)
  | poll
  | halt
  | setCounts (anchor : Pos)
  | inquire (item : Nat)
  | rollcall (window : Nat)
  | assign (serial : Serial) (address : Nat)
  | mute (serial : Serial)
deriving DecidableEq, Repr

/-- A frame on a robot bus; no address is the broadcast address 15 (R150). -/
structure BusFrame where
  address : Option Nat
  body : BusBody
deriving DecidableEq, Repr

/-- An entry of a learned address table: a serial, and its site or none for a stray (R162). -/
structure AddressEntry where
  serial : Serial
  site : Option Nat
deriving DecidableEq, Repr

/-- Census results (R161). -/
inductive CensusResult where
  | none
  | inProgress
  | complete
  | incomplete
  | abandoned
deriving DecidableEq, Repr

/-- A census record (R161). -/
structure Census where
  result : CensusResult
  rounds : Nat
  window : Nat
  assigned : Nat
  strays : Nat
  wiring : List Nat
  overflow : List Serial
  overfull : Bool
deriving DecidableEq, Repr

/-- A statistics counter and the object it counts (R163). -/
structure Stat where
  object : StatObject
  count : Nat
deriving DecidableEq, Repr

/-- What the part holds for one robot bus: its supply switch (R166), over-threshold count and limits
(R47), dispatch queues (R82), credit (R43), concurrency limit (R83) and bus controller (chapter 9). -/
structure Bus where
  switch : Switch
  lastOff : OffCause
  blanking : Bool
  /-- Switch-on, from which blanking runs (R167). -/
  switchedOn : Nat
  tripCurrent : Bool
  tripJabber : Bool
  peak : Nat
  latest : Nat
  overCount : Nat
  threshold : Nat
  tripCount : Nat
  concurrencyLimit : Nat
  queueA : List Nat
  queueB : List Nat
  credit : Nat
  protocol : Protocol
  txn : Option Txn
  haltBroadcast : Bool
  haltAddressed : List Nat
  pendingOps : List PendingOp
  /-- Twelve places, one per address 0 to 11. -/
  addresses : List (Option AddressEntry)
  keepaliveTime : Option Nat
  lastPolled : Option Nat
  lastKeepalive : Option Nat
  census : Census
  /-- The window W of the next ROLLCALL (R159). -/
  nextWindow : Nat
  /-- The slots judged so far in an open round; none between rounds (R159). -/
  round : Option (List SlotJudgement)
  stats : List Stat
  /-- Frames begun on this line by the latest command that can begin one: an output. -/
  lastFrames : List BusFrame
deriving DecidableEq, Repr

/-- Reasons of a failed inquiry (R164). -/
inductive InquiryFailure where
  | noReply
  | unsupported
  | power
deriving DecidableEq, Repr

/-- The inquiry slot (R164). -/
inductive Inquiry where
  | empty
  | pending (site item : Nat)
  | done (site item : Nat) (value : Word16)
  | failed (site item : Nat) (reason : InquiryFailure)
deriving DecidableEq, Repr

/-! ### Station ports (chapter 11) -/

/-- Status codes (R175). -/
inductive Status where
  | ok
  | badFrame
  | unknown
  | notPermitted
  | badArg
  | wrongMode
  | frozen
  | shutter
  | busy
  | noMap
  | notReady
  | noMove
  | inconsistent
  | empty
  | lensCapacity
  | mapInvalid
deriving DecidableEq, Repr

/-- The eight latched notices of the sequencer port (R176). OUTCOME_PENDING and SETTLED are levels
and are read from the state. -/
structure Notices where
  fieldEnded : Bool
  deadline : Bool
  modeChange : Bool
  busTrip : Bool
  wiring : Bool
  peerChange : Bool
  inquiryDone : Bool
  outcomeOverflow : Bool
deriving DecidableEq, Repr

/-- Reset causes (R180). -/
inductive ResetCause where
  | none
  | powerOn
  | resetLine
  | restart
deriving DecidableEq, Repr

/-- A request waiting in a port's queue: as its frame carried it, with the mark of a wrong length
field (R173). -/
structure QueuedRequest where
  tag : Byte
  code : Byte
  badLength : Bool
  payload : List Byte
deriving DecidableEq, Repr

/-- The map part common to the MAP_END response and READ_MAP: lens count, LOCAL lens count, and per
link its border lens count, role and digest (R13, R15). -/
structure MapSummary where
  lensCount : Nat
  withinCount : Nat
  links : List (Nat × Option LensRole × Word16)
deriving DecidableEq, Repr

/-- One robot of a READ_ROBOT response (R32). -/
structure RobotView where
  site : Nat
  serial : Serial
  bus : Nat
  address : Option Nat
  state : RobotState
  history : History
  enabled : Bool
  fault : Option FaultCode
  alpha : Option Nat
  beta : Option Nat
  facing : Option Nat
  epoch : Nat
  last : Option StatusReply
  /-- Move kind, kind of the current leg, index of that leg, leg count. -/
  move : Option (MoveKind × Option LegKind × Nat × Nat)
  dirAlpha : Option Sign
  dirBeta : Option Sign
  iterations : Nat
  converged : Bool
  notConverged : Bool
  failures : Nat
  occupied : Option Nat
  reserved : Option Nat
  pins : List Nat
  lastOutcome : Option MoveOutcome
deriving DecidableEq, Repr

/-- One lens of a READ_LENS response (R71). -/
inductive LensRecordView where
  | decided (state : LensState) (holder : Option (LensSide × HoldKind)) (pins : List LensSide)
      (waiter : Option LensSide) (remaining : Option Nat)
  | client (claim : ClaimState) (remaining : Option Nat) (lastRefusal : Option RefuseReason)
deriving DecidableEq, Repr

/-- One lens of a READ_LENS response, with index, role and sides (R71). -/
structure LensView where
  index : Nat
  role : LensRole
  a : LensSide
  b : LensSide
  record : LensRecordView
deriving DecidableEq, Repr

/-- One site of a SNAPSHOT (R118). -/
structure SnapshotSite where
  site : Nat
  state : RobotState
  position : Option Pos
  facing : Option Nat
  epoch : Nat
  converged : Bool
  notConverged : Bool
deriving DecidableEq, Repr

/-- The ten outcomes of a correction report (R121 to R123). -/
inductive ReportOutcome where
  | badArg
  | frozen
  | notReady
  | busy
  | stale
  | converged
  | limit
  | null
  | denied
  | admitted
deriving DecidableEq, Repr

/-- The result of one correction report (R124). -/
structure ReportResult where
  site : Nat
  outcome : ReportOutcome
  limited : Bool
  reason : Option DenyReason
  target : Option Pos
  legs : Option Nat
  iterations : Option Nat
deriving DecidableEq, Repr

/-- The lens counts of READ_PEER, by the side this part is on (R149). -/
inductive PeerLensCounts where
  | arbiter (reserved occupied pinned waiting : Nat)
  | client (none claiming heldReserved heldOccupied pinned : Nat)
  | absent
deriving DecidableEq, Repr

/-- The value now in force that a SET_PARAM response carries (R179). -/
inductive ParamValue where
  | number (n : Nat)
  | share (r : ShareRatio)
  | action (a : DeadlineAction)
  | object (o : StatObject)
deriving DecidableEq, Repr

/-- What a response carries besides its status (each owning rule). -/
inductive Body where
  | none
  | siteRefused (entry : Nat) (field : SiteField)
  | mapRefused (check : MapCheck) (site : Nat) (direction : Option Nat)
  | count (n : Nat)
  | installed (m : MapSummary)
  /-- READ_MAP: installed, sector, site count, neighbour sectors, lenses, loader (staged site count
  and written indices when LOADING), site records with their site lens map entries. -/
  | map (present : Bool) (sector siteCount : Nat) (neighbours : List Nat) (m : MapSummary)
      (loader : Option (Nat × Nat)) (sites : List (Site × List (Option Nat)))
  | robots (views : List RobotView)
  | lenses (views : List LensView)
  | admitted (legs : Nat)
  | ended (outcome : MoveOutcome) (reason : Option DenyReason)
  /-- Moves ended at once, and robots sent into (or kept in) HALTING. -/
  | stopped (ended halting : Nat)
  | outcomes (records : List OutcomeRecord) (left : Nat) (overflow : Bool)
  | targets (statuses : List Status) (written : Nat)
  /-- CONFIGURE: number, admitted, already-there, not-attempted, denied at admission, state. -/
  | configured (number admitted already notAttempted denied : Nat) (state : FieldState)
  /-- READ_FIELD: mode, inputs, field record, in-progress, timer, elapsed, targets, preset, action. -/
  | field (mode : Mode) (inputs : Inputs) (record : FieldRecord) (inProgress : Nat) (timer : Timer)
      (elapsed targets preset : Nat) (action : DeadlineAction)
  | snapshot (sites : List SnapshotSite) (changed : Bool) (mode : Mode)
  /-- CORRECT: results, and one count per outcome in the order of `ReportOutcome`. -/
  | corrected (results : List ReportResult) (counts : List Nat)
  | reAnchoring (epoch : Nat)
  | inconsistent (sector : Nat) (lens : Option LensView)
  | linkState (state : LinkState)
  /-- READ_PEER: role, neighbour sector, border lens count, digest, the unit as it stood, lens
  counts, frames in the transmit queue. -/
  | peer (state : LinkState) (role : Option LensRole) (neighbour lensCount : Nat) (digest : Word16)
      (matchCount : Nat) (partnerAck : Bool) (lastIdent : Option Ident) (errors drops : Nat)
      (wasDown : Bool) (mismatch : Mismatch) (dispute : Bool) (disputeCount : Nat)
      (disputeLens : Option Nat) (counts : PeerLensCounts) (queued : Nat)
  | inquiry (slot : Inquiry)
  | switch (state : Switch)
  /-- READ_BUS: the switch group, current group, protocol, census, addresses, statistics, and queue
  lengths, credit, concurrency count and limit. -/
  | bus (switch : Switch) (lastOff : OffCause) (blanking tripCurrent tripJabber : Bool)
      (peak latest overCount threshold tripCount : Nat) (protocol : Protocol) (census : Census)
      (addresses : List (Option AddressEntry)) (stats : List Stat)
      (lengthA lengthB credit concurrency limit : Nat)
  /-- PORT_STATUS: each notice of the port standing or not, the mask, overrun, errors, queued. -/
  | port (standing mask : List Bool) (overrun : Bool) (errors queued : Nat)
  | mask (enables : List Bool)
  | param (value : ParamValue)
  | cause (c : ResetCause)
deriving DecidableEq, Repr

/-- A response: tag and code echoed, status, overrun latch, contents (R174). -/
structure Response where
  tag : Byte
  code : Byte
  status : Status
  overrun : Bool
  body : Body
deriving DecidableEq, Repr

/-- A station port (R173, R174, R176). `response` is the response last sent: an output. -/
structure StationPort where
  queue : List QueuedRequest
  mask : List Bool
  overrun : Bool
  errors : Nat
  response : Option Response
deriving DecidableEq, Repr

/-! ### The whole block -/

/-- Everything the block holds. -/
structure State where
  /-- Commands that wait, first in, first out. -/
  pending : List Instr
  /-- The 1 ms time base. -/
  now : Nat
  map : Option PlateMap
  loader : Option Staging
  lenses : List Lens
  /-- Site lens map: per site and direction (R6). -/
  siteLens : List (List (Option Nat))
  digests : List Word16
  robots : List Robot
  targets : List (Option Pos)
  outcomes : List OutcomeRecord
  overflow : Bool
  mode : Mode
  field : FieldRecord
  timer : Timer
  inputs : Inputs
  posChanged : Bool
  params : Params
  links : List Link
  buses : List Bus
  inquiry : Inquiry
  /-- The channel the converter converts in the present millisecond (R47). -/
  converter : Nat
  /-- The conversion of the present millisecond has not been taken yet (R47). -/
  conversionDue : Bool
  notices : Notices
  sequencer : StationPort
  metrology : StationPort
  resetCause : ResetCause
deriving DecidableEq, Repr

/-! ### Values at full reset -/

/-- The parameter defaults (R179). -/
def Params.reset : Params :=
  { stowAngle := 3840, parkBeta := 0, gain := 192, maxCorrection := 400, tolerance := 8,
    iterationLimit := 5, share := .three, deadlinePreset := 900, deadlineAction := .runOn,
    lensWaitLimit := 45, legTimeLimit := 15, attemptLimit := 3, failureLimit := 3,
    pollInterval := 50, keepaliveInterval := 250 }

/-- All counts 0 (R112). -/
def Tally.zero : Tally :=
  { done := 0, denied := 0, timeout := 0, aborted := 0, disabled := 0, halted := 0, cut := 0,
    stalled := 0, fault := 0, lost := 0 }

/-- The field record in state NONE (R112). -/
def FieldRecord.reset : FieldRecord :=
  { number := 0, state := .none, admitted := 0, counts := .zero, already := 0, notAttempted := 0,
    deadlinePassed := false, cut := false }

/-- The timer STOPPED (R45). -/
def Timer.reset : Timer :=
  { loaded := 0, remaining := 0, overtime := 0, phase := .stopped, ms := 0 }

/-- Both levels quiet and every latch clear (R106). The levels are sampled from outside as the part
leaves reset. DESIGN CHOICE, unsafe (log entry 5): found CLOSED and RELEASED here. -/
def Inputs.reset : Inputs :=
  { shutterOpen := false, stopAsserted := false, shutterOpenedLatch := false,
    shutterClosedLatch := false, stopAssertedLatch := false, stopReleasedLatch := false }

/-- A link unit at full reset (R133). -/
def Link.reset : Link :=
  { state := .disabled, matchCount := 0, lastIdent := none, partnerAck := false, sentSummary := [],
    sendSeq := 0, recvSeq := 0, transmit := [], errors := 0, drops := 0, wasDown := false,
    mismatch := .none, dispute := false, lastDisputeCount := 0, lastDisputeLens := none,
    since := 0, sentAt := 0, identAt := 0, takenAt := 0 }

/-- A census record with result NONE (R161). DESIGN CHOICE, unsafe (log entry 6): window 0. -/
def Census.reset : Census :=
  { result := .none, rounds := 0, window := 0, assigned := 0, strays := 0, wiring := [],
    overflow := [], overfull := false }

/-- The statistics counters' first selections, all at 0 (R163). -/
def Stat.resetAll : List Stat :=
  [⟨.framesSent, 0⟩, ⟨.goodReplies, 0⟩, ⟨.replyTimeouts, 0⟩, ⟨.checkErrors, 0⟩]

/-- A bus at full reset (R166, R47, R82, R43, R83, R156, R161 to R163). -/
def Bus.reset : Bus :=
  { switch := .off, lastOff := .none, blanking := false, switchedOn := 0, tripCurrent := false,
    tripJabber := false, peak := 0, latest := 0, overCount := 0, threshold := 2500, tripCount := 3,
    concurrencyLimit := 4, queueA := [], queueB := [], credit := 3, protocol := .down, txn := none,
    haltBroadcast := false, haltAddressed := [], pendingOps := [],
    addresses := List.replicate Config.robotsPerBus none, keepaliveTime := none,
    lastPolled := none, lastKeepalive := none, census := .reset, nextWindow := 4, round := none,
    stats := Stat.resetAll, lastFrames := [] }

/-- Every latched notice clear (R176). -/
def Notices.reset : Notices :=
  { fieldEnded := false, deadline := false, modeChange := false, busTrip := false, wiring := false,
    peerChange := false, inquiryDone := false, outcomeOverflow := false }

/-- A station port at full reset, with `n` notices, all enabled (R173, R174, R176). -/
def StationPort.reset (n : Nat) : StationPort :=
  { queue := [], mask := List.replicate n true, overrun := false, errors := 0, response := none }

/-- The block right after full reset by power-on (R14, R16, R35, R37, R43, R45, R72, R82, R97, R99,
R106, R112, R133, R156, R161 to R164, R166, R174, R176, R179, R180). -/
def State.reset : State :=
  { pending := [], now := 0, map := none, loader := none, lenses := [], siteLens := [],
    digests := List.replicate 6 0xFFFF#16, robots := [], targets := [], outcomes := [],
    overflow := false, mode := .init, field := .reset, timer := .reset, inputs := .reset,
    posChanged := false, params := .reset, links := List.replicate 6 .reset,
    buses := List.replicate 8 .reset, inquiry := .empty, converter := 0, conversionDue := true, notices := .reset,
    sequencer := .reset 9, metrology := .reset 1, resetCause := .powerOn }

end Sys2Proof.Machine
end

