-- ==== Sys2Proof/Machine/Operands.lean ====
section
/-! DEFINITION. The integer computations of chapter 3, the leg plan of R78, the CRC of R7 and the
saturating counts. -/

namespace Sys2Proof.Machine

/-- A count that stops at its maximum (00: counters saturate). -/
def satInc (top n : Nat) : Nat := if n < top then n + 1 else n

/-- A difference taken without sign (R36). -/
def absDiff (a b : Nat) : Nat := (a - b) + (b - a)

/-! ### CRC-16 (R7) -/

/-- One step of the CRC register. -/
def crcStep (r : Word16) : Word16 := if r.msb then (r <<< 1) ^^^ 0x1021#16 else r <<< 1

/-- One byte combined into the upper eight bits, then eight steps. -/
def crcByte (r : Word16) (b : Byte) : Word16 :=
  crcStep (crcStep (crcStep (crcStep (crcStep (crcStep (crcStep (crcStep
    (r ^^^ (b.zeroExtend 16 <<< 8)))))))))

/-- The CRC of a list of bytes, from FFFF hex. -/
def crc16 (bytes : List Byte) : Word16 := bytes.foldl crcByte 0xFFFF#16

/-- The value of two bytes, most significant first (R181). -/
def word16 (hi lo : Byte) : Word16 := hi ++ lo

/-! ### Facing (R33), sector (R34) and extension (R35) -/

/-- Facing of alpha `a` at mount offset `m` (R33). -/
def facing (m a : Nat) : Nat := (a + m) % Config.turn

/-- Facing sector of a facing (R34). -/
def facingSector (f : Nat) : Nat := ((f + Config.halfSector) % Config.turn) / Config.sectorWidth

/-- sector(a) at a site (R34). -/
def Site.sector (x : Site) (a : Nat) : Nat := facingSector (facing x.mount a)

/-- Beta `b` is extended at stow angle `stow` (R35). -/
def extended (stow b : Nat) : Bool := decide (stow < b)

/-- The position lies within the site's limits (R74, R110, R128). -/
def Site.allows (x : Site) (alpha beta : Nat) : Bool :=
  decide (x.alphaMin ≤ alpha) && decide (alpha ≤ x.alphaMax) && decide (beta ≤ x.betaMax)

/-! ### Leg planning (R36, R78) -/

/-- The TRIM condition (R36). -/
def trimCondition (stow : Nat) (x : Site) (p q : Pos) : Bool :=
  extended stow p.beta && extended stow q.beta && x.sector p.alpha == x.sector q.alpha &&
    decide (absDiff q.alpha p.alpha < Config.sectorWidth)

/-- The STOW of a plan, where its condition holds (R78). -/
def stowLeg (stow : Nat) (p q : Pos) : List Leg :=
  if extended stow p.beta || (!extended stow q.beta && q.beta != p.beta) then
    [⟨.stow, none, some (if extended stow q.beta then stow else q.beta)⟩]
  else []

/-- The SLEW of a plan (R78). -/
def slewLeg (p q : Pos) : List Leg :=
  if q.alpha = p.alpha then [] else [⟨.slew, some q.alpha, none⟩]

/-- The DEPLOY of a plan (R78). -/
def deployLeg (stow : Nat) (q : Pos) : List Leg :=
  if extended stow q.beta then [⟨.deploy, none, some q.beta⟩] else []

/-- The plan of a move from `p` to `q` (R78). -/
def planLegs (stow : Nat) (x : Site) (p q : Pos) : List Leg :=
  if trimCondition stow x p q then [⟨.trim, some q.alpha, some q.beta⟩]
  else stowLeg stow p q ++ slewLeg p q ++ deployLeg stow q

/-- The plan of a HOME (R78). -/
def homeLegs : List Leg := [⟨.fold, none, none⟩, ⟨.seek, none, none⟩]

/-- The leg's reported position is its carried target on every axis it drives (R84 step 3). -/
def Leg.onTarget (l : Leg) (p : Pos) : Bool :=
  (match l.alpha with
    | some a => a == p.alpha
    | none => true) &&
  (match l.beta with
    | some b => b == p.beta
    | none => true)

/-! ### Correction stages (R38 to R42) -/

/-- Scaling (R39). -/
def scaleOffset (g : Nat) (d : Int) : Int :=
  if d < 0 then -(((d.natAbs * g + 128) / 256 : Nat) : Int) else ((d.natAbs * g + 128) / 256 : Nat)

/-- Bound (R40): the bounded offset and whether it was bounded. -/
def boundOffset (c : Nat) (q : Int) : Int × Bool :=
  if (c : Int) < q then (c, true) else if q < -(c : Int) then (-(c : Int), true) else (q, false)

/-- Backlash (R41). -/
def backlashOffset (memory : Option Sign) (backlash : Nat) (q : Int) : Int :=
  match memory with
  | some .plus => if q < 0 then q - backlash else q
  | some .minus => if 0 < q then q + backlash else q
  | none => q

/-- A sum brought within an axis's limits, and whether that changed it (R42). -/
def clampAxis (lo hi : Nat) (v : Int) : Nat × Bool :=
  if v < lo then (lo, true) else if (hi : Int) < v then (hi, true) else (v.toNat, false)

/-- What the stages from scaling on give for a report (R40, R42). -/
inductive StageResult where
  | null (limited : Bool)
  | target (p : Pos) (limited : Bool)
deriving DecidableEq, Repr

/-- The target stage on both axes (R42). -/
def targetStage (x : Site) (p : Pos) (qa qb : Int) (limited : Bool) : StageResult :=
  let a := clampAxis x.alphaMin x.alphaMax (p.alpha + qa)
  let b := clampAxis 0 x.betaMax (p.beta + qb)
  let lim := limited || a.2 || b.2
  if a.1 = p.alpha ∧ b.1 = p.beta then .null lim else .target ⟨a.1, b.1⟩ lim

/-- Scaling, bound, backlash and target of one report (R39 to R42). -/
def correctionStages (prm : Params) (x : Site) (p : Pos) (dirA dirB : Option Sign)
    (dAlpha dBeta : Int) : StageResult :=
  let qa := boundOffset prm.maxCorrection (scaleOffset prm.gain dAlpha)
  let qb := boundOffset prm.maxCorrection (scaleOffset prm.gain dBeta)
  if qa.1 = 0 ∧ qb.1 = 0 then .null false
  else targetStage x p (backlashOffset dirA x.backlashAlpha qa.1)
    (backlashOffset dirB x.backlashBeta qb.1) (qa.2 || qb.2)

/-! ### Direction memory (R28) -/

/-- The direction memory of an axis after a report of `now` where `before` was believed (R28). -/
def axisMemory (memory : Option Sign) (before : Option Nat) (now : Nat) : Option Sign :=
  match before with
  | none => memory
  | some b => if b < now then some .plus else if now < b then some .minus else memory

/-! ### Moves, tallies and shares -/

/-- Class A moves are all but corrections (R72). -/
def MoveKind.classA : MoveKind → Bool
  | .field => true
  | .moveTo => true
  | .park => true
  | .home => true
  | .correction => false

/-- The leg a move is at (R72). -/
def Move.leg (m : Move) : Option Leg := m.legs[m.index]?

/-- The move is a HOME. -/
def Move.isHome (m : Move) : Bool := m.kind == .home

/-- One more end with outcome `o` (R114). -/
def Tally.add (t : Tally) : MoveOutcome → Tally
  | .done => { t with done := t.done + 1 }
  | .denied => { t with denied := t.denied + 1 }
  | .timeout => { t with timeout := t.timeout + 1 }
  | .aborted => { t with aborted := t.aborted + 1 }
  | .disabled => { t with disabled := t.disabled + 1 }
  | .halted => { t with halted := t.halted + 1 }
  | .cut => { t with cut := t.cut + 1 }
  | .stalled => { t with stalled := t.stalled + 1 }
  | .fault => { t with fault := t.fault + 1 }
  | .lost => { t with lost := t.lost + 1 }

/-- The sum of the ten outcome counts (R112). -/
def Tally.total (t : Tally) : Nat :=
  t.done + t.denied + t.timeout + t.aborted + t.disabled + t.halted + t.cut + t.stalled + t.fault +
    t.lost

/-- FIELD moves that have not yet ended (R112). -/
def FieldRecord.inProgress (f : FieldRecord) : Nat := f.admitted - f.counts.total

/-- The ratio r, where the credit is used (R43). -/
def ShareRatio.credit : ShareRatio → Option Nat
  | .one => some 1
  | .three => some 3
  | .seven => some 7
  | .strictA => none

/-- The fault code a FAULT reply gives (R30). -/
def FaultCode.ofReply : ReplyFault → FaultCode
  | .stall => .stall
  | .limitSwitch => .limitSwitch
  | .driver => .driver

/-- The denial reason a refusal message stands for at the arbiter (R53, R57, R144). -/
def DenyReason.ofRefusal : RefuseReason → DenyReason
  | .taken => .taken
  | .pinned => .pinned

/-! ### Deadline timer (R45, R46) -/

/-- Elapsed time of the field in units of 100 ms (R46). -/
def Timer.elapsed (t : Timer) : Nat :=
  match t.phase with
  | .stopped => 0
  | .down => t.loaded - t.remaining
  | .overtime => t.loaded + t.overtime
  | .held => if 0 < t.remaining then t.loaded - t.remaining else t.loaded + t.overtime

/-- The timer at a CONFIGURE (R45). -/
def Timer.start (preset : Nat) : Timer :=
  { loaded := preset, remaining := preset, overtime := 0, phase := .down, ms := 0 }

/-- The field ends: HELD with the counts kept (R46). -/
def Timer.hold (t : Timer) : Timer := { t with phase := .held }

/-- The timer expires: OVER with remaining 0 and overtime 0 (R46). -/
def Timer.expire (t : Timer) : Timer :=
  { t with remaining := 0, overtime := 0, phase := .overtime, ms := 0 }

/-- One millisecond of the timer (R46). The decrease that would reach 0 is the expiry itself, which
is the command DEADLINE_EXPIRY: the count waits at 1 for it. -/
def Timer.tick (t : Timer) : Timer :=
  if t.ms + 1 < Config.deadlineUnit then
    match t.phase with
    | .down => { t with ms := t.ms + 1 }
    | .overtime => { t with ms := t.ms + 1 }
    | .stopped => t
    | .held => t
  else
    match t.phase with
    | .down => if 1 < t.remaining then { t with remaining := t.remaining - 1, ms := 0 } else t
    | .overtime => { t with overtime := satInc Config.top16 t.overtime, ms := 0 }
    | .stopped => t
    | .held => t

/-- The expiry is due at the next millisecond (R46). -/
def Timer.due (t : Timer) : Bool :=
  t.phase == .down && decide (t.remaining ≤ 1) && decide (Config.deadlineUnit ≤ t.ms + 1)

end Sys2Proof.Machine
end

