-- ==== Sys2Proof/Machine/Ops.lean ====
section
/-! DEFINITION. Access to the parts of the state, the response to a request, and the notices. -/

namespace Sys2Proof.Machine

/-! ### Parts of the state -/

/-- The installed record of a site (R1). -/
def State.site? (s : State) (i : Nat) : Option Site := s.map.bind (·.sites[i]?)

/-- The site count, 0 with no map (R1). -/
def State.siteCount (s : State) : Nat := (s.map.map (·.sites.length)).getD 0

/-- This sector's number, 0 with no map (R3). -/
def State.sectorNumber (s : State) : Nat := (s.map.map (·.sector)).getD 0

/-- A link's neighbour sector number, 0 with no map (R3). -/
def State.neighbourNumber (s : State) (link : Nat) : Nat :=
  (s.map.map (·.neighbours.getD link 0)).getD 0

/-- A link's border digest (R7). -/
def State.digest (s : State) (link : Nat) : Word16 := s.digests.getD link 0xFFFF#16

/-- The lens in direction `dir` of a site, or none (R6). -/
def State.lensToward (s : State) (site dir : Nat) : Option Nat :=
  ((s.siteLens.getD site []).getD dir none)

/-- This part is the arbiter side of the link (R133). -/
def State.isArbiter (s : State) (link : Nat) : Bool :=
  s.map.isSome && decide (s.sectorNumber < s.neighbourNumber link)

/-- This part is the client side of the link (R133). -/
def State.isClient (s : State) (link : Nat) : Bool :=
  s.map.isSome && decide (s.neighbourNumber link < s.sectorNumber)

/-- Change the robot record of a site. -/
def State.modRobot (s : State) (i : Nat) (f : Robot → Robot) : State :=
  { s with robots := s.robots.modify i f }

/-- Change the move record of a site's robot, where it has one. -/
def State.modMove (s : State) (i : Nat) (f : Move → Move) : State :=
  s.modRobot i fun r => { r with move := r.move.map f }

/-- Change the record of a bus. -/
def State.modBus (s : State) (b : Nat) (f : Bus → Bus) : State :=
  { s with buses := s.buses.modify b f }

/-- Change a link unit. -/
def State.modLink (s : State) (n : Nat) (f : Link → Link) : State :=
  { s with links := s.links.modify n f }

/-- Change a lens record. -/
def State.modLens (s : State) (i : Nat) (f : LensBody → LensBody) : State :=
  { s with lenses := s.lenses.modify i fun l => { l with body := f l.body } }

/-- The bus of a site's robot. -/
def State.busOf (s : State) (site : Nat) : Nat := (s.robots[site]?.map (·.bus)).getD 0

/-- Do `f` for each site index in ascending order. -/
def State.forSites (s : State) (f : Nat → State → State) : State :=
  (List.range s.robots.length).foldl (fun t i => f i t) s

/-- Do `f` for each lens index in ascending order. -/
def State.forLenses (s : State) (f : Nat → State → State) : State :=
  (List.range s.lenses.length).foldl (fun t i => f i t) s

/-- A robot that is executing a leg or being halted, which the concurrency count counts (R83). -/
def Robot.inMotion (r : Robot) : Bool := r.state == .inLeg || r.state == .halting

/-- The concurrency count of a bus (R83). -/
def State.concurrency (s : State) (b : Nat) : Nat :=
  s.robots.countP fun r => r.bus == b && r.inMotion

/-- Some robot has a move (R72). -/
def State.anyMove (s : State) : Bool := s.robots.any (·.move.isSome)

/-- The believed position, where both axes are present (R18). -/
def Robot.believed (r : Robot) : Option Pos :=
  match r.alpha, r.beta with
  | some a, some b => some ⟨a, b⟩
  | _, _ => none

/-- The robot's position becomes absent (R19, R20, R76). -/
def Robot.forget (r : Robot) : Robot := { r with alpha := none, beta := none }

/-! ### Notices (R176) -/

/-- FIELD_ENDED is latched. -/
def State.latchFieldEnded (s : State) : State :=
  { s with notices := { s.notices with fieldEnded := true } }

/-- DEADLINE is latched. -/
def State.latchDeadline (s : State) : State :=
  { s with notices := { s.notices with deadline := true } }

/-- BUS_TRIP is latched. -/
def State.latchBusTrip (s : State) : State :=
  { s with notices := { s.notices with busTrip := true } }

/-- WIRING is latched. -/
def State.latchWiring (s : State) : State :=
  { s with notices := { s.notices with wiring := true } }

/-- PEER_CHANGE is latched. -/
def State.latchPeerChange (s : State) : State :=
  { s with notices := { s.notices with peerChange := true } }

/-- INQUIRY_DONE is latched. -/
def State.latchInquiryDone (s : State) : State :=
  { s with notices := { s.notices with inquiryDone := true } }

/-- OUTCOME_OVERFLOW is latched. -/
def State.latchOutcomeOverflow (s : State) : State :=
  { s with notices := { s.notices with outcomeOverflow := true } }

/-- Two modes are the same but for the frozen cause (R99). -/
def Mode.same : Mode → Mode → Bool
  | .init, .init => true
  | .opened, .opened => true
  | .frozen _, .frozen _ => true
  | .halted, .halted => true
  | _, _ => false

/-- The sector mode becomes `m`; MODE_CHANGE is latched where that changes it (R99). -/
def State.enterMode (s : State) (m : Mode) : State :=
  { s with
    mode := m
    notices := { s.notices with modeChange := s.notices.modeChange || !s.mode.same m } }

/-! ### Requests and responses (R174, R175) -/

/-- The record of a port. -/
def State.port (s : State) : PortId → StationPort
  | .sequencer => s.sequencer
  | .metrology => s.metrology

/-- Change the record of a port. -/
def State.modPort (s : State) (p : PortId) (f : StationPort → StationPort) : State :=
  match p with
  | .sequencer => { s with sequencer := f s.sequencer }
  | .metrology => { s with metrology := f s.metrology }

/-- What a port that is to take a request finds at the head of its queue (R174, R175). -/
inductive Turn where
  /-- The request is next: it is the head, or the queue is empty and it is taken at once. -/
  | next
  /-- The request is the head, and its length field was wrong. -/
  | wrongLength
  /-- Another request is the head: this one's turn has not come. -/
  | later
deriving DecidableEq, Repr

/-- Whose turn it is at a queue (R174). A request that finds the queue empty is one taken at once as it
arrives; the head is this request where it has its tag and code. DESIGN CHOICE (log entry 11). -/
def turnAt (tag code : Byte) : List QueuedRequest → Turn
  | [] => .next
  | q :: _ =>
    if q.tag = tag ∧ q.code = code then (if q.badLength then .wrongLength else .next) else .later

/-- The queue after a request is taken: the head leaves where it is this request (R174). -/
def dropTaken (tag code : Byte) : List QueuedRequest → List QueuedRequest
  | [] => []
  | q :: rest => if q.tag = tag ∧ q.code = code then rest else q :: rest

/-- Whether it is a request's turn at its port (R174). -/
def State.turn (s : State) (p : PortId) (tag code : Byte) : Turn := turnAt tag code (s.port p).queue

/-- A request is taken from its port's queue (R174). -/
def State.takeRequest (s : State) (p : PortId) (tag code : Byte) : State :=
  s.modPort p fun x => { x with queue := dropTaken tag code x.queue }

/-- The response to a request leaves its port (R174). -/
def State.respond (s : State) (p : PortId) (r : Response) : State :=
  s.modPort p fun x => { x with response := some r }

/-- Which ports may issue a request (R175). -/
inductive Rights where
  | sequencerOnly
  | metrologyOnly
  | both
deriving DecidableEq, Repr

/-- The request is permitted on the port (R175). -/
def Rights.allow : Rights → PortId → Bool
  | .sequencerOnly, .sequencer => true
  | .sequencerOnly, .metrology => false
  | .metrologyOnly, .sequencer => false
  | .metrologyOnly, .metrology => true
  | .both, _ => true

/-- What a request leaves and answers: the state, the status and the contents of the response. -/
structure Answer where
  state : State
  status : Status
  body : Body

/-- Refuse with a status: nothing changes (R175). -/
def refuseWith (s : State) (st : Status) : Answer := ⟨s, st, .none⟩

/-- Taken, with these contents. -/
def okWith (s : State) (b : Body) : Answer := ⟨s, .ok, b⟩

/-- A request is taken and answered with a status and nothing else (R174, R175). -/
def State.answerOnly (s : State) (port : PortId) (tag code : Byte) (status : Status) : State :=
  (s.takeRequest port tag code).respond port ⟨tag, code, status, (s.port port).overrun, .none⟩

/-- A request whose turn it is is taken from its queue, checked against the port's rights (R175) and its
payload's size (R173), acts by its owning rule, and is answered once (R174). The overrun latch in the
response is the one that stood when the request was taken. A head whose length field was wrong is
answered BAD_FRAME before all else (R175), and a request whose turn has not come waits. -/
def State.serve (s : State) (r : Req) (code : Byte) (rights : Rights) (act : State → Answer) :
    State :=
  match s.turn r.port r.tag code with
  | .later => s
  | .wrongLength => s.answerOnly r.port r.tag code .badFrame
  | .next =>
    let t := s.takeRequest r.port r.tag code
    let a :=
      if rights.allow r.port = false then refuseWith t .notPermitted
      else if r.fits = false then refuseWith t .badArg
      else act t
    a.state.respond r.port ⟨r.tag, code, a.status, (s.port r.port).overrun, a.body⟩

/-- The site checks of R16: no map, or an index not below the site count. -/
def siteCheck (s : State) (site : Nat) : Option Status :=
  if s.map.isNone then some .noMap
  else if s.siteCount ≤ site then some .badArg
  else none

/-- A range check of a reading request (R32, R71, R118): no map, a count of 0 or above `most`, or a
range that goes beyond `size`. -/
def rangeCheck (s : State) (first count most size : Nat) : Option Status :=
  if s.map.isNone then some .noMap
  else if count = 0 ∨ most < count then some .badArg
  else if size < first + count then some .badArg
  else none

end Sys2Proof.Machine
end

