-- ==== Sys2Proof/Machine/LensRecords.lean ====
section
/-! DEFINITION. One lens record: its sides, its role, and the changes a rule can make to it (chapter 4).
Each change of a decided record keeps `Decided.wf`, the bounds of R49. -/

namespace Sys2Proof.Machine

/-- The other side. -/
def Party.other : Party → Party
  | .a => .b
  | .b => .a

/-- The link of a remote side. -/
def LensSide.link : LensSide → Option Nat
  | .site _ => none
  | .remote n _ => some n

/-- The site index of a side, in whichever sector it is. -/
def LensSide.index : LensSide → Nat
  | .site i => i
  | .remote _ i => i

/-- The side of a lens that a party stands for. -/
def Lens.side (l : Lens) : Party → LensSide
  | .a => l.a
  | .b => l.b

/-- The link of a border lens. -/
def Lens.link (l : Lens) : Option Nat := l.a.link.or l.b.link

/-- The party of a site of this sector in a lens. -/
def Lens.partyOf (l : Lens) (site : Nat) : Option Party :=
  if l.a = .site site then some .a else if l.b = .site site then some .b else none

/-- The party of the remote side. -/
def Lens.remoteParty (l : Lens) : Option Party :=
  if l.a.link.isSome then some .a else if l.b.link.isSome then some .b else none

/-- The role of a lens (R3): a client record is a CLIENT lens, a decided record is LOCAL or ARBITER
as both sides are local or one is remote. -/
def Lens.role (l : Lens) : LensRole :=
  match l.body with
  | .client _ => .client
  | .decided _ => if l.link.isSome then .arbiter else .within

/-- The arbiter-side and client-side site indices of a border lens (R4, R135): side A is the arbiter
side in both roles. -/
def Lens.pair (l : Lens) : Nat × Nat := (l.a.index, l.b.index)

/-! ### Decided records (R49) -/

/-- An empty decided record. -/
def Decided.empty : Decided :=
  { holder := none, pinA := false, pinB := false, waiter := none, deadline := none }

/-- An empty client record. -/
def Client.empty : Client := { claim := .none, deadline := none, lastRefusal := none }

/-- A side pins the lens. -/
def Decided.pinned (d : Decided) : Party → Bool
  | .a => d.pinA
  | .b => d.pinB

/-- Set or clear the pin of a side. -/
def Decided.setPin (d : Decided) (p : Party) (v : Bool) : Decided :=
  match p with
  | .a => { d with pinA := v }
  | .b => { d with pinB := v }

/-- A side is holder, of either kind. -/
def Decided.heldBy (d : Decided) (p : Party) : Bool := d.holder.any fun h => h.1 == p

/-- The state read from the record (R49). -/
def Decided.state (d : Decided) : LensState :=
  match d.holder with
  | some (_, .reserved) => .reserved
  | some (_, .occupied) => .occupied
  | none => if d.pinA || d.pinB then .pinned else .free

/-- The bounds of R49: no holder beside a pin, a waiter only behind the other side's holding, and a
wait deadline only with a waiter. -/
def Decided.wf (d : Decided) : Bool :=
  (d.holder.isNone || (!d.pinA && !d.pinB)) &&
  (match d.waiter with
    | none => d.deadline.isNone
    | some w => d.heldBy w.other)

/-- The waiter is removed with its deadline (R57). -/
def Decided.dropWaiter (d : Decided) : Decided := { d with waiter := none, deadline := none }

/-- A holding is released: the waiter becomes holder RESERVED, otherwise nobody holds (R59, R57). -/
def Decided.release (d : Decided) : Decided :=
  match d.holder, d.waiter with
  | none, _ => d
  | some _, some w => { d with holder := some (w, .reserved), waiter := none, deadline := none }
  | some _, none => { d with holder := none, deadline := none }

/-- The holding turns into a pin of side `p`, and the waiter goes (R62, R67, R68). -/
def Decided.toPin (d : Decided) (p : Party) : Decided :=
  { (d.setPin p true) with holder := none, waiter := none, deadline := none }

/-- A pin is added where there is no holder (R63, R67, R68). -/
def Decided.addPin (d : Decided) (p : Party) : Decided :=
  if d.holder.isNone then d.setPin p true else d

/-- The pin of a side is removed. -/
def Decided.removePin (d : Decided) (p : Party) : Decided := d.setPin p false

/-- The hold kind of a side's holding becomes `k` (R60, R61, R68). -/
def Decided.setKind (d : Decided) (p : Party) (k : HoldKind) : Decided :=
  if d.heldBy p then { d with holder := some (p, k) } else d

/-- A side becomes holder OCCUPIED and its own pin goes; nothing changes where the other side has a
part that stands against it (R66, R68, R141). -/
def Decided.occupyBy (d : Decided) (p : Party) : Decided :=
  if d.pinned p.other || d.heldBy p.other then d
  else { (d.removePin p) with holder := some (p, .occupied) }

/-- A FREE lens is granted: the claimant becomes holder RESERVED (R53 row 1). -/
def Decided.grantTo (d : Decided) (p : Party) : Decided :=
  { d with holder := some (p, .reserved), pinA := false, pinB := false, waiter := none,
           deadline := none }

/-- A claim is queued: the claimant becomes waiter behind the other side, with no deadline (R56). -/
def Decided.queueFor (d : Decided) (p : Party) : Decided :=
  if d.heldBy p.other then { d with waiter := some p, deadline := none } else d

/-- A wait deadline is set for a waiting side (R56). -/
def Decided.setDeadline (d : Decided) (p : Party) (t : Nat) : Decided :=
  if d.waiter = some p then { d with deadline := some t } else d

/-! ### Claim decisions (R53) -/

/-- The result of a claim (R52). -/
inductive ClaimResult where
  | grant
  | queue
  | deny (reason : DenyReason)
deriving DecidableEq, Repr

/-- The decision table of R53. `remoteHolds`: the holder is the remote side. `leaving`: the holder's
move has another target lens, or none. -/
def decideClaim (d : Decided) (remoteHolds leaving : Bool) : ClaimResult :=
  match d.holder with
  | none => if d.pinA || d.pinB then .deny .pinned else .grant
  | some (_, kind) =>
    if remoteHolds then .queue
    else
      match kind with
      | .reserved => .deny .taken
      | .occupied => if leaving then .queue else .deny .taken

/-- The record after a claim by side `p` (R53). -/
def applyClaim (d : Decided) (p : Party) : ClaimResult → Decided
  | .grant => d.grantTo p
  | .queue => d.queueFor p
  | .deny _ => d

/-! ### Reconciliation's test on one lens (R65) -/

/-- The robot of a site holds this lens as its facing lens (R65). -/
def Lens.heldForFacing (l : Lens) (site : Nat) : Bool :=
  match l.body with
  | .client c => c.claim == .heldReserved || c.claim == .heldOccupied || c.claim == .pinned
  | .decided d =>
    match l.partyOf site with
    | none => false
    | some p =>
      d.heldBy p || (d.pinned p && !d.pinned p.other && !d.heldBy p.other)

/-! ### What a robot holds, read from the table (R51) -/

/-- The lens is the site's occupied lens. -/
def Lens.occupiedBy (l : Lens) (site : Nat) : Bool :=
  match l.partyOf site with
  | none => false
  | some p =>
    match l.body with
    | .decided d => d.holder == some (p, .occupied)
    | .client c => c.claim == .heldOccupied

/-- The lens is the site's reserved lens. -/
def Lens.reservedBy (l : Lens) (site : Nat) : Bool :=
  match l.partyOf site with
  | none => false
  | some p =>
    match l.body with
    | .decided d => d.holder == some (p, .reserved)
    | .client c => c.claim == .heldReserved

/-- The lens is among the site's pins. -/
def Lens.pinnedBy (l : Lens) (site : Nat) : Bool :=
  match l.partyOf site with
  | none => false
  | some p =>
    match l.body with
    | .decided d => d.pinned p
    | .client c => c.claim == .pinned

/-- The lens index `i` satisfies `f`. -/
def State.lensHas (s : State) (f : Lens → Bool) (i : Nat) : Bool := s.lenses[i]?.any f

/-- The occupied lens of a site's robot (R51). -/
def State.occupiedLens (s : State) (site : Nat) : Option Nat :=
  (List.range s.lenses.length).find? (s.lensHas fun l => l.occupiedBy site)

/-- The reserved lens of a site's robot (R51). -/
def State.reservedLens (s : State) (site : Nat) : Option Nat :=
  (List.range s.lenses.length).find? (s.lensHas fun l => l.reservedBy site)

/-- The pins of a site's robot, ascending (R51). -/
def State.pinsOf (s : State) (site : Nat) : List Nat :=
  (List.range s.lenses.length).filter (s.lensHas fun l => l.pinnedBy site)

/-! ### Border lists (R135) -/

/-- The border list of a link: its lens indices in canonical order. -/
def State.borderList (s : State) (link : Nat) : List Nat :=
  (List.range s.lenses.length).filter (s.lensHas fun l => l.link == some link)

/-- How a border message names a lens (R135). -/
def State.lensName (s : State) (link i : Nat) : LensName :=
  let pair := (s.lenses[i]?.map Lens.pair).getD (0, 0)
  ⟨(s.borderList link).idxOf i, pair.1, pair.2⟩

/-- The lens a border message names on a link, or none where the position lies beyond the list or
the pair differs (R135). -/
def State.lensNamed (s : State) (link : Nat) (n : LensName) : Option Nat :=
  match (s.borderList link)[n.position]? with
  | none => none
  | some i =>
    if s.lenses[i]?.map Lens.pair = some (n.arbiterSite, n.clientSite) then some i else none

end Sys2Proof.Machine
end

