-- ==== Sys2Proof/Machine/Links.lean ====
section
/-! DEFINITION. The peer link units: entering a state, sending, departure from UP and frame errors
(R133 to R145). -/

namespace Sys2Proof.Machine

/-! ### Denial of a local robot's claim -/

/-- The lens table denies the waiting claim of a local robot (R93). While the robot is IN_LEG the
reason is the pending denial of its move. A QUEUED or WAIT_LENS robot's move ends within the same
event: it carries the reason until `State.endDenied` ends it there. A HALTING robot is not affected. -/
def State.denyRobot (s : State) (site : Nat) (reason : DenyReason) : State :=
  match s.robots[site]? with
  | none => s
  | some r =>
    if r.state = .queued ∨ r.state = .waitLens ∨ r.state = .inLeg then
      s.modMove site fun m => { m with pendingDenial := some reason }
    else s

/-! ### Entering a link state (R138, R148) -/

/-- Enter a link state. PEER_CHANGE is latched where the state changes (R148). -/
def State.enterLink (s : State) (n : Nat) (st : LinkState) (f : Link → Link) : State :=
  match s.links[n]? with
  | none => s
  | some l =>
    let t := s.modLink n fun x => { f x with state := st, since := s.now, takenAt := s.now }
    if l.state = st then t else t.latchPeerChange

/-- The IDENT this part sends on a link (R137). -/
def State.identFrame (s : State) (n : Nat) (ack : Bool) : PeerFrame :=
  ⟨s.sectorNumber, 0,
    .ident ⟨s.sectorNumber, s.neighbourNumber n, Config.protocolLevel, s.digest n, ack⟩⟩

/-- Enter PROBING: match count 0, no last IDENT, partner acknowledged clear, the queue emptied, and
the IDENT of the entry sent (R137, R138). -/
def State.enterProbing (s : State) (n : Nat) : State :=
  s.enterLink n .probing fun l =>
    { l with matchCount := 0, lastIdent := none, partnerAck := false,
             transmit := [s.identFrame n false], identAt := s.now }

/-- Enter DISABLED (R134). -/
def State.enterDisabled (s : State) (n : Nat) : State :=
  s.enterLink n .disabled fun l => { l with transmit := [], lastIdent := none }

/-- Enter FAULT (R147). -/
def State.enterFault (s : State) (n : Nat) : State :=
  s.enterLink n .fault fun l => { l with transmit := [] }

/-- Enter UP (R141, R142). -/
def State.enterUp (s : State) (n : Nat) : State := s.enterLink n .up fun l => l

/-! ### Departure from UP (R145) -/

/-- Departure at one lens of the link: an arbiter's remote waiter is removed with nothing sent; a
client's CLAIMING record becomes NONE and its robot is denied LINK_DOWN (R145, R69). -/
def State.departLens (s : State) (n i : Nat) : State :=
  match s.lenses[i]? with
  | none => s
  | some l =>
    if l.link = some n then
      match l.body with
      | .decided d =>
        if d.waiter.isSome && d.waiter == l.remoteParty then
          s.modLens i fun _ => .decided d.dropWaiter
        else s
      | .client c =>
        if c.claim = .claiming then
          (s.modLens i fun _ => .client { c with claim := .none, deadline := none }).denyRobot
            l.b.index .linkDown
        else s
    else s

/-- Departure from UP, but for the state entered: the queue is emptied, the drop counted, the
was-down flag set and the link's lenses acted on in ascending index (R145). -/
def State.depart (s : State) (n : Nat) : State :=
  (s.modLink n fun l =>
    { l with transmit := [], drops := satInc Config.top8 l.drops, wasDown := true }).forLenses
      fun i t => t.departLens n i

/-- A link is taken down to PROBING: a departure first where it was UP (R135, R136, R143, R145). -/
def State.takeDown (s : State) (n : Nat) : State :=
  match s.links[n]? with
  | none => s
  | some l => if l.state = .up then (s.depart n).enterProbing n else s.enterProbing n

/-! ### Sending (R135) -/

/-- A frame joins the tail of the transmit queue; a full queue takes the link down instead (R135). -/
def State.joinTransmit (s : State) (n : Nat) (f : PeerFrame) : State :=
  match s.links[n]? with
  | none => s
  | some l =>
    if l.transmit.length < Config.transmitDepth then
      s.modLink n fun x => { x with transmit := x.transmit ++ [f] }
    else s.takeDown n

/-- A numbered frame joins the queue with the unit's send sequence, which advances modulo 256. -/
def State.sendNumbered (s : State) (n : Nat) (b : PeerBody) : State :=
  match s.links[n]? with
  | none => s
  | some l =>
    if l.transmit.length < Config.transmitDepth then
      s.modLink n fun x =>
        { x with transmit := x.transmit ++ [⟨s.sectorNumber, x.sendSeq, b⟩]
                 sendSeq := (x.sendSeq + 1) % 256 }
    else s.takeDown n

/-- The border message a rule calls for on lens `i`: it is sent only while the link is UP (R70). -/
def State.sendBorder (s : State) (n i : Nat) (m : BorderMessage) : State :=
  match s.links[n]? with
  | none => s
  | some l =>
    if l.state = .up then s.sendNumbered n (.border m (s.lensName n i)) else s

/-- An IDENT joins the queue (R137). -/
def State.sendIdent (s : State) (n : Nat) (ack : Bool) : State :=
  (s.modLink n fun l => { l with identAt := s.now }).joinTransmit n (s.identFrame n ack)

/-- Enter MATCHED: partner acknowledged clear, and an IDENT with ack sent at the entry (R137, R139). -/
def State.enterMatched (s : State) (n : Nat) : State :=
  (s.enterLink n .matched fun l => { l with partnerAck := false }).sendIdent n true

/-- What a client's SUMMARY says of a lens (R140). -/
def Lens.summaryState (l : Lens) : Option SummaryState :=
  match l.body with
  | .decided _ => none
  | .client c =>
    match c.claim with
    | .heldReserved => some .held
    | .heldOccupied => some .held
    | .pinned => some .pinned
    | .none => none
    | .claiming => none

/-- The entries of this part's SUMMARY on a link, in ascending border position (R140): an arbiter's
records are decided, so it lists nothing. -/
def State.summaryEntries (s : State) (n : Nat) : List (Nat × SummaryState) :=
  ((s.borderList n).zipIdx).filterMap fun x =>
    ((s.lenses[x.1]?).bind Lens.summaryState).map fun st => (x.2, st)

/-- Enter SYNCING: both sequences 0, the SUMMARY sent, its list kept as the sent summary (R135,
R140). -/
def State.enterSyncing (s : State) (n : Nat) : State :=
  (s.enterLink n .syncing fun l =>
    { l with sendSeq := 0, recvSeq := 0, sentSummary := s.summaryEntries n }).sendNumbered n
      (.summary (s.summaryEntries n))

/-! ### Frame errors (R136) -/

/-- A frame error is discarded and counted, and acts on the link by its state (R136). -/
def State.frameError (s : State) (n : Nat) : State :=
  match s.links[n]? with
  | none => s
  | some l =>
    let t := s.modLink n fun x => { x with errors := satInc Config.top16 x.errors }
    match l.state with
    | .disabled => s
    | .probing => t
    | .matched => t.takeDown n
    | .syncing => t.takeDown n
    | .up => t.takeDown n
    | .fault => t

end Sys2Proof.Machine
end

