-- ==== Sys2Proof/Machine/Lenses.lean ====
section
/-! DEFINITION. The lens table's operations: claims, grants, releases, loss conversion, pins and
reconciliation (R52 to R70). Where a rule acts on several lenses it acts in ascending lens index
(R135). -/

namespace Sys2Proof.Machine

/-! ### Dispatch queues (R82) -/

/-- The robot joins the tail of its bus's queue of its move's class (R82). -/
def State.joinQueue (s : State) (site : Nat) : State :=
  match s.robots[site]? with
  | none => s
  | some r =>
    match r.move with
    | none => s
    | some m =>
      if m.kind.classA then s.modBus r.bus fun b => { b with queueA := b.queueA ++ [site] }
      else s.modBus r.bus fun b => { b with queueB := b.queueB ++ [site] }

/-- The robot leaves its bus's dispatch queues (R82). -/
def State.leaveQueues (s : State) (site : Nat) : State :=
  match s.robots[site]? with
  | none => s
  | some r =>
    s.modBus r.bus fun b =>
      { b with queueA := b.queueA.filter (· != site), queueB := b.queueB.filter (· != site) }

/-! ### Telling a side (R57) -/

/-- A local robot is granted its lens: from WAIT_LENS it enters QUEUED and its DEPLOY joins its queue
(R81). In any other state it holds the lens RESERVED and nothing else changes. -/
def State.grantRobot (s : State) (site : Nat) : State :=
  match s.robots[site]? with
  | none => s
  | some r =>
    if r.state = .waitLens then (s.modRobot site fun x => { x with state := .queued }).joinQueue site
    else s

/-- The side that waited is granted: a local robot is told, a remote side is sent GRANT (R57). -/
def State.tellGrant (s : State) (i : Nat) : LensSide → State
  | .site j => s.grantRobot j
  | .remote n _ => s.sendBorder n i .grant

/-- The side that waited is denied: a local robot is told, a remote side is sent REFUSE (R57). -/
def State.tellDeny (s : State) (i : Nat) (reason : RefuseReason) : LensSide → State
  | .site j => s.denyRobot j (.ofRefusal reason)
  | .remote n _ => s.sendBorder n i (.refuse reason)

/-! ### Operations on one lens -/

/-- Replace a decided record. -/
def State.setDecided (s : State) (i : Nat) (d : Decided) : State := s.modLens i fun _ => .decided d

/-- Replace a client record. -/
def State.setClient (s : State) (i : Nat) (c : Client) : State := s.modLens i fun _ => .client c

/-- A holding of a decided record is released and its waiter granted (R59). -/
def State.releaseDecided (s : State) (i : Nat) (l : Lens) (d : Decided) : State :=
  let t := s.setDecided i d.release
  match d.holder, d.waiter with
  | some _, some w => t.tellGrant i (l.side w)
  | _, _ => t

/-- The waiter of a decided record is removed and denied (R57). -/
def State.denyWaiter (s : State) (i : Nat) (l : Lens) (d : Decided) (reason : RefuseReason) : State :=
  match d.waiter with
  | none => s
  | some w => (s.setDecided i d.dropWaiter).tellDeny i reason (l.side w)

/-- A holding turns into a pin of side `p`; a waiter is denied PINNED (R62, R67, R68). -/
def State.holdingToPin (s : State) (i : Nat) (l : Lens) (d : Decided) (p : Party) : State :=
  let t := s.setDecided i (d.toPin p)
  match d.waiter with
  | none => t
  | some w => t.tellDeny i .pinned (l.side w)

/-- A CLIENT record takes a claim state with its wait deadline cleared, and a message is sent (R69). -/
def State.clientTo (s : State) (i : Nat) (l : Lens) (c : Client) (st : ClaimState)
    (m : BorderMessage) : State :=
  (s.setClient i { c with claim := st, deadline := none }).sendBorder (l.link.getD 0) i m

/-! ### Claims by the move engine (R53, R55) -/

/-- The move of the robot that holds the lens has another target lens, or none (R53 rows 5, 6). -/
def State.holderLeaving (s : State) (i : Nat) (side : LensSide) : Bool :=
  match side with
  | .remote _ _ => false
  | .site j => ((s.robots[j]?).bind (·.move)).any fun m => m.targetLens != some i

/-- The decision on a decided record (R53). -/
def State.claimDecision (s : State) (i : Nat) (l : Lens) (d : Decided) : ClaimResult :=
  match d.holder with
  | none => decideClaim d false false
  | some (h, _) => decideClaim d (l.side h).link.isSome (s.holderLeaving i (l.side h))

/-- A claim by the move engine for the robot of `site` (R52, R53, R55). A CLIENT claim that finds its
link's transmit queue full takes the link down and is denied LINK_DOWN. -/
def State.claimFor (s : State) (site i : Nat) : State × ClaimResult :=
  match s.lenses[i]? with
  | none => (s, .deny .taken)
  | some l =>
    match l.body with
    | .decided d =>
      match l.partyOf site with
      | none => (s, .deny .taken)
      | some p => (s.setDecided i (applyClaim d p (s.claimDecision i l d)), s.claimDecision i l d)
    | .client c =>
      match l.link.bind (s.links[·]?) with
      | none => (s, .deny .linkDown)
      | some k =>
        if k.state ≠ .up then (s, .deny .linkDown)
        else
          match c.claim with
          | .none =>
            if k.transmit.length < Config.transmitDepth then (s.clientTo i l c .claiming .claim, .queue)
            else (s.takeDown (l.link.getD 0), .deny .linkDown)
          | .pinned => (s, .deny .pinned)
          | .claiming => (s, .deny .taken)
          | .heldReserved => (s, .deny .taken)
          | .heldOccupied => (s, .deny .taken)

/-- Set the wait deadline of a robot that enters WAIT_LENS (R56). -/
def State.setWaitDeadline (s : State) (site i : Nat) : State :=
  let t := s.now + 1000 * s.params.lensWaitLimit
  match s.lenses[i]? with
  | none => s
  | some l =>
    match l.body with
    | .decided d =>
      match l.partyOf site with
      | none => s
      | some p => s.setDecided i (d.setDeadline p t)
    | .client c => if c.claim = .claiming then s.setClient i { c with deadline := some t } else s

/-- A wait ends with TIMEOUT at the lens: the waiter field is cleared, or WITHDRAW is sent (R58). -/
def State.endWait (s : State) (site i : Nat) : State :=
  match s.lenses[i]? with
  | none => s
  | some l =>
    match l.body with
    | .decided d => if d.waiter.isSome && d.waiter == l.partyOf site then s.setDecided i d.dropWaiter else s
    | .client c => if c.claim = .claiming then s.clientTo i l c .none .withdraw else s

/-! ### A DEPLOY begins (R61) -/

/-- The target lens of a DEPLOY becomes OCCUPIED as its MOVE transaction begins (R61). -/
def State.occupyTarget (s : State) (site i : Nat) : State :=
  match s.lenses[i]? with
  | none => s
  | some l =>
    match l.body with
    | .decided d =>
      match l.partyOf site with
      | none => s
      | some p => s.setDecided i (d.setKind p .occupied)
    | .client c => if c.claim = .heldReserved then s.clientTo i l c .heldOccupied .hold else s

/-! ### The robot's part in one lens, at the events that end or change it -/

/-- A move's end at one lens (R61). -/
def State.moveEndLens (s : State) (site i : Nat) : State :=
  match s.lenses[i]? with
  | none => s
  | some l =>
    match l.partyOf site with
    | none => s
    | some p =>
      match l.body with
      | .decided d =>
        if d.holder = some (p, .reserved) then s.releaseDecided i l d
        else if d.holder = some (p, .occupied) then s.denyWaiter i l d .taken
        else if d.waiter = some p then s.setDecided i d.dropWaiter
        else s
      | .client c =>
        match c.claim with
        | .heldReserved => s.clientTo i l c .none .release
        | .claiming => s.clientTo i l c .none .withdraw
        | .none => s
        | .heldOccupied => s
        | .pinned => s

/-- Loss conversion at one lens (R62). -/
def State.lossLens (s : State) (site i : Nat) : State :=
  match s.lenses[i]? with
  | none => s
  | some l =>
    match l.partyOf site with
    | none => s
    | some p =>
      match l.body with
      | .decided d =>
        if d.holder = some (p, .occupied) then s.holdingToPin i l d p
        else if d.holder = some (p, .reserved) then s.releaseDecided i l d
        else s
      | .client c =>
        match c.claim with
        | .heldOccupied => s.clientTo i l c .pinned .pin
        | .heldReserved => s.clientTo i l c .none .release
        | .none => s
        | .claiming => s
        | .pinned => s

/-- Unknown-discovery pin at one lens (R63). -/
def State.discoveryLens (s : State) (site i : Nat) : State :=
  match s.lenses[i]? with
  | none => s
  | some l =>
    match l.partyOf site with
    | none => s
    | some p =>
      match l.body with
      | .decided d => s.setDecided i (d.addPin p)
      | .client c => if c.claim = .none then s.clientTo i l c .pinned .pin else s

/-- Every part of the robot at one lens is given up: FOLD completion (R64) and the stowed case of
reconciliation (R66). A claim or wait stays. -/
def State.vacateLens (s : State) (site i : Nat) : State :=
  match s.lenses[i]? with
  | none => s
  | some l =>
    match l.partyOf site with
    | none => s
    | some p =>
      match l.body with
      | .decided d =>
        if d.heldBy p then s.releaseDecided i l d
        else if d.pinned p then s.setDecided i (d.removePin p)
        else s
      | .client c =>
        match c.claim with
        | .heldReserved => s.clientTo i l c .none .release
        | .heldOccupied => s.clientTo i l c .none .release
        | .pinned => s.clientTo i l c .none .release
        | .none => s
        | .claiming => s

/-- The target lens of a move that goes on, where it is not the facing lens: kept as RESERVED where
the robot holds it, which is the hand-off where it was OCCUPIED (R60, R66); a pin is removed; a claim
or wait stays. -/
def State.keepTargetLens (s : State) (site i : Nat) : State :=
  match s.lenses[i]? with
  | none => s
  | some l =>
    match l.partyOf site with
    | none => s
    | some p =>
      match l.body with
      | .decided d =>
        if d.heldBy p then s.setDecided i (d.setKind p .reserved)
        else if d.pinned p then s.setDecided i (d.removePin p)
        else s
      | .client c =>
        match c.claim with
        | .heldOccupied => s.setClient i { c with claim := .heldReserved }
        | .pinned => s.clientTo i l c .none .release
        | .heldReserved => s
        | .none => s
        | .claiming => s

/-- The facing lens of a consistent extended report becomes OCCUPIED by the robot (R66). -/
def State.occupyFacing (s : State) (site i : Nat) : State :=
  match s.lenses[i]? with
  | none => s
  | some l =>
    match l.partyOf site with
    | none => s
    | some p =>
      match l.body with
      | .decided d => s.setDecided i (d.occupyBy p)
      | .client c =>
        match c.claim with
        | .pinned => s.clientTo i l c .heldOccupied .hold
        | .heldReserved => s.clientTo i l c .heldOccupied .hold
        | .heldOccupied => s
        | .none => s
        | .claiming => s

/-- The facing lens of an inconsistent report is pinned (R67 step 3). -/
def State.pinFacing (s : State) (site i : Nat) : State :=
  match s.lenses[i]? with
  | none => s
  | some l =>
    match l.partyOf site with
    | none => s
    | some p =>
      match l.body with
      | .decided d => s.setDecided i (d.addPin p)
      | .client c =>
        match c.claim with
        | .none => s.clientTo i l c .pinned .pin
        | .claiming =>
          ((s.setClient i { c with claim := .pinned, deadline := none }).sendBorder (l.link.getD 0) i
            .withdraw).sendBorder (l.link.getD 0) i .pin
        | .heldReserved => s
        | .heldOccupied => s
        | .pinned => s

/-! ### Over every lens of a robot -/

/-- The lens table at a move's end (R61). -/
def State.moveEndLenses (s : State) (site : Nat) : State :=
  s.forLenses fun i t => t.moveEndLens site i

/-- Loss conversion of a robot's holdings (R62). -/
def State.lossConvert (s : State) (site : Nat) : State := s.forLenses fun i t => t.lossLens site i

/-- Unknown-discovery pins of a site (R63). -/
def State.discoveryPins (s : State) (site : Nat) : State :=
  s.forLenses fun i t => t.discoveryLens site i

/-- FOLD completion: every holding and every pin is released (R64). -/
def State.foldRelease (s : State) (site : Nat) : State := s.forLenses fun i t => t.vacateLens site i

/-! ### Reconciliation (R65 to R67) -/

/-- The facing lens of a reported position, where its beta is extended and that direction has a lens
(R34, R35). -/
def State.facingLens (s : State) (site : Nat) (p : Pos) : Option Nat :=
  if extended s.params.stowAngle p.beta then
    (s.site? site).bind fun x => s.lensToward site (x.sector p.alpha)
  else none

/-- The reconciliation test (R65). -/
def State.consistent (s : State) (site : Nat) (p : Pos) : Bool :=
  match s.facingLens site p with
  | none => true
  | some i => s.lensHas (fun l => l.heldForFacing site) i

/-- The target lens of the robot's present move. -/
def State.targetLensOf (s : State) (site : Nat) : Option Nat :=
  ((s.robots[site]?).bind (·.move)).bind (·.targetLens)

/-- A consistent report is applied to the robot's lens parts (R66). -/
def State.applyConsistent (s : State) (site : Nat) (p : Pos) : State :=
  s.forLenses fun i t =>
    if s.facingLens site p = some i then t.occupyFacing site i
    else if s.targetLensOf site = some i then t.keepTargetLens site i
    else t.vacateLens site i

/-- An inconsistent report is applied to the robot's lens parts (R67). -/
def State.applyInconsistent (s : State) (site : Nat) (p : Pos) : State :=
  s.forLenses fun i t =>
    if s.facingLens site p = some i then t.pinFacing site i else t.lossLens site i

end Sys2Proof.Machine
end

