-- ==== Sys2Proof/Machine/Moves.lean ====
section
/-! DEFINITION. The move engine: readiness, the end of a move, loss of position, admission, leg
completion and halts (R72 to R97), with the field's count of ends (R114) and the return of the
iteration count (R125). -/

namespace Sys2Proof.Machine

/-! ### Counting ends (R96, R97, R114, R125) -/

/-- The iteration count returns to 0 and both flags clear (R125 to R127). -/
def Robot.resetIterations (r : Robot) : Robot :=
  { r with iterations := 0, converged := false, notConverged := false }

/-- An outcome record is made (R96 step 4). It stands behind the queue's records until its event closes
(`State.closeEvent`), which orders the event's records and holds the queue to its capacity. -/
def State.appendOutcome (s : State) (o : OutcomeRecord) : State := { s with outcomes := s.outcomes ++ [o] }

/-- A RUNNING field with no move in progress ends: the timer is held and FIELD_ENDED latched (R114). -/
def State.endField (s : State) : State :=
  if s.field.state = .running ∧ s.field.inProgress = 0 then
    { s with field := { s.field with state := .ended }, timer := s.timer.hold }.latchFieldEnded
  else s

/-- The end of a FIELD move is counted, and the field ends with its last (R114). -/
def State.countFieldEnd (s : State) (o : MoveOutcome) : State :=
  { s with field := { s.field with counts := s.field.counts.add o } }.endField

/-- The end of a move with outcome `o` is recorded and handed on (R96 steps 4 and 5). -/
def State.recordEnd (s : State) (site : Nat) (kind : MoveKind) (limited : Bool) (o : MoveOutcome)
    (reason : Option DenyReason) : State :=
  match s.robots[site]? with
  | none => s
  | some r =>
    let t := s.appendOutcome ⟨site, kind, o, r.believed, r.epoch, limited, reason⟩
    let t := t.modRobot site fun x =>
      let x := { x with lastOutcome := some o }
      if o = .done ∧ (kind = .field ∨ kind = .moveTo ∨ kind = .home) then x.resetIterations else x
    if kind = .field then t.countFieldEnd o else t

/-! ### The end of a move (R96) -/

/-- A move ends (R96): the lens table acts, the robot leaves its queue and takes state `st`, the record
goes, and unless `out` is none an outcome is recorded. -/
def State.finishMove (s : State) (site : Nat) (st : RobotState)
    (out : Option (MoveOutcome × Option DenyReason)) : State :=
  match (s.robots[site]?).bind (·.move) with
  | none => s
  | some m =>
    let t := (s.moveEndLenses site).leaveQueues site
    let t := t.modRobot site fun r => { r with state := st, move := none, pollTime := none }
    match out with
    | none => t
    | some (o, reason) => t.recordEnd site m.kind m.limited o reason

/-- The outcome of an ordinary end: none where the move is halting for RESTART (R19, R90, R94). -/
def Move.outcome (m : Move) (o : MoveOutcome) : Option (MoveOutcome × Option DenyReason) :=
  if m.haltCause = some .restart then none else some (o, none)

/-- A robot enters LOST with a cause, and a move it has ends with `out` (R19): belief absent, loss
conversion, then the move's end. -/
def State.loseWith (s : State) (site : Nat) (cause : LostCause)
    (out : Option (MoveOutcome × Option DenyReason)) : State :=
  let t := (s.modRobot site fun r => { r.forget with anchor := none }).lossConvert site
  match (s.robots[site]?).bind (·.move) with
  | none => t.modRobot site fun r => { r with state := .lost cause, pollTime := none }
  | some _ => t.finishMove site (.lost cause) out

/-- A robot enters LOST, its move ending LOST unless it halts for RESTART (R19, R94). -/
def State.lose (s : State) (site : Nat) (cause : LostCause) : State :=
  s.loseWith site cause
    ((((s.robots[site]?).bind (·.move)).map fun m => m.outcome .lost).getD none)

/-- The LOST cause of a HOME that ends before its SEEK completes (R19). -/
def Robot.homeLostCause (r : Robot) : LostCause :=
  match r.last with
  | none => .power
  | some x => if x.countsValid then .uncertain else .power

/-- A move that is not in flight ends: its robot enters IDLE, or LOST in a HOME move (R88, R93). -/
def State.endAtRest (s : State) (site : Nat) (out : Option (MoveOutcome × Option DenyReason)) :
    State :=
  match s.robots[site]? with
  | none => s
  | some r =>
    match r.move with
    | none => s
    | some m =>
      if m.isHome then s.loseWith site r.homeLostCause out else s.finishMove site .idle out

/-- A QUEUED or WAIT_LENS robot whose waiting claim has been denied: its move ends DENIED (R93). -/
def Robot.deniedAtRest (r : Robot) : Option DenyReason :=
  if r.state = .queued ∨ r.state = .waitLens then r.move.bind (·.pendingDenial) else none

/-- End a move that a denial ends at once, where there is one (R93). -/
def State.endDenied (s : State) (site : Nat) : State :=
  match (s.robots[site]?).bind Robot.deniedAtRest with
  | none => s
  | some reason => s.endAtRest site (some (.denied, some reason))

/-- The site whose robot a departure from UP has denied the CLIENT lens `i`, and whose move that ends at
once (R145). -/
def State.deniedLens (s : State) (i : Nat) : Option Nat :=
  (List.range s.robots.length).find? fun j => s.robots[j]?.any fun r =>
    r.deniedAtRest == some .linkDown && r.move.any fun m => m.targetLens == some i

/-- The next site whose move a departure of this link ends: the first of its lenses in ascending index
(R145). -/
def State.deniedOn (s : State) (link : Nat) : Option Nat := (s.borderList link).findSome? s.deniedLens

/-- The lower of two sites, where there are two. -/
def lowerSite : Option Nat → Option Nat → Option Nat
  | some a, some b => some (min a b)
  | some a, none => some a
  | none, b => b

/-- The lowest site whose move a denial of a kind ends at once. -/
def State.lowestDenied (s : State) (kind : DenyReason → Bool) : Option Nat :=
  (List.range s.robots.length).find? fun i => ((s.robots[i]?).bind Robot.deniedAtRest).any kind

/-- The next site whose move a denial ends at once: the lowest among the next one of each link's
departure, whose denials act in ascending lens index (R145), and the lowest of the others (R96). DEDUCED,
unsafe (log entry 21). -/
def State.firstDenied (s : State) : Option Nat :=
  (((List.range s.links.length).map s.deniedOn).foldr lowerSite (s.lowestDenied (· != .linkDown))).or
    (s.lowestDenied fun _ => true)

/-- Denials end moves, and those ends may deny further waiters: all end within the one event (R96). Each
end removes a move, so `fuel` need not exceed the number of robots. -/
def State.settleDenials : Nat → State → State
  | 0, s => s
  | fuel + 1, s =>
    match s.firstDenied with
    | none => s
    | some site => (s.endDenied site).settleDenials fuel

/-- Every move that a denial has ended in this event ends now (R57, R93, R96). -/
def State.settle (s : State) : State := s.settleDenials s.robots.length

/-! ### The close of an event (R96, R97) -/

/-- A record takes its place before the first record of its site or a higher one. -/
def insertBySite (o : OutcomeRecord) : List OutcomeRecord → List OutcomeRecord
  | [] => [o]
  | x :: rest => if o.site ≤ x.site then o :: x :: rest else x :: insertBySite o rest

/-- Two lists of records become one, in which each keeps its order and the lower of their next sites comes
first. -/
def mergeBySite : List OutcomeRecord → List OutcomeRecord → List OutcomeRecord
  | [], m => m
  | x :: rest, m =>
    m.takeWhile (·.site < x.site) ++ x :: mergeBySite rest (m.dropWhile (·.site < x.site))

/-- The link whose departure denied the claim of which a record of an event that began in `s` tells
(R145): its robot was QUEUED or in WAIT_LENS with the move that ended so. A move that ends at a leg boundary
by a denial noted in its leg (R93), and an admission that is denied at once, were ended by none. -/
def State.departed (s : State) (o : OutcomeRecord) : Option Nat :=
  if o.reason = some .linkDown then
    (s.robots[o.site]?).bind fun r =>
      if r.state = .queued ∨ r.state = .waitLens then
        (r.move.bind (·.targetLens)).bind fun i => (s.lenses[i]?).bind Lens.link
      else none
  else none

/-- The order in which the records of one event join the queue: ascending site order (R96), but that the
denials of the departure of each of the first `n` links keep among themselves the order in which their
moves ended, which is ascending lens index (R145). DEDUCED, unsafe (log entry 21). -/
def eventOrder (departed : OutcomeRecord → Option Nat) :
    Nat → List OutcomeRecord → List OutcomeRecord
  | 0, records => records.foldr insertBySite []
  | n + 1, records =>
    mergeBySite (records.filter (departed · == some n))
      (eventOrder departed n (records.filter (departed · != some n)))

/-- The event that began in `s` and has come to `t` hands over its records: they join the queue in their
order, and those that find 128 held are discarded with the overflow latch set; the notice
OUTCOME_OVERFLOW is latched when that latch becomes set (R96, R97). -/
def State.closeEvent (s t : State) : State :=
  let before := s.outcomes.length
  let records := eventOrder s.departed s.links.length (t.outcomes.drop before)
  let room := Config.outcomeDepth - before
  let u := { t with outcomes := t.outcomes.take before ++ records.take room }
  if records.length ≤ room ∨ t.overflow = true then u
  else { u with overflow := true }.latchOutcomeOverflow

/-- The event that began in `s` and has come to `t` closes: every move a denial has ended ends, and the
event's records join the outcome queue (R93, R96, R97). -/
def State.close (s t : State) : State := s.closeEvent t.settle

/-- An event that ends several moves takes the sites it concerns in ascending order (R96). `act` is what
the event does to a site. -/
def State.sweep (s : State) (act : Nat → State → State) : State := s.close (s.forSites act)

/-! ### Readiness (R81) -/

/-- The current leg is a DEPLOY whose target lens is not RESERVED by the robot (R81). -/
def State.mustWait (s : State) (site : Nat) (m : Move) : Option Nat :=
  match m.leg with
  | none => none
  | some leg =>
    if leg.kind = .deploy then
      match m.targetLens with
      | none => none
      | some i => if s.lensHas (fun l => l.reservedBy site) i then none else some i
    else none

/-- A leg becomes ready: the robot joins its queue, or enters WAIT_LENS with a wait deadline (R81). -/
def State.readyLeg (s : State) (site : Nat) : State :=
  match (s.robots[site]?).bind (·.move) with
  | none => s
  | some m =>
    match s.mustWait site m with
    | some i =>
      (s.modRobot site fun r => { r with state := .waitLens, pollTime := none }).setWaitDeadline site i
    | none =>
      (s.modRobot site fun r => { r with state := .queued, pollTime := none }).joinQueue site

/-! ### Admission (R77) -/

/-- What an admission comes to (R77). -/
inductive Admission where
  | done
  | denied (reason : DenyReason)
  | legs (count : Nat)
deriving DecidableEq, Repr

/-- The lens an admission must consider: of the target's facing sector, when the plan has a DEPLOY
(R79). -/
def State.planTarget (s : State) (site : Nat) (x : Site) (legs : List Leg) (q : Pos) : Option Nat :=
  if legs.any (·.kind == .deploy) then s.lensToward site (x.sector q.alpha) else none

/-- A fresh move record (R72, R77 step 4). -/
def Move.fresh (kind : MoveKind) (target : Option Pos) (legs : List Leg) (lens : Option Nat)
    (limited : Bool) : Move :=
  { kind := kind, target := target, legs := legs, index := 0, tag := none, targetLens := lens,
    dispatch := none, legLimit := 0, haltCause := none, haltTime := none, pendingDenial := none,
    limited := limited }

/-- The claim an admission makes (R77 step 3): none where there is no target lens, or where the robot
holds it OCCUPIED (R79). -/
def State.admissionClaim (s : State) (site : Nat) (lens : Option Nat) : State × ClaimResult :=
  match lens with
  | none => (s, .grant)
  | some i => if s.occupiedLens site = some i then (s, .grant) else s.claimFor site i

/-- The move record is created and its first leg made ready (R77 step 4). -/
def State.startMove (s : State) (site : Nat) (m : Move) : State :=
  (s.modRobot site fun r => { r with move := some m }).readyLeg site

/-- Admission of a move of the robot of `site` from `p` to `q`, but for its close (R77). -/
def State.tryMove (s : State) (site : Nat) (kind : MoveKind) (x : Site) (p q : Pos)
    (limited : Bool) : State × Admission :=
  if q = p then (s.recordEnd site kind limited .done none, .done)
  else
    let legs := planLegs s.params.stowAngle x p q
    let lens := s.planTarget site x legs q
    let claim := s.admissionClaim site lens
    match claim.2 with
    | .deny reason => (claim.1.settle.recordEnd site kind limited .denied (some reason), .denied reason)
    | .grant => (claim.1.startMove site (Move.fresh kind (some q) legs lens limited), .legs legs.length)
    | .queue => (claim.1.startMove site (Move.fresh kind (some q) legs lens limited), .legs legs.length)

/-- Admission of a move of the robot of `site` from `p` to `q` (R77). Each admission of a CONFIGURE or a
CORRECT closes before the next is made (R113, R120). -/
def State.admitMove (s : State) (site : Nat) (kind : MoveKind) (x : Site) (p q : Pos)
    (limited : Bool) : State × Admission :=
  let a := s.tryMove site kind x p q limited
  (s.close a.1, a.2)

/-! ### Accepting a position (R25 to R28) -/

/-- The epoch increments, which also clears the converged flag (R26, R126). -/
def Robot.bumpEpoch (r : Robot) : Robot :=
  { r with epoch := satInc Config.top32 r.epoch, converged := false }

/-- The direction memory of both axes is updated by a report (R28). -/
def Robot.updateMemory (r : Robot) (p : Pos) : Robot :=
  { r with dirAlpha := axisMemory r.dirAlpha r.alpha p.alpha,
           dirBeta := axisMemory r.dirBeta r.beta p.beta }

/-- The believed position becomes `p` (R25), also a reported one outside the axes' ranges. DESIGN CHOICE,
unsafe (log entry 38). -/
def Robot.believe (r : Robot) (p : Pos) : Robot := { r with alpha := some p.alpha, beta := some p.beta }

/-- A change of a robot that counts as an acceptance: the positions-changed flag is set (R27). -/
def State.accept (s : State) (site : Nat) (f : Robot → Robot) : State :=
  { s.modRobot site (fun r => f r.bumpEpoch) with posChanged := true }

/-- The position a status reply reports. -/
def replyPos (r : StatusReply) : Pos := ⟨r.alpha, r.beta⟩

/-! ### Inconsistent reports (R67, R19) -/

/-- An inconsistent report: R67's effect on the lenses, fault code INCONSISTENT, LOST(UNCERTAIN), and
a move the robot has ends LOST (R67, R19, R84, R86). -/
def State.inconsistentReport (s : State) (site : Nat) (p : Pos) : State :=
  ((s.applyInconsistent site p).modRobot site fun r =>
    { r with fault := some .inconsistent }).lose site .uncertain

/-! ### Halts (R89, R155) -/

/-- An addressed HALT is queued to the robot's arbiter, once (R155). -/
def State.queueHalt (s : State) (site : Nat) : State :=
  s.modBus (s.busOf site) fun b =>
    if b.haltAddressed.contains site then b else { b with haltAddressed := b.haltAddressed ++ [site] }

/-- A broadcast HALT is queued on a bus (R155). -/
def State.queueBroadcast (s : State) (bus : Nat) : State :=
  s.modBus bus fun b => { b with haltBroadcast := true }

/-- An IN_LEG robot enters HALTING with a cause (R89). -/
def State.enterHalting (s : State) (site : Nat) (cause : HaltCause) : State :=
  s.modRobot site fun r =>
    { r with
      state := .halting
      move := r.move.map fun m =>
        { m with haltCause := some cause, haltTime := some s.now, dispatch := none } }

/-- ABORT's effect by the robot's state (R91). -/
def State.abortRobot (s : State) (site : Nat) : State :=
  match s.robots[site]? with
  | none => s
  | some r =>
    if r.state = .queued ∨ r.state = .waitLens then s.endAtRest site (some (.aborted, none))
    else if r.state = .inLeg then (s.queueHalt site).enterHalting site .abort
    else s

/-! ### Leg completion (R84, R88, R93) -/

/-- The end that applies at a leg boundary with legs remaining (R93). -/
def State.boundaryEnd (s : State) (r : Robot) (m : Move) : Option (MoveOutcome × Option DenyReason) :=
  match m.pendingDenial with
  | some reason => some (.denied, some reason)
  | none =>
    if r.enabled = false then some (.disabled, none)
    else if m.kind = .field ∧ s.field.cut = true then some (.cut, none)
    else none

/-- The robot of a site that has a move, with that move. -/
def State.robotMove (s : State) (site : Nat) : Option (Robot × Move) :=
  (s.robots[site]?).bind fun r => r.move.map fun m => (r, m)

/-- The current leg index advances and the next leg becomes ready (R84 step 6). -/
def State.nextLeg (s : State) (site : Nat) : State :=
  (s.modMove site fun m => { m with index := m.index + 1 }).readyLeg site

/-- Steps 3 to 6 of a leg completion, the report having been accepted (R84). -/
def State.afterLeg (s : State) (site : Nat) (p : Pos) : State :=
  match s.robotMove site with
  | none => s
  | some (r, m) =>
    if m.leg.any (·.onTarget p) = false then
      (s.modRobot site fun x => { x with fault := some .stall }).finishMove site .faulted
        (some (.stalled, none))
    else if m.legs.length ≤ m.index + 1 then s.finishMove site .idle (some (.done, none))
    else
      match s.boundaryEnd r m with
      | some out => s.finishMove site .idle (some out)
      | none => s.nextLeg site

/-- The leg ends: its dispatch time is cleared (R72). -/
def State.clearDispatch (s : State) (site : Nat) : State :=
  s.modMove site fun m => { m with dispatch := none }

/-- Completion of a leg other than FOLD and SEEK (R84). -/
def State.legComplete (s : State) (site : Nat) (p : Pos) : State :=
  if s.consistent site p then
    (((s.applyConsistent site p).accept site fun r => (r.updateMemory p).believe p).clearDispatch
      site).afterLeg site p
  else s.inconsistentReport site p

/-- FOLD completion (R88). -/
def State.foldComplete (s : State) (site : Nat) (p : Pos) : State :=
  let t := ((s.accept site fun r =>
      { r with dirBeta := axisMemory r.dirBeta r.beta p.beta, beta := some p.beta }).clearDispatch
        site).foldRelease site
  match t.robotMove site with
  | none => t
  | some (r, m) =>
    match t.boundaryEnd r m with
    | some out => t.endAtRest site (some out)
    | none => t.nextLeg site

/-- SEEK completion (R88). -/
def State.seekComplete (s : State) (site : Nat) (p : Pos) : State :=
  if s.consistent site p then
    ((s.applyConsistent site p).accept site fun r =>
      { r with alpha := some p.alpha, dirAlpha := none, dirBeta := none,
               history := .frozen }).finishMove site .idle (some (.done, none))
  else s.inconsistentReport site p

/-- A leg is complete (R84, R88). -/
def State.completeLeg (s : State) (site : Nat) (m : Move) (p : Pos) : State :=
  if m.leg.any (·.kind == .fold) then s.foldComplete site p
  else if m.leg.any (·.kind == .seek) then s.seekComplete site p
  else s.legComplete site p

/-! ### Fault replies (R86, R88) -/

/-- A FAULT reply in a move other than HOME (R86). -/
def State.faultReply (s : State) (site : Nat) (m : Move) (rep : StatusReply) : State :=
  let t := s.modRobot site fun r => { r with fault := rep.fault.map FaultCode.ofReply }
  if t.consistent site (replyPos rep) then
    ((t.applyConsistent site (replyPos rep)).accept site fun r => r.believe (replyPos rep)).finishMove
      site .faulted (m.outcome .fault)
  else t.inconsistentReport site (replyPos rep)

/-- A HOME move ends before its SEEK completes, with this outcome (R88, R19). -/
def State.endHome (s : State) (site : Nat) (out : Option (MoveOutcome × Option DenyReason)) : State :=
  match s.robots[site]? with
  | none => s
  | some r => s.loseWith site r.homeLostCause out

/-- A FAULT reply in a HOME move (R88). -/
def State.homeFault (s : State) (site : Nat) (m : Move) (rep : StatusReply) : State :=
  (s.modRobot site fun r => { r with fault := rep.fault.map FaultCode.ofReply }).endHome site
    (m.outcome .fault)

/-! ### A poll reply of an IN_LEG robot (R85) -/

/-- A good poll reply of an IN_LEG robot, its status already taken (R85). -/
def State.legReply (s : State) (site : Nat) (m : Move) (rep : StatusReply) : State :=
  if m.isHome = false ∧ rep.countsValid = false then s.lose site .power
  else if rep.motion = .fault then
    if m.isHome then s.homeFault site m rep else s.faultReply site m rep
  else if m.tag ≠ some rep.tag then
    if rep.motion = .moving then (s.lose site .uncertain).queueHalt site else s.lose site .uncertain
  else if rep.motion = .moving then s
  else s.completeLeg site m (replyPos rep)

/-! ### A poll reply of a HALTING robot (R90, R88) -/

/-- The outcome a halt cause gives, and the state it leaves (R90). -/
def HaltCause.ending : HaltCause → Option (MoveOutcome × Option DenyReason) × RobotState
  | .abort => (some (.aborted, none), .idle)
  | .stall => (some (.stalled, none), .faulted)
  | .shutter => (some (.halted, none), .idle)
  | .restart => (none, .idle)

/-- The move's halt cause; a HALTING robot's move has one (R89). -/
def Move.cause (m : Move) : HaltCause := m.haltCause.getD .abort

/-- A halt of cause STALL sets the fault code STALL (R88, R90). -/
def State.stallFault (s : State) (site : Nat) (m : Move) : State :=
  if m.cause = .stall then s.modRobot site fun r => { r with fault := some .stall } else s

/-- Halt completion (R90; R88 for a HOME move). That of a HOME accepts no position: the epoch, the
positions-changed flag and the direction memory stay. DEDUCED, unsafe (log entry 42). -/
def State.haltComplete (s : State) (site : Nat) (m : Move) (p : Pos) : State :=
  if m.isHome then (s.stallFault site m).endHome site m.cause.ending.1
  else if s.consistent site p then
    (((s.applyConsistent site p).accept site fun r => (r.updateMemory p).believe p).stallFault site
      m).finishMove site m.cause.ending.2 m.cause.ending.1
  else s.inconsistentReport site p

/-- A good poll reply of a HALTING robot, its status already taken (R90). Of two rows that hold, the first
is taken. DEDUCED, unsafe (log entry 43). -/
def State.haltReply (s : State) (site : Nat) (m : Move) (rep : StatusReply) : State :=
  if m.isHome = false ∧ rep.countsValid = false then s.lose site .power
  else
    match rep.motion with
    | .fault => if m.isHome then s.homeFault site m rep else s.faultReply site m rep
    | .moving => s
    | .still => s.haltComplete site m (replyPos rep)

/-! ### Keepalive replies (R23, R24) -/

/-- Recovery of a LOST robot by a consistent report (R23). -/
def State.recover (s : State) (site : Nat) (rep : StatusReply) : State :=
  (s.applyConsistent site (replyPos rep)).accept site fun r =>
    let fault := match r.fault with
      | some f => some f
      | none => if rep.motion = .fault then rep.fault.map FaultCode.ofReply else none
    { r.believe (replyPos rep) with
      history := .frozen
      fault := fault
      state := if fault.isSome then .faulted else .idle }

/-- A good keepalive reply of a LOST robot (R23). Of two rows that hold, the first is taken: counts not
valid make the cause POWER with no HALT queued, also where the robot moves. DEDUCED, unsafe (log entry
43). -/
def State.lostReply (s : State) (site : Nat) (cause : LostCause) (rep : StatusReply) : State :=
  if cause = .power then s
  else if rep.countsValid = false then
    s.modRobot site fun r => { r with state := .lost .power }
  else if rep.motion = .moving then
    (s.modRobot site fun r => { r with state := .lost .uncertain }).queueHalt site
  else if s.consistent site (replyPos rep) then s.recover site rep
  else s.inconsistentReport site (replyPos rep)

/-- A good keepalive reply of an IDLE or FAULTED robot (R24). Of two rows that hold, the first is taken.
DEDUCED, unsafe (log entry 43). -/
def State.stillReply (s : State) (site : Nat) (r : Robot) (rep : StatusReply) : State :=
  if rep.countsValid = false then s.lose site .power
  else if rep.motion = .moving then (s.lose site .uncertain).queueHalt site
  else if r.believed = some (replyPos rep) then s
  else s.lose site .uncertain

/-! ### Loss of a bus's power (R20, R156) -/

/-- A robot enters OFFLINE; a move it has ends LOST, or without a record where it halts for RESTART
(R20). Loss conversion has been applied. -/
def State.goOffline (s : State) (site : Nat) : State :=
  let t := s.modRobot site fun r => { r.forget with anchor := none }
  let out := (((s.robots[site]?).bind (·.move)).map fun m => m.outcome .lost).getD none
  (t.finishMove site .offline out).modRobot site fun r =>
    { r with state := .offline, failures := 0, tagMemory := 0, pollTime := none }

/-- The census ends ABANDONED where one is under way (R161). -/
def Census.abandon (c : Census) : Census :=
  if c.result = .inProgress then { c with result := .abandoned } else c

/-- A bus controller enters DOWN (R156). -/
def Bus.powerDown (b : Bus) : Bus :=
  { b with
    protocol := .down, txn := none, haltBroadcast := false, haltAddressed := [], pendingOps := [],
    addresses := List.replicate Config.robotsPerBus none, keepaliveTime := none, lastPolled := none,
    lastKeepalive := none, census := b.census.abandon, round := none }

/-- A pending inquiry of a robot on one of these buses ends FAILED with reason POWER (R164). -/
def State.failInquiryPower (s : State) (buses : List Nat) : State :=
  match s.inquiry with
  | .pending site item =>
    if buses.contains (s.busOf site) then
      { s with inquiry := .failed site item .power }.latchInquiryDone
    else s
  | .empty => s
  | .done _ _ _ => s
  | .failed _ _ _ => s

/-- The robot of a site is on one of these buses. -/
def State.onBuses (s : State) (buses : List Nat) (site : Nat) : Bool :=
  s.robots[site]?.any fun r => buses.contains r.bus

/-- Loss conversion of the robots of these buses at one lens (R62). -/
def State.lossAt (s : State) (buses : List Nat) (i : Nat) : State :=
  s.forSites fun site u => if u.onBuses buses site then u.lossLens site i else u

/-- The switches of these buses have left ON: their controllers enter DOWN (R156) and their robots
OFFLINE (R20), loss conversion first, lens by lens so that its messages join in ascending lens index
(R62, R135), then the ends of their moves in ascending site order (R94, R96). -/
def State.powerLoss (s : State) (buses : List Nat) : State :=
  let t := (buses.foldl (fun u b => u.modBus b Bus.powerDown) s).failInquiryPower buses
  (t.forLenses fun i u => u.lossAt buses i).sweep fun site u =>
    if u.onBuses buses site then u.goOffline site else u

end Sys2Proof.Machine
end

