-- ==== Sys2Proof/Machine/Buses.lean ====
section
/-! DEFINITION. The bus controllers: frames and statistics (R150, R163), transactions (R151 to R154), the
arbiter's choice (R157, R158), census (R159 to R162), and the trip of a bus (R171). -/

namespace Sys2Proof.Machine

/-! ### Frames and statistics -/

/-- One more of an object: every counter that has it selected counts it (R163). -/
def Bus.count (b : Bus) (o : StatObject) : Bus :=
  { b with stats := b.stats.map fun x =>
      if x.object = o then { x with count := satInc Config.top32 x.count } else x }

/-- The frame is a HALT. -/
def BusBody.isHalt : BusBody → Bool
  | .halt => true
  | .move _ _ => false
  | .poll => false
  | .setCounts _ => false
  | .inquire _ => false
  | .rollcall _ => false
  | .assign _ _ => false
  | .mute _ => false

/-- The counters at a frame's beginning: frames sent, and halts sent for a HALT (R163). -/
def Bus.countFrame (b : Bus) (body : BusBody) : Bus :=
  if body.isHalt then (b.count .framesSent).count .haltsSent else b.count .framesSent

/-- A frame begins on the line as the only one of its command. -/
def Bus.send (b : Bus) (f : BusFrame) : Bus := { b.countFrame f.body with lastFrames := [f] }

/-- A further frame of the same command begins on the line. -/
def Bus.sendMore (b : Bus) (f : BusFrame) : Bus :=
  { b.countFrame f.body with lastFrames := b.lastFrames ++ [f] }

/-- The address of a site's robot: the entry of its bus's table that holds the site (R162). -/
def State.addressOf (s : State) (site : Nat) : Option Nat :=
  (s.buses[s.busOf site]?).bind fun b =>
    b.addresses.findIdx? fun e => e.any fun x => x.site == some site

/-- The frame a transaction's attempts send (R150). -/
def TxnKind.body : TxnKind → BusBody
  | .move leg tag => .move leg tag
  | .poll => .poll
  | .halt => .halt
  | .setCounts anchor => .setCounts anchor
  | .inquire item _ => .inquire item

/-- The transaction is a MOVE. -/
def TxnKind.isMove : TxnKind → Bool
  | .move _ _ => true
  | .poll => false
  | .halt => false
  | .setCounts _ => false
  | .inquire _ _ => false

/-! ### Transactions (R151) -/

/-- A transaction begins with its first attempt, under the attempt limit in force (R151). -/
def State.beginTxn (s : State) (bus : Nat) (kind : TxnKind) (site : Nat) : State :=
  s.modBus bus fun b =>
    { b with txn := some ⟨kind, site, 1, s.params.attemptLimit⟩ }.send
      ⟨s.addressOf site, kind.body⟩

/-- The transaction on the line ends. -/
def State.endTxn (s : State) (bus : Nat) : State := s.modBus bus fun b => { b with txn := none }

/-- The next attempt sends the same frame again (R151). -/
def State.retryTxn (s : State) (bus : Nat) (t : Txn) : State :=
  s.modBus bus fun b =>
    (({ b with txn := some { t with attempts := t.attempts + 1 } }).count .retries).send
      ⟨s.addressOf t.site, t.kind.body⟩

/-- The robot of a site is in this state. -/
def State.robotIs (s : State) (site : Nat) (st : RobotState) : Bool :=
  s.robots[site]?.any fun r => r.state == st

/-- The inquiry slot leaves PENDING, and INQUIRY_DONE is latched (R164). -/
def State.inquiryEnds (s : State) (slot : Nat → Nat → Inquiry) : State :=
  match s.inquiry with
  | .pending site item => { s with inquiry := slot site item }.latchInquiryDone
  | .empty => s
  | .done _ _ _ => s
  | .failed _ _ _ => s

/-- A SET_COUNTS of the robot that is not yet begun is withdrawn (R19). -/
def State.withdrawSetCounts (s : State) (site : Nat) : State :=
  s.modBus (s.busOf site) fun b =>
    { b with pendingOps := b.pendingOps.filter fun o =>
        match o with
        | .setCounts i _ => i != site
        | .inquire _ _ => true }

/-- The robot-silent event (R152, R19). -/
def State.silentEvent (s : State) (site : Nat) : State :=
  (s.withdrawSetCounts site).lose site .silent

/-- The failure count has reached the limit and the event has not been taken (R152). -/
def State.silentDue (s : State) (site : Nat) : Bool :=
  s.robots[site]?.any fun r =>
    decide (s.params.failureLimit ≤ r.failures) && r.state != .lost .silent && r.state != .offline

/-- The re-anchor ends and the robot returns to LOST with cause POWER (R131). -/
def State.anchorFails (s : State) (site : Nat) : State :=
  s.modRobot site fun r => { r with state := .lost .power, anchor := none }

/-- What a failed transaction's owner does with the failure (R153, R154, R131, R164). A MOVE transaction
whose last attempt fails while its robot is HALTING is only counted, for R19 makes an IN_LEG robot LOST.
DEDUCED, unsafe (log entry 40). -/
def State.failedTxnEffect (s : State) (t : Txn) : State :=
  match t.kind with
  | .move _ _ => if s.robotIs t.site .inLeg then s.lose t.site .uncertain else s
  | .poll => s
  | .halt => s
  | .setCounts _ =>
    if s.robotIs t.site .anchoring && !s.silentDue t.site then s.anchorFails t.site else s
  | .inquire _ withdrawn =>
    if withdrawn then s else s.inquiryEnds fun site item => .failed site item .noReply

/-- A transaction fails in all its attempts: counted, handed to its owner, and the robot-silent event
taken where the count has reached the limit (R152, R153). -/
def State.txnFailed (s : State) (bus : Nat) (t : Txn) : State :=
  let u := (s.endTxn bus).modBus bus fun b => b.count .failedTransactions
  let u := u.modRobot t.site fun r => { r with failures := satInc Config.failureTop r.failures }
  let u := u.failedTxnEffect t
  if u.silentDue t.site then u.silentEvent t.site else u

/-- An attempt has failed: the transaction fails at its limit, a MOVE is dropped where the mode has
left OPEN or the robot is no longer IN_LEG, and otherwise the next attempt is sent (R151, R154). -/
def State.attemptFailed (s : State) (bus : Nat) (t : Txn) : State :=
  if t.limit ≤ t.attempts then s.txnFailed bus t
  else if t.kind.isMove && (s.mode != .opened || !s.robotIs t.site .inLeg) then s.endTxn bus
  else s.retryTxn bus t

/-! ### Good replies (R153) -/

/-- A good reply resets the failure count (R152) and is counted (R163). -/
def State.replyTaken (s : State) (bus site : Nat) : State :=
  (s.modBus bus fun b => b.count .goodReplies).modRobot site fun r => { r with failures := 0 }

/-- A good status reply replaces the last reported group and the tag memory (R25, R80). -/
def State.statusTaken (s : State) (bus site : Nat) (rep : StatusReply) : State :=
  (s.replyTaken bus site).modRobot site fun r => { r with last := some rep, tagMemory := rep.tag }

/-- The leg is accepted: its dispatch time is set and its poll schedule starts (R154, R158), also where
the robot is HALTING by then (R154). -/
def State.acceptLeg (s : State) (site : Nat) : State :=
  s.modRobot site fun r =>
    if r.state = .inLeg ∨ r.state = .halting then
      { r with
        pollTime := some s.now
        move := r.move.map fun m =>
          { m with dispatch := some s.now, legLimit := s.params.legTimeLimit } }
    else r

/-- A POLL reply is handed on by the robot's state when it is taken (R153). -/
def State.pollReply (s : State) (site : Nat) (rep : StatusReply) : State :=
  match s.robots[site]? with
  | none => s
  | some r =>
    match r.state with
    | .inLeg => match r.move with
      | some m => s.legReply site m rep
      | none => s
    | .halting => match r.move with
      | some m => s.haltReply site m rep
      | none => s
    | .idle => s.stillReply site r rep
    | .faulted => s.stillReply site r rep
    | .lost cause => s.lostReply site cause rep
    | .queued => s
    | .waitLens => s
    | .anchoring => s
    | .offline => s

/-- The anchor position is accepted (R130). -/
def State.anchorAccepted (s : State) (site : Nat) (p : Pos) : State :=
  if s.consistent site p then
    (s.applyConsistent site p).accept site fun r =>
      { r.believe p with
        history := .frozen, anchor := none
        state := if r.fault.isSome then .faulted else .idle }
  else s.inconsistentReport site p

/-- A SET_COUNTS reply: acknowledged, or the re-anchor ends (R130, R131). -/
def State.setCountsReply (s : State) (site : Nat) (rep : StatusReply) : State :=
  match s.robots[site]? with
  | none => s
  | some r =>
    if r.state = .anchoring then
      match r.anchor with
      | none => s
      | some p =>
        if rep.countsValid = true ∧ replyPos rep = p then s.anchorAccepted site p
        else s.anchorFails site
    else s

/-- The result of an item reply for the inquiry slot (R164). -/
def itemResult (value : Option Word16) (site item : Nat) : Inquiry :=
  match value with
  | some v => .done site item v
  | none => .failed site item .unsupported

/-- A reply that is missing its place: a check error, counted, and the attempt has failed (R150, R151). -/
def State.checkError (s : State) (bus : Nat) (t : Txn) : State :=
  (s.modBus bus fun b => b.count .checkErrors).attemptFailed bus t

/-- A reply to the transaction on the line. A reply of a kind the request does not call for is framed
wrongly, and so a check error (R150). -/
def State.goodReply (s : State) (bus : Nat) (t : Txn) (reply : BusReply) : State :=
  match t.kind, reply with
  | .move _ tag, .status rep =>
    let u := s.statusTaken bus t.site rep
    if rep.tag = tag then (u.endTxn bus).acceptLeg t.site else u.attemptFailed bus t
  | .poll, .status rep => ((s.statusTaken bus t.site rep).endTxn bus).pollReply t.site rep
  | .setCounts _, .status rep =>
    ((s.statusTaken bus t.site rep).endTxn bus).setCountsReply t.site rep
  | .halt, .acknowledge => (s.replyTaken bus t.site).endTxn bus
  | .inquire _ withdrawn, .item _ value =>
    let u := (s.replyTaken bus t.site).endTxn bus
    if withdrawn then u else u.inquiryEnds (itemResult value)
  | _, _ => s.checkError bus t

/-! ### The arbiter (R157, R158) -/

/-- The bus is free for its arbiter. -/
def Bus.free (b : Bus) : Bool := b.protocol == .running && b.txn.isNone

/-- Place 1 has a HALT to send. -/
def Bus.haltWaiting (b : Bus) : Bool := b.haltBroadcast || !b.haltAddressed.isEmpty

/-- Place 2 has a leg to dispatch (R83). -/
def State.legWaiting (s : State) (bus : Nat) (b : Bus) : Bool :=
  s.mode == .opened && (!b.queueA.isEmpty || !b.queueB.isEmpty) &&
    decide (s.concurrency bus < b.concurrencyLimit)

/-- The time a robot's poll falls due: at once where a HALTING robot has no poll time (R158). -/
def Robot.pollDueAt (r : Robot) (interval : Nat) : Option Nat :=
  if r.state = .inLeg then r.pollTime.map (· + interval)
  else if r.state = .halting then some ((r.pollTime.map (· + interval)).getD 0)
  else none

/-- The robots of a bus whose poll is due by time `t`, ascending. -/
def State.pollsDue (s : State) (bus t : Nat) : List Nat :=
  (List.range s.robots.length).filter fun i =>
    s.robots[i]?.any fun r =>
      r.bus == bus && (r.pollDueAt s.params.pollInterval).any fun d => decide (d ≤ t)

/-- Round robin: the next site above the last, wrapping (R157). -/
def nextAbove (l : List Nat) (last : Option Nat) : Option Nat :=
  match last with
  | none => l.head?
  | some x => (l.find? fun i => decide (x < i)).or l.head?

/-- The robots of a bus that keepalive polls reach (R157, R158). -/
def State.keepaliveSites (s : State) (bus : Nat) : List Nat :=
  (List.range s.robots.length).filter fun i =>
    s.robots[i]?.any fun r =>
      r.bus == bus &&
        (match r.state with
          | .idle => true
          | .faulted => true
          | .lost _ => true
          | .offline => false
          | .queued => false
          | .inLeg => false
          | .waitLens => false
          | .halting => false
          | .anchoring => false)

/-- Place 5's interval has run on the bus (R158). -/
def State.keepaliveRun (s : State) (b : Bus) : Bool :=
  b.keepaliveTime.any fun t => decide (t + s.params.keepaliveInterval ≤ s.now)

/-- The queue served and the credit after it (R44): true serves class A. -/
def chooseQueue (share : ShareRatio) (b : Bus) : Bool × Nat :=
  match b.queueA.isEmpty, b.queueB.isEmpty, share.credit with
  | false, false, some r => if 0 < b.credit then (true, b.credit - 1) else (false, r)
  | false, false, none => (true, b.credit)
  | false, true, _ => (true, b.credit)
  | true, _, some r => (false, r)
  | true, _, none => (false, b.credit)

/-- The bus after a dispatch has taken the head of the chosen queue (R44, R83). -/
def Bus.popQueue (b : Bus) (share : ShareRatio) : Bus :=
  let c := chooseQueue share b
  if c.1 then { b with queueA := b.queueA.tail, credit := c.2 }
  else { b with queueB := b.queueB.tail, credit := c.2 }

/-- The head of the chosen queue. -/
def Bus.dispatchHead (b : Bus) (share : ShareRatio) : Option Nat :=
  if (chooseQueue share b).1 then b.queueA.head? else b.queueB.head?

/-! ### Census (R159 to R162) -/

/-- The site of a serial in the installed map. -/
def State.siteOfSerial (s : State) (serial : Serial) : Option Nat :=
  s.map.bind fun m => m.sites.findIdx? fun x => x.serial == serial

/-- The census record at entry to CENSUS (R161). -/
def Census.start : Census :=
  { result := .inProgress, rounds := 0, window := 4, assigned := 0, strays := 0, wiring := [],
    overflow := [], overfull := false }

/-- Entry to CENSUS (R156, R159). -/
def Bus.beginCensus (b : Bus) : Bus :=
  { b with protocol := .census, census := .start, nextWindow := 4, round := none }

/-- The broadcast a table entry was given: ASSIGN for a site, MUTE for a stray (R160). -/
def AddressEntry.frame (e : AddressEntry) (address : Nat) : BusFrame :=
  ⟨none, if e.site.isSome then .assign e.serial address else .mute e.serial⟩

/-- A MUTE broadcast. -/
def muteFrame (serial : Serial) : BusFrame := ⟨none, .mute serial⟩

/-- A serial that finds the table full is muted and listed (R160 row 4). -/
def Bus.overflowSerial (b : Bus) (serial : Serial) (site : Option Nat) : Bus :=
  { b with census := { b.census with
      overflow :=
        if b.census.overflow.length < Config.overflowListDepth then b.census.overflow ++ [serial]
        else b.census.overflow
      overfull := true
      strays := if site.isSome then b.census.strays else satInc Config.top8 b.census.strays } }.sendMore
    (muteFrame serial)

/-- A serial takes the lowest free address (R160 rows 5 and 6). -/
def Bus.enterAddress (b : Bus) (address : Nat) (e : AddressEntry) : Bus :=
  { b with
    addresses := b.addresses.set address (some e)
    census := { b.census with
      assigned := if e.site.isSome then b.census.assigned + 1 else b.census.assigned
      strays := if e.site.isSome then b.census.strays else satInc Config.top8 b.census.strays } }.sendMore
    (e.frame address)

/-- One CLEAN serial is handled by the first row that applies (R160). -/
def State.cleanSerial (s : State) (bus : Nat) (serial : Serial) : State :=
  match s.buses[bus]? with
  | none => s
  | some b =>
    let site := s.siteOfSerial serial
    match b.addresses.findIdx? fun e => e.any fun x => x.serial == serial with
    | some a =>
      s.modBus bus fun x =>
        x.sendMore (((b.addresses.getD a none).getD ⟨serial, none⟩).frame a)
    | none =>
      if site.any b.census.wiring.contains || b.census.overflow.contains serial then
        s.modBus bus fun x => x.sendMore (muteFrame serial)
      else
        match site.filter fun i => s.busOf i != bus with
        | some i =>
          (s.modBus bus fun x =>
            { x with census := { x.census with wiring := x.census.wiring ++ [i] } }.sendMore
              (muteFrame serial)).latchWiring
        | none =>
          match b.addresses.findIdx? Option.isNone with
          | none => s.modBus bus fun x => x.overflowSerial serial site
          | some a => s.modBus bus fun x => x.enterAddress a ⟨serial, site⟩

/-- A discovered robot goes from OFFLINE to LOST(POWER), with unknown-discovery pins where its history
is NONE (R21, R63). -/
def State.discover (s : State) (site : Nat) : State :=
  match s.robots[site]? with
  | none => s
  | some r =>
    if r.state = .offline then
      let t := s.modRobot site fun x => { x with state := .lost .power }
      if r.history = .none then t.discoveryPins site else t
    else s

/-- The census ends: RUNNING, and each site with an entry is discovered in ascending order (R161). -/
def State.endCensus (s : State) (bus : Nat) (result : CensusResult) : State :=
  let t := s.modBus bus fun b =>
    { b with
      protocol := .running, census := { b.census with result := result }, round := none,
      keepaliveTime := some s.now, lastPolled := none, lastKeepalive := none }
  t.sweep fun i u =>
    if (u.buses[bus]?).any fun b => b.addresses.any fun e => e.any fun x => x.site == some i then
      u.discover i
    else u

/-- The window after a round (R159 step 5). -/
def windowAfter (w : Nat) (slots : List SlotJudgement) : Nat :=
  if slots.contains .garbled then min 32 (2 * w) else w

/-- The CLEAN serials of a round, in slot order. -/
def cleanSerials (slots : List SlotJudgement) : List Serial :=
  slots.filterMap fun x =>
    match x with
    | .clean serial => some serial
    | .empty => none
    | .garbled => none

/-- The last slot of a round has been judged (R159): CLEAN serials, the window, and the census's end. -/
def State.finishRound (s : State) (bus : Nat) (slots : List SlotJudgement) : State :=
  let t := s.modBus bus fun b => { b with round := none, lastFrames := [] }
  let t := (cleanSerials slots).foldl (fun u serial => u.cleanSerial bus serial) t
  let t := t.modBus bus fun b => { b with nextWindow := windowAfter b.nextWindow slots }
  match t.buses[bus]? with
  | none => t
  | some b =>
    if slots.all (· == .empty) then t.endCensus bus .complete
    else if Config.censusRounds ≤ b.census.rounds then t.endCensus bus .incomplete
    else t

/-! ### Trips (R171) -/

/-- The two causes of a trip (R170). -/
inductive TripCause where
  | current
  | jabber
deriving DecidableEq, Repr

/-- The switch's part in a trip (R171 steps 1 and 2). -/
def Bus.tripped (b : Bus) (cause : TripCause) : Bus :=
  { b with
    switch := .tripped, lastOff := .trip, blanking := false, overCount := 0
    tripCurrent := b.tripCurrent || cause == .current
    tripJabber := b.tripJabber || cause == .jabber }

/-- A bus trips (R171). -/
def State.trip (s : State) (bus : Nat) (cause : TripCause) : State :=
  ((s.modBus bus fun b => b.tripped cause).latchBusTrip).powerLoss [bus]

end Sys2Proof.Machine
end

