-- ==== Sys2Proof/Machine/Arbiter.lean ====
section
/-! DEFINITION. What a bus's arbiter begins (R157), and the replies it takes (R151, R153). An arbiter
command whose place is not the first with something to send changes nothing (log entry 10). -/

namespace Sys2Proof.Machine

/-! ### Place 1: halts (R155) -/

/-- The pending broadcast HALT is sent (R155). -/
def Bus.sendBroadcast (b : Bus) : Bus := { b with haltBroadcast := false }.send ⟨none, .halt⟩

/-- HALT_BROADCAST (R155, R157). -/
def execHaltBroadcast (bus : Nat) (s : State) : Host.Outcome State Fault Refusal :=
  .next (s.modBus bus fun b => if b.free && b.haltBroadcast then b.sendBroadcast else b)

/-- HALT_ADDRESSED (R155, R157): the oldest pending one is taken from the list. -/
def execHaltAddressed (bus : Nat) (s : State) : Host.Outcome State Fault Refusal :=
  match s.buses[bus]? with
  | none => .next s
  | some b =>
    match b.haltAddressed with
    | [] => .next s
    | site :: rest =>
      if b.free && !b.haltBroadcast then
        .next ((s.modBus bus fun x => { x with haltAddressed := rest }).beginTxn bus .halt site)
      else .next s

/-! ### Place 2: leg dispatch (R80, R83, R44, R61) -/

/-- The tag a dispatch gives (R80). -/
def Robot.nextTag (r : Robot) : Nat := (r.tagMemory + 1) % 256

/-- The robot goes from QUEUED to IN_LEG with its leg's tag in the move record (R83, R80). -/
def Robot.dispatch (r : Robot) : Robot :=
  { r with
    state := .inLeg, pollTime := none
    move := r.move.map fun m => { m with tag := some r.nextTag, dispatch := none } }

/-- A DEPLOY's target lens becomes OCCUPIED as its transaction begins (R61). -/
def State.enterTarget (s : State) (site : Nat) (leg : Leg) : State :=
  if leg.kind = .deploy then
    match s.targetLensOf site with
    | some i => s.occupyTarget site i
    | none => s
  else s

/-- The head of the chosen queue is dispatched (R83, R154). -/
def State.dispatchLeg (s : State) (bus site : Nat) (r : Robot) (leg : Leg) : State :=
  let t := s.modBus bus fun b => b.popQueue s.params.share
  let t := (t.modRobot site Robot.dispatch).enterTarget site leg
  s.close (t.beginTxn bus (.move leg r.nextTag) site)

/-- LEG_DISPATCH (R83, R157). -/
def execLegDispatch (bus : Nat) (s : State) : Host.Outcome State Fault Refusal :=
  match s.buses[bus]? with
  | none => .next s
  | some b =>
    if b.free && !b.haltWaiting && s.legWaiting bus b then
      match b.dispatchHead s.params.share with
      | none => .next s
      | some site =>
        match s.robots[site]? with
        | none => .next s
        | some r =>
          match r.move.bind Move.leg with
          | none => .next s
          | some leg => .next (s.dispatchLeg bus site r leg)
    else .next s

/-! ### Place 3: polls (R158) -/

/-- Places 1 and 2 have nothing to send. -/
def State.firstPlacesQuiet (s : State) (bus : Nat) (b : Bus) : Bool :=
  b.free && !b.haltWaiting && !s.legWaiting bus b

/-- A POLL begins: the robot's poll time is its start (R158). -/
def State.beginPoll (s : State) (bus site : Nat) : State :=
  ((s.modRobot site fun r => { r with pollTime := some s.now }).modBus bus fun b =>
    { b with lastPolled := some site }).beginTxn bus .poll site

/-- POLL (R157, R158): of the robots whose poll is due, the next above the last polled. -/
def execPoll (bus : Nat) (s : State) : Host.Outcome State Fault Refusal :=
  match s.buses[bus]? with
  | none => .next s
  | some b =>
    if s.firstPlacesQuiet bus b then
      match nextAbove (s.pollsDue bus s.now) b.lastPolled with
      | none => .next s
      | some site => .next (s.beginPoll bus site)
    else .next s

/-! ### Place 4: SET_COUNTS and INQUIRE (R157) -/

/-- Places 1 to 3 have nothing to send. -/
def State.pollPlacesQuiet (s : State) (bus : Nat) (b : Bus) : Bool :=
  s.firstPlacesQuiet bus b && (s.pollsDue bus s.now).isEmpty

/-- The oldest transaction of place 4 is taken. -/
def Bus.popOp (b : Bus) : Bus := { b with pendingOps := b.pendingOps.tail }

/-- SET_COUNTS (R129, R157). -/
def execSetCounts (bus : Nat) (s : State) : Host.Outcome State Fault Refusal :=
  match s.buses[bus]? with
  | none => .next s
  | some b =>
    match b.pendingOps.head? with
    | some (.setCounts site anchor) =>
      if s.pollPlacesQuiet bus b then
        .next ((s.modBus bus Bus.popOp).beginTxn bus (.setCounts anchor) site)
      else .next s
    | some (.inquire _ _) => .next s
    | none => .next s

/-- INQUIRE_TRANSACTION (R157, R164). -/
def execInquireTransaction (bus : Nat) (s : State) : Host.Outcome State Fault Refusal :=
  match s.buses[bus]? with
  | none => .next s
  | some b =>
    match b.pendingOps.head? with
    | some (.inquire site item) =>
      if s.pollPlacesQuiet bus b then
        .next ((s.modBus bus Bus.popOp).beginTxn bus (.inquire item false) site)
      else .next s
    | some (.setCounts _ _) => .next s
    | none => .next s

/-! ### Place 5: keepalive polls (R158) -/

/-- A keepalive POLL begins (R158). -/
def State.beginKeepalive (s : State) (bus site : Nat) : State :=
  (s.modBus bus fun b =>
    { b with keepaliveTime := some s.now, lastKeepalive := some site }).beginTxn bus .poll site

/-- KEEPALIVE_POLL (R157, R158): once the keepalive interval of the bus has run. -/
def execKeepalivePoll (bus : Nat) (s : State) : Host.Outcome State Fault Refusal :=
  match s.buses[bus]? with
  | none => .next s
  | some b =>
    if s.pollPlacesQuiet bus b && b.pendingOps.isEmpty && s.keepaliveRun b then
      match nextAbove (s.keepaliveSites bus) b.lastKeepalive with
      | none => .next s
      | some site => .next (s.beginKeepalive bus site)
    else .next s

/-! ### Replies (R151, R153) -/

/-- The transaction on a bus's line. -/
def State.txnOn (s : State) (bus : Nat) : Option Txn := (s.buses[bus]?).bind fun b => b.txn

/-- ROBOT_REPLY_GOOD (R151 to R154). -/
def execRobotReplyGood (bus : Nat) (reply : BusReply) (s : State) :
    Host.Outcome State Fault Refusal :=
  match s.txnOn bus with
  | none => .next s
  | some t => .next (s.close (s.goodReply bus t reply))

/-- ROBOT_REPLY_MISSING (R151, R163). -/
def execRobotReplyMissing (bus : Nat) (s : State) : Host.Outcome State Fault Refusal :=
  match s.txnOn bus with
  | none => .next s
  | some t => .next (s.close ((s.modBus bus fun b => b.count .replyTimeouts).attemptFailed bus t))

/-- ROBOT_REPLY_CHECK_ERROR (R150, R151, R163). -/
def execRobotReplyCheckError (bus : Nat) (s : State) : Host.Outcome State Fault Refusal :=
  match s.txnOn bus with
  | none => .next s
  | some t => .next (s.close (s.checkError bus t))

end Sys2Proof.Machine
end

