-- ==== Sys2Proof/Machine/MoveRequests.lean ====
section
/-! DEFINITION. The move requests of the sequencer port (R74 to R76, R91, R92, R98). -/

namespace Sys2Proof.Machine

/-! ### Checks -/

/-- The mode's part in refusing a move (R74, R76, R113). -/
def Mode.moveBar : Mode → Option Status
  | .opened => none
  | .frozen _ => some .frozen
  | .init => some .wrongMode
  | .halted => some .wrongMode

/-- Checks 2 to 5 of a MOVE_TO or PARK (R74). -/
def moveBar (s : State) (r : Robot) : Option Status :=
  match s.mode.moveBar with
  | some st => some st
  | none =>
    if r.enabled = false ∨ (r.move = none ∧ r.state ≠ .idle) then some .notReady
    else if r.move ≠ none then some .busy
    else none

/-- What an admission's request answers (R74). -/
def Admission.body : Admission → Body
  | .done => .ended .done none
  | .denied reason => .ended .denied (some reason)
  | .legs n => .admitted n

/-- A move is admitted from the robot's believed position and answered (R74, R77). -/
def admitAnswer (s : State) (site : Nat) (kind : MoveKind) (x : Site) (p q : Pos) : Answer :=
  let a := s.admitMove site kind x p q false
  okWith a.1 a.2.body

/-- An IDLE robot's believed position; its position is known (R18). -/
def Robot.position (r : Robot) : Pos := (r.believed).getD ⟨0, 0⟩

/-! ### MOVE_TO and PARK -/

/-- A MOVE_TO's answer at a site of the map (R74). -/
def moveToAnswer (site : Nat) (q : Pos) (x : Site) (rob : Robot) (t : State) : Answer :=
  if x.allows q.alpha q.beta = false then refuseWith t .badArg
  else
    match moveBar t rob with
    | some st => refuseWith t st
    | none => admitAnswer t site .moveTo x rob.position q

/-- The installed record and robot record of a site, after the checks of R16. -/
def atSite (t : State) (site : Nat) (f : Site → Robot → State → Answer) : Answer :=
  match siteCheck t site with
  | some st => refuseWith t st
  | none =>
    match t.site? site, t.robots[site]? with
    | some x, some rob => f x rob t
    | _, _ => refuseWith t .badArg

/-- MOVE_TO (R74). -/
def execMoveTo (r : Req) (site alpha beta : Nat) (s : State) : Host.Outcome State Fault Refusal :=
  .next (s.serve r 10 .sequencerOnly fun t => atSite t site (moveToAnswer site ⟨alpha, beta⟩))

/-- The effective park beta of a site (R75). -/
def State.parkBetaAt (s : State) (x : Site) : Nat :=
  min (min s.params.parkBeta s.params.stowAngle) x.betaMax

/-- A PARK's answer at a site of the map (R75). -/
def parkAnswer (site : Nat) (x : Site) (rob : Robot) (t : State) : Answer :=
  match moveBar t rob with
  | some st => refuseWith t st
  | none =>
    admitAnswer t site .park x rob.position ⟨rob.position.alpha, t.parkBetaAt x⟩

/-- PARK (R75). -/
def execPark (r : Req) (site : Nat) (s : State) : Host.Outcome State Fault Refusal :=
  .next (s.serve r 11 .sequencerOnly fun t => atSite t site (parkAnswer site))

/-! ### HOME (R76) -/

/-- The checks of a HOME (R76). -/
def homeBar (s : State) (r : Robot) : Option Status :=
  match s.mode.moveBar with
  | some st => some st
  | none =>
    if r.enabled = false then some .notReady
    else if r.move ≠ none then some .busy
    else if r.state = .idle ∨ r.state = .faulted ∨ r.state = .lost .power then none
    else some .notReady

/-- A HOME is taken: no belief, no fault code, and FOLD in the class A queue (R76). -/
def State.startHome (s : State) (site : Nat) : State :=
  (s.modRobot site fun r => { r.forget with fault := none }).startMove site
    (Move.fresh .home none homeLegs none false)

/-- A HOME's answer at a site of the map (R76). -/
def homeAnswer (site : Nat) (rob : Robot) (t : State) : Answer :=
  match homeBar t rob with
  | some st => refuseWith t st
  | none => okWith (t.startHome site) (.admitted homeLegs.length)

/-- HOME (R76). -/
def execHome (r : Req) (site : Nat) (s : State) : Host.Outcome State Fault Refusal :=
  .next (s.serve r 12 .sequencerOnly fun t => atSite t site fun _ rob u => homeAnswer site rob u)

/-! ### ABORT and ABORT_FIELD (R91, R92) -/

/-- ABORT (R91). -/
def execAbort (r : Req) (site : Nat) (s : State) : Host.Outcome State Fault Refusal :=
  .next (s.serve r 13 .sequencerOnly fun t => atSite t site fun _ rob u =>
    if rob.move = none then refuseWith u .noMove else okWith (u.close (u.abortRobot site)) .none)

/-- The robot has a FIELD move. -/
def Robot.inField (r : Robot) : Bool := r.move.any fun m => m.kind == .field

/-- The robots with a FIELD move in one of these states. -/
def State.fieldCount (s : State) (f : RobotState → Bool) : Nat :=
  s.robots.countP fun r => r.inField && f r.state

/-- ABORT_FIELD (R92). -/
def execAbortField (r : Req) (s : State) : Host.Outcome State Fault Refusal :=
  .next (s.serve r 14 .sequencerOnly fun t =>
    if t.robots.any Robot.inField then
      okWith
        (t.sweep fun i u => if t.robots[i]?.any Robot.inField then u.abortRobot i else u)
        (.stopped (t.fieldCount fun st => st == .queued || st == .waitLens)
          (t.fieldCount fun st => st == .inLeg))
    else refuseWith t .noMove)

/-! ### READ_OUTCOMES (R98) -/

/-- The queue is left empty: the overflow latch and the notice OUTCOME_OVERFLOW clear (R98, R176). -/
def State.clearOverflow (s : State) : State :=
  { s with overflow := false, notices := { s.notices with outcomeOverflow := false } }

/-- A READ_OUTCOMES's answer (R98). -/
def readOutcomes (count : Nat) (t : State) : Answer :=
  if count = 0 ∨ 16 < count then refuseWith t .badArg
  else if t.outcomes.isEmpty then ⟨t.clearOverflow, .empty, .outcomes [] 0 t.overflow⟩
  else
    let u := { t with outcomes := t.outcomes.drop count }
    okWith (if u.outcomes.isEmpty then u.clearOverflow else u)
      (.outcomes (t.outcomes.take count) u.outcomes.length t.overflow)

/-- READ_OUTCOMES (R98). -/
def execReadOutcomes (r : Req) (count : Nat) (s : State) : Host.Outcome State Fault Refusal :=
  .next (s.serve r 15 .sequencerOnly (readOutcomes count))

end Sys2Proof.Machine
end

