-- ==== Sys2Proof/Machine/BusRequests.lean ====
section
/-! DEFINITION. INQUIRE and READ_INQUIRY (R164, R165), BUS_POWER and READ_BUS (R167, R168, R172). -/

namespace Sys2Proof.Machine

/-! ### INQUIRE and READ_INQUIRY -/

/-- The inquiry slot is PENDING. -/
def Inquiry.waiting : Inquiry → Bool
  | .pending _ _ => true
  | .empty => false
  | .done _ _ _ => false
  | .failed _ _ _ => false

/-- The transaction is an INQUIRE that a RESTART withdrew (R165). -/
def Txn.withdrawn (t : Txn) : Bool :=
  match t.kind with
  | .inquire _ w => w
  | .move _ _ => false
  | .poll => false
  | .halt => false
  | .setCounts _ => false

/-- An inquiry stands in the way (R164). -/
def State.inquiryBusy (s : State) : Bool :=
  s.inquiry.waiting || s.buses.any fun b => b.txn.any Txn.withdrawn

/-- An INQUIRE is taken: the slot PENDING, the transaction at place 4 (R164). -/
def State.startInquiry (s : State) (site item : Nat) : State :=
  { s with inquiry := .pending site item }.modBus (s.busOf site) fun b =>
    { b with pendingOps := b.pendingOps ++ [PendingOp.inquire site item] }

/-- An INQUIRE's answer at a site of the map (R164). -/
def inquireAnswer (site item : Nat) (rob : Robot) (t : State) : Answer :=
  if 15 < item then refuseWith t .badArg
  else if t.inquiryBusy then refuseWith t .busy
  else if rob.state = .offline then refuseWith t .notReady
  else okWith (t.startInquiry site item) .none

/-- INQUIRE (R164). -/
def execInquire (r : Req) (site item : Nat) (s : State) : Host.Outcome State Fault Refusal :=
  .next (s.serve r 30 .sequencerOnly fun t => atSite t site fun _ rob u => inquireAnswer site item rob u)

/-- A READ_INQUIRY's answer (R165). -/
def readInquiryAnswer (t : State) : Answer :=
  match t.inquiry with
  | .empty => refuseWith t .empty
  | .pending _ _ => refuseWith t .notReady
  | .done site item v => okWith { t with inquiry := .empty } (.inquiry (.done site item v))
  | .failed site item why => okWith { t with inquiry := .empty } (.inquiry (.failed site item why))

/-- READ_INQUIRY (R165). -/
def execReadInquiry (r : Req) (s : State) : Host.Outcome State Fault Refusal :=
  .next (s.serve r 31 .sequencerOnly readInquiryAnswer)

/-! ### BUS_POWER -/

/-- A switch goes ON (R167). -/
def Bus.switchOn (b : Bus) (now : Nat) : Bus :=
  { b with switch := .on, blanking := true, switchedOn := now, overCount := 0 }

/-- A BUS_POWER on's answer (R167). A bus above 7 is refused with BAD_ARG before the checks of R167's table.
DEDUCED, unsafe (log entry 44). -/
def powerOnAnswer (bus : Nat) (t : State) : Answer :=
  match t.buses[bus]? with
  | none => refuseWith t .badArg
  | some b =>
    if 7 < bus then refuseWith t .badArg
    else if t.map.isNone then refuseWith t .noMap
    else if t.mode = .halted then refuseWith t .wrongMode
    else if b.switch = .on then okWith t (.switch .on)
    else okWith (t.modBus bus fun x => x.switchOn t.now) (.switch .on)

/-- BUS_POWER on (R167). -/
def execBusPowerOn (r : Req) (bus : Nat) (s : State) : Host.Outcome State Fault Refusal :=
  .next (s.serve r 32 .sequencerOnly (powerOnAnswer bus))

/-- A switch that is ON goes OFF by request (R168). -/
def Bus.requestOff (b : Bus) : Bus :=
  { b with switch := .off, lastOff := .request, blanking := false, overCount := 0 }

/-- A TRIPPED switch goes OFF: its last-off cause stays TRIP (R168). -/
def Bus.clearTripped (b : Bus) : Bus := { b with switch := .off, overCount := 0 }

/-- A BUS_POWER off's answer (R168). An OK carries the switch state, as R167 gives it for on. DESIGN CHOICE,
unsafe (log entry 41). -/
def powerOffAnswer (bus : Nat) (t : State) : Answer :=
  match t.buses[bus]? with
  | none => refuseWith t .badArg
  | some b =>
    if 7 < bus then refuseWith t .badArg
    else
      match b.switch with
      | .off => okWith t (.switch .off)
      | .tripped => okWith (t.modBus bus Bus.clearTripped) (.switch .off)
      | .on =>
        if 0 < t.concurrency bus then refuseWith t .busy
        else okWith ((t.modBus bus Bus.requestOff).powerLoss [bus]) (.switch .off)

/-- BUS_POWER off (R168). -/
def execBusPowerOff (r : Req) (bus : Nat) (s : State) : Host.Outcome State Fault Refusal :=
  .next (s.serve r 32 .sequencerOnly (powerOffAnswer bus))

/-! ### READ_BUS (R172) -/

/-- READ_BUS clears both trip latches and the peak (R172). -/
def Bus.clearRead (b : Bus) : Bus := { b with tripCurrent := false, tripJabber := false, peak := 0 }

/-- A READ_BUS's answer (R172). -/
def readBusAnswer (bus : Nat) (t : State) : Answer :=
  match t.buses[bus]? with
  | none => refuseWith t .badArg
  | some b =>
    if 7 < bus then refuseWith t .badArg
    else
      okWith (t.modBus bus Bus.clearRead)
        (.bus b.switch b.lastOff b.blanking b.tripCurrent b.tripJabber b.peak b.latest b.overCount
          b.threshold b.tripCount b.protocol b.census b.addresses b.stats b.queueA.length
          b.queueB.length b.credit (t.concurrency bus) b.concurrencyLimit)

/-- READ_BUS (R172). -/
def execReadBus (r : Req) (bus : Nat) (s : State) : Host.Outcome State Fault Refusal :=
  .next (s.serve r 33 .sequencerOnly (readBusAnswer bus))

end Sys2Proof.Machine
end

