-- ==== Sys2Proof/Machine/RobotTable.lean ====
section
/-! DEFINITION. The requests that act on robot records, READ_ROBOT and READ_LENS (R29 to R32, R71). -/

namespace Sys2Proof.Machine

/-! ### Enable map (R29) -/

/-- The mask has an entry set for a site. -/
def masked (mask : List Bool) (site : Nat) : Bool := mask.getD site false

/-- The checks of the two enable requests: no map, or an entry set beyond the site count (R29). -/
def maskCheck (s : State) (mask : List Bool) : Option Status :=
  if s.map.isNone then some .noMap
  else if (mask.drop s.siteCount).any id then some .badArg
  else none

/-- The number of enabled sites. -/
def State.enabledCount (s : State) : Nat := s.robots.countP (·.enabled)

/-- The enabled flag of every masked site takes a value (R29). -/
def State.setEnabled (s : State) (mask : List Bool) (v : Bool) : State :=
  { s with robots := s.robots.mapIdx fun i r => if masked mask i then { r with enabled := v } else r }

/-- A robot newly disabled while QUEUED or WAIT_LENS has its move ended DISABLED at once (R29, R93). -/
def State.disableSite (before : State) (mask : List Bool) (i : Nat) (s : State) : State :=
  if masked mask i && before.robots[i]?.any (·.enabled) &&
      s.robots[i]?.any (fun r => r.state == .queued || r.state == .waitLens) then
    s.endAtRest i (some (.disabled, none))
  else s

/-- ENABLE_SET (R29). -/
def execEnableSet (r : Req) (mask : List Bool) (s : State) : Host.Outcome State Fault Refusal :=
  .next (s.serve r 5 .sequencerOnly fun t =>
    match maskCheck t mask with
    | some st => refuseWith t st
    | none => let u := t.setEnabled mask true
      okWith u (.count u.enabledCount))

/-- ENABLE_CLEAR (R29). -/
def execEnableClear (r : Req) (mask : List Bool) (s : State) : Host.Outcome State Fault Refusal :=
  .next (s.serve r 6 .sequencerOnly fun t =>
    match maskCheck t mask with
    | some st => refuseWith t st
    | none =>
      let u := (t.setEnabled mask false).sweep (State.disableSite t mask)
      okWith u (.count u.enabledCount))

/-! ### CLEAR_FAULT (R31) -/

/-- A FAULTED robot enters IDLE with no fault code (R31). -/
def Robot.clearFault (r : Robot) : Robot := { r with state := .idle, fault := none }

/-- CLEAR_FAULT (R31). -/
def execClearFault (r : Req) (site : Nat) (s : State) : Host.Outcome State Fault Refusal :=
  .next (s.serve r 7 .sequencerOnly fun t =>
    match siteCheck t site with
    | some st => refuseWith t st
    | none =>
      if t.robotIs site .faulted then okWith (t.modRobot site Robot.clearFault) .none
      else refuseWith t .notReady)

/-! ### READ_ROBOT (R32) -/

/-- The facing sector of a robot whose position is known (R32, R34). -/
def State.facingOf (s : State) (site : Nat) (r : Robot) : Option Nat :=
  match s.site? site, r.believed with
  | some x, some p => some (x.sector p.alpha)
  | _, _ => none

/-- What READ_ROBOT shows of a robot (R32). -/
def State.robotView (s : State) (site : Nat) (r : Robot) : RobotView :=
  { site := site, serial := r.serial, bus := r.bus, address := s.addressOf site, state := r.state,
    history := r.history, enabled := r.enabled, fault := r.fault, alpha := r.alpha, beta := r.beta,
    facing := s.facingOf site r, epoch := r.epoch, last := r.last
    move := r.move.map fun m => (m.kind, m.leg.map fun l => l.kind, m.index, m.legs.length)
    dirAlpha := r.dirAlpha, dirBeta := r.dirBeta, iterations := r.iterations,
    converged := r.converged, notConverged := r.notConverged, failures := r.failures,
    occupied := s.occupiedLens site, reserved := s.reservedLens site, pins := s.pinsOf site,
    lastOutcome := r.lastOutcome }

/-- READ_ROBOT (R32). -/
def execReadRobot (r : Req) (first count : Nat) (s : State) : Host.Outcome State Fault Refusal :=
  .next (s.serve r 8 .both fun t =>
    match rangeCheck t first count 8 t.siteCount with
    | some st => refuseWith t st
    | none =>
      okWith t (.robots ((List.range' first count).filterMap fun i =>
        (t.robots[i]?).map fun x => t.robotView i x)))

/-! ### READ_LENS (R71) -/

/-- The sides that pin a lens. -/
def Lens.pins (l : Lens) (d : Decided) : List LensSide :=
  (if d.pinA then [l.a] else []) ++ (if d.pinB then [l.b] else [])

/-- What READ_LENS shows of a record (R71); remaining times in ms. -/
def Lens.recordView (l : Lens) (now : Nat) : LensRecordView :=
  match l.body with
  | .decided d =>
    .decided d.state (d.holder.map fun h => (l.side h.1, h.2)) (l.pins d) (d.waiter.map l.side)
      (d.deadline.map fun t => t - now)
  | .client c => .client c.claim (c.deadline.map fun t => t - now) c.lastRefusal

/-- What READ_LENS shows of a lens (R71). -/
def State.lensView (s : State) (i : Nat) : Option LensView :=
  (s.lenses[i]?).map fun l => ⟨i, l.role, l.a, l.b, l.recordView s.now⟩

/-- READ_LENS (R71). -/
def execReadLens (r : Req) (first count : Nat) (s : State) : Host.Outcome State Fault Refusal :=
  .next (s.serve r 9 .both fun t =>
    match rangeCheck t first count 16 t.lenses.length with
    | some st => refuseWith t st
    | none => okWith t (.lenses ((List.range' first count).filterMap t.lensView)))

end Sys2Proof.Machine
end

