-- ==== Sys2Proof/Machine/Metrology.lean ====
section
/-! DEFINITION. The metrology processor's requests: SNAPSHOT, CORRECT and RE_ANCHOR (chapter 7). -/

namespace Sys2Proof.Machine

/-! ### SNAPSHOT (R118) -/

/-- What SNAPSHOT shows of a robot (R118). -/
def State.snapshotOf (s : State) (site : Nat) (r : Robot) : SnapshotSite :=
  { site := site, state := r.state, position := r.believed, facing := s.facingOf site r,
    epoch := r.epoch, converged := r.converged, notConverged := r.notConverged }

/-- The positions-changed flag after a SNAPSHOT on a port (R27, R118). -/
def State.clearPosChanged (s : State) (port : PortId) : State :=
  match port with
  | .metrology => { s with posChanged := false }
  | .sequencer => s

/-- SNAPSHOT (R118). -/
def execSnapshot (r : Req) (first count : Nat) (s : State) : Host.Outcome State Fault Refusal :=
  .next (s.serve r 25 .both fun t =>
    match rangeCheck t first count 96 t.siteCount with
    | some st => refuseWith t st
    | none =>
      okWith (t.clearPosChanged r.port)
        (.snapshot ((List.range' first count).filterMap fun i =>
          (t.robots[i]?).map fun x => t.snapshotOf i x) t.posChanged t.mode))

/-! ### CORRECT (R120 to R127) -/

/-- The offset of a report is in range (R120). -/
def offsetGood (d : Int) : Bool := decide (-2048 ≤ d) && decide (d ≤ 2047)

/-- The checks of R121, in their order. -/
def reportBar (s : State) (c : CorrectionReport) : Option ReportOutcome :=
  match s.robots[c.site]? with
  | none => some .badArg
  | some r =>
    if 60000 < c.residual ∨ offsetGood c.dAlpha = false ∨ offsetGood c.dBeta = false then some .badArg
    else if s.mode ≠ .opened then some .frozen
    else if r.enabled = false ∨ (r.move = none ∧ r.state ≠ .idle) then some .notReady
    else if r.move ≠ none then some .busy
    else if c.epochSeen ≠ r.epoch then some .stale
    else none

/-- The CONVERGED flag is set (R126). -/
def Robot.converge (r : Robot) : Robot := { r with converged := true }

/-- The NOT_CONVERGED flag is set (R127). -/
def Robot.failConverge (r : Robot) : Robot := { r with notConverged := true }

/-- An iteration is spent (R125, R126). -/
def Robot.iterate (r : Robot) : Robot :=
  { r with iterations := satInc Config.iterationTop r.iterations, converged := false }

/-- The iteration count of a site's robot, for a report's result. -/
def State.iterationsOf (s : State) (site : Nat) : Option Nat := (s.robots[site]?).map (·.iterations)

/-- A report's target goes to the move engine (R123). -/
def admitReport (s : State) (c : CorrectionReport) (x : Site) (p q : Pos) (limited : Bool) :
    State × ReportResult :=
  let a := s.admitMove c.site .correction x p q limited
  match a.2 with
  | .denied reason =>
    (a.1, ⟨c.site, .denied, limited, some reason, some q, none, a.1.iterationsOf c.site⟩)
  | .legs n =>
    let t := a.1.modRobot c.site Robot.iterate
    (t, ⟨c.site, .admitted, limited, none, some q, some n, t.iterationsOf c.site⟩)
  | .done =>
    (a.1, ⟨c.site, .null, limited, none, none, none, a.1.iterationsOf c.site⟩)

/-- A report that passes R121 goes through the stages (R122). -/
def stageReport (s : State) (c : CorrectionReport) (x : Site) (r : Robot) : State × ReportResult :=
  if c.residual ≤ s.params.tolerance then
    let t := s.modRobot c.site Robot.converge
    (t, ⟨c.site, .converged, false, none, none, none, t.iterationsOf c.site⟩)
  else if s.params.iterationLimit ≤ r.iterations then
    let t := s.modRobot c.site Robot.failConverge
    (t, ⟨c.site, .limit, false, none, none, none, t.iterationsOf c.site⟩)
  else
    match correctionStages s.params x r.position r.dirAlpha r.dirBeta c.dAlpha c.dBeta with
    | .null limited =>
      let t := s.modRobot c.site Robot.iterate
      (t, ⟨c.site, .null, limited, none, none, none, t.iterationsOf c.site⟩)
    | .target q limited => admitReport s c x r.position q limited

/-- One report, taken whole (R120). -/
def takeReport (s : State) (c : CorrectionReport) : State × ReportResult :=
  match reportBar s c with
  | some o => (s, ⟨c.site, o, false, none, none, none, none⟩)
  | none =>
    match s.site? c.site, s.robots[c.site]? with
    | some x, some r => stageReport s c x r
    | _, _ => (s, ⟨c.site, .badArg, false, none, none, none, none⟩)

/-- The reports of a request, in order (R120). -/
def takeReports : State → List CorrectionReport → State × List ReportResult
  | s, [] => (s, [])
  | s, c :: rest =>
    let a := takeReport s c
    let b := takeReports a.1 rest
    (b.1, a.2 :: b.2)

/-- The outcomes in the order of R121 to R123. -/
def reportOutcomes : List ReportOutcome :=
  [.badArg, .frozen, .notReady, .busy, .stale, .converged, .limit, .null, .denied, .admitted]

/-- One count per outcome (R124). -/
def outcomeCounts (l : List ReportResult) : List Nat :=
  reportOutcomes.map fun o => l.countP fun x => x.outcome == o

/-- A CORRECT's answer (R120, R124). -/
def correctAnswer (reports : List CorrectionReport) (t : State) : Answer :=
  if t.map.isNone then refuseWith t .noMap
  else if reports.isEmpty ∨ 32 < reports.length then refuseWith t .badArg
  else
    let a := takeReports t reports
    okWith a.1 (.corrected a.2 (outcomeCounts a.2))

/-- CORRECT (R120 to R124). -/
def execCorrect (r : Req) (reports : List CorrectionReport) (s : State) :
    Host.Outcome State Fault Refusal :=
  .next (s.serve r 26 .metrologyOnly (correctAnswer reports))

/-! ### RE_ANCHOR (R128, R129) -/

/-- A RE_ANCHOR is taken (R129). -/
def State.startAnchor (s : State) (site : Nat) (p : Pos) : State :=
  (s.modRobot site fun r => { r with state := .anchoring, anchor := some p }).modBus (s.busOf site)
    fun b => { b with pendingOps := b.pendingOps ++ [.setCounts site p] }

/-- A RE_ANCHOR's answer at a site of the map (R128, R129). -/
def reAnchorAnswer (site : Nat) (p : Pos) (x : Site) (rob : Robot) (t : State) : Answer :=
  if x.allows p.alpha p.beta = false then refuseWith t .badArg
  else if rob.state ≠ .lost .power then refuseWith t .notReady
  else if t.consistent site p = false then
    ⟨t, .inconsistent, .inconsistent (x.sector p.alpha) ((t.facingLens site p).bind t.lensView)⟩
  else okWith (t.startAnchor site p) (.reAnchoring rob.epoch)

/-- RE_ANCHOR (R128, R129). -/
def execReAnchor (r : Req) (site alpha beta : Nat) (s : State) : Host.Outcome State Fault Refusal :=
  .next (s.serve r 27 .metrologyOnly fun t => atSite t site (reAnchorAnswer site ⟨alpha, beta⟩))

end Sys2Proof.Machine
end

