-- ==== Sys2Proof/Machine/Parameters.lean ====
section
/-! DEFINITION. SET_PARAM, one request for each parameter (R179). A refusal leaves the parameter as it
was, and a taken request answers with the value now in force. -/

namespace Sys2Proof.Machine

/-- A part parameter with a range: BAD_ARG outside it, and otherwise set (R179). -/
def rangeParam (lo hi value : Nat) (set : Params → Params) (t : State) : Answer :=
  if value < lo ∨ hi < value then refuseWith t .badArg
  else okWith { t with params := set t.params } (.param (.number value))

/-- A per-bus parameter with a range: BAD_ARG for a bus above 7 or a value outside the range (R179). -/
def busParam (bus lo hi value : Nat) (set : Bus → Bus) (t : State) : Answer :=
  if 7 < bus then refuseWith t .badArg
  else if value < lo ∨ hi < value then refuseWith t .badArg
  else okWith (t.modBus bus set) (.param (.number value))

/-- The robot's position may be known: it is neither OFFLINE nor LOST (R35). -/
def Robot.placed (r : Robot) : Bool :=
  match r.state with
  | .offline => false
  | .lost _ => false
  | .idle => true
  | .faulted => true
  | .queued => true
  | .inLeg => true
  | .waitLens => true
  | .halting => true
  | .anchoring => true

/-- The stow angle's answer (R35). -/
def stowAnswer (value : Nat) (t : State) : Answer :=
  if value < 1920 ∨ 7680 < value then refuseWith t .badArg
  else if t.mode ≠ .init then refuseWith t .wrongMode
  else if t.map.isSome && t.robots.any Robot.placed then refuseWith t .busy
  else okWith { t with params := { t.params with stowAngle := value } } (.param (.number value))

/-- SET_PARAM, stow angle (R35). -/
def execSetParamStowAngle (r : Req) (value : Nat) (s : State) : Host.Outcome State Fault Refusal :=
  .next (s.serve r 36 .sequencerOnly (stowAnswer value))

/-- SET_PARAM, park beta: 0 to the stow angle in force (R75). -/
def execSetParamParkBeta (r : Req) (value : Nat) (s : State) : Host.Outcome State Fault Refusal :=
  .next (s.serve r 36 .sequencerOnly fun t =>
    rangeParam 0 t.params.stowAngle value (fun p => { p with parkBeta := value }) t)

/-- SET_PARAM, gain g (R37). -/
def execSetParamGain (r : Req) (value : Nat) (s : State) : Host.Outcome State Fault Refusal :=
  .next (s.serve r 36 .sequencerOnly
    (rangeParam 0 256 value fun p => { p with gain := value }))

/-- SET_PARAM, maximum correction C (R37). -/
def execSetParamMaximumCorrection (r : Req) (value : Nat) (s : State) : Host.Outcome State Fault Refusal :=
  .next (s.serve r 36 .sequencerOnly
    (rangeParam 1 2047 value fun p => { p with maxCorrection := value }))

/-- SET_PARAM, tolerance T (R37). -/
def execSetParamTolerance (r : Req) (value : Nat) (s : State) : Host.Outcome State Fault Refusal :=
  .next (s.serve r 36 .sequencerOnly
    (rangeParam 1 1000 value fun p => { p with tolerance := value }))

/-- SET_PARAM, iteration limit N (R37). -/
def execSetParamIterationLimit (r : Req) (value : Nat) (s : State) : Host.Outcome State Fault Refusal :=
  .next (s.serve r 36 .sequencerOnly
    (rangeParam 1 15 value fun p => { p with iterationLimit := value }))

/-- The share ratio a request names (R43). -/
def ShareRatio.ofArg : ShareArg → Option ShareRatio
  | .strictA => some .strictA
  | .ratio 1 => some .one
  | .ratio 3 => some .three
  | .ratio 7 => some .seven
  | .ratio _ => none

/-- The credit of a bus as the ratio goes from `old` to `new`: a change to 1, 3 or 7 sets it to the new
ratio, and otherwise it stays (R43). -/
def creditAfter (old new : ShareRatio) (credit : Nat) : Nat :=
  if new = old then credit else new.credit.getD credit

/-- The share ratio's answer (R43). A SET_PARAM to the ratio in force changes nothing (log entry 28). -/
def shareAnswer (value : ShareArg) (t : State) : Answer :=
  match ShareRatio.ofArg value with
  | none => refuseWith t .badArg
  | some x =>
    okWith
      { t with
        params := { t.params with share := x }
        buses := t.buses.map fun b => { b with credit := creditAfter t.params.share x b.credit } }
      (.param (.share x))

/-- SET_PARAM, share ratio (R43). -/
def execSetParamShareRatio (r : Req) (value : ShareArg) (s : State) :
    Host.Outcome State Fault Refusal :=
  .next (s.serve r 36 .sequencerOnly (shareAnswer value))

/-- SET_PARAM, deadline preset (R45). -/
def execSetParamDeadlinePreset (r : Req) (value : Nat) (s : State) : Host.Outcome State Fault Refusal :=
  .next (s.serve r 36 .sequencerOnly
    (rangeParam 1 65535 value fun p => { p with deadlinePreset := value }))

/-- The deadline action's answer (R115). -/
def actionAnswer (value : Option DeadlineAction) (t : State) : Answer :=
  match value with
  | none => refuseWith t .badArg
  | some a => okWith { t with params := { t.params with deadlineAction := a } } (.param (.action a))

/-- SET_PARAM, deadline action (R115). -/
def execSetParamDeadlineAction (r : Req) (value : Option DeadlineAction) (s : State) :
    Host.Outcome State Fault Refusal :=
  .next (s.serve r 36 .sequencerOnly (actionAnswer value))

/-- SET_PARAM, lens wait limit (R56). -/
def execSetParamLensWaitLimit (r : Req) (value : Nat) (s : State) : Host.Outcome State Fault Refusal :=
  .next (s.serve r 36 .sequencerOnly
    (rangeParam 1 600 value fun p => { p with lensWaitLimit := value }))

/-- SET_PARAM, leg time limit (R87). -/
def execSetParamLegTimeLimit (r : Req) (value : Nat) (s : State) : Host.Outcome State Fault Refusal :=
  .next (s.serve r 36 .sequencerOnly
    (rangeParam 1 120 value fun p => { p with legTimeLimit := value }))

/-- SET_PARAM, attempt limit (R151). -/
def execSetParamAttemptLimit (r : Req) (value : Nat) (s : State) : Host.Outcome State Fault Refusal :=
  .next (s.serve r 36 .sequencerOnly
    (rangeParam 1 4 value fun p => { p with attemptLimit := value }))

/-- SET_PARAM, failure limit (R152). -/
def execSetParamFailureLimit (r : Req) (value : Nat) (s : State) : Host.Outcome State Fault Refusal :=
  .next (s.serve r 36 .sequencerOnly
    (rangeParam 1 8 value fun p => { p with failureLimit := value }))

/-- SET_PARAM, poll interval (R158). -/
def execSetParamPollInterval (r : Req) (value : Nat) (s : State) : Host.Outcome State Fault Refusal :=
  .next (s.serve r 36 .sequencerOnly
    (rangeParam 10 1000 value fun p => { p with pollInterval := value }))

/-- SET_PARAM, keepalive interval (R158). -/
def execSetParamKeepaliveInterval (r : Req) (value : Nat) (s : State) : Host.Outcome State Fault Refusal :=
  .next (s.serve r 36 .sequencerOnly
    (rangeParam 50 5000 value fun p => { p with keepaliveInterval := value }))

/-- The concurrency limit's answer: BUSY while the bus's count is above 0 (R83). -/
def concurrencyAnswer (bus value : Nat) (t : State) : Answer :=
  if 7 < bus then refuseWith t .badArg
  else if value < 1 ∨ 12 < value then refuseWith t .badArg
  else if 0 < t.concurrency bus then refuseWith t .busy
  else okWith (t.modBus bus fun b => { b with concurrencyLimit := value }) (.param (.number value))

/-- SET_PARAM, concurrency limit (R83). -/
def execSetParamConcurrencyLimit (r : Req) (bus value : Nat) (s : State) :
    Host.Outcome State Fault Refusal :=
  .next (s.serve r 36 .sequencerOnly (concurrencyAnswer bus value))

/-- SET_PARAM, threshold H (R47). -/
def execSetParamThreshold (r : Req) (bus value : Nat) (s : State) : Host.Outcome State Fault Refusal :=
  .next (s.serve r 36 .sequencerOnly
    (busParam bus 100 4000 value fun b => { b with threshold := value }))

/-- SET_PARAM, trip count K (R47). -/
def execSetParamTripCount (r : Req) (bus value : Nat) (s : State) : Host.Outcome State Fault Refusal :=
  .next (s.serve r 36 .sequencerOnly
    (busParam bus 1 15 value fun b => { b with tripCount := value }))

/-- A statistics selection's answer: the counter selects the object and becomes 0 (R163). -/
def statisticsAnswer (bus counter : Nat) (object : Option StatObject) (t : State) : Answer :=
  if 7 < bus ∨ 3 < counter then refuseWith t .badArg
  else
    match object with
    | none => refuseWith t .badArg
    | some o =>
      okWith (t.modBus bus fun b => { b with stats := b.stats.set counter ⟨o, 0⟩ })
        (.param (.object o))

/-- SET_PARAM, statistics selection (R163). -/
def execSetParamStatisticsSelection (r : Req) (bus counter : Nat) (object : Option StatObject)
    (s : State) : Host.Outcome State Fault Refusal :=
  .next (s.serve r 36 .sequencerOnly (statisticsAnswer bus counter object))

end Sys2Proof.Machine
end

