-- ==== Sys2Proof/Machine/PeerFrames.lean ====
section
/-! DEFINITION. Peer frames taken (R135 to R144), what a link unit does in time, and frames sent. -/

namespace Sys2Proof.Machine

/-! ### Taking a frame -/

/-- The link is in this state. -/
def State.linkIs (s : State) (n : Nat) (st : LinkState) : Bool :=
  s.links[n]?.any fun l => l.state == st

/-- A frame is taken without error: the silence time restarts (R143). -/
def State.touch (s : State) (n : Nat) : State := s.modLink n fun l => { l with takenAt := s.now }

/-- The receive sequence advances modulo 256 (R135). -/
def State.advanceRecv (s : State) (n : Nat) : State :=
  s.modLink n fun l => { l with recvSeq := (l.recvSeq + 1) % 256 }

/-- A numbered frame's sequence is checked in SYNCING and UP (R136). -/
def Link.sequenceBad (l : Link) (seq : Nat) : Bool :=
  (l.state == .syncing || l.state == .up) && seq != l.recvSeq

/-- A KEEPALIVE or a border message is taken (R135, R136, R143): an error, discarded outside UP, or
acted on in UP. `good` says that its kind and its lens are right. -/
def State.takeNumbered (s : State) (h : PeerHeader) (good : Bool) (act : State → State) : State :=
  match s.links[h.link]? with
  | none => s
  | some l =>
    if l.state = .disabled then s
    else if h.sender ≠ s.neighbourNumber h.link ∨ good = false ∨ l.sequenceBad h.seq = true then
      s.close (s.frameError h.link)
    else if l.state = .up then s.close (act ((s.touch h.link).advanceRecv h.link))
    else s.touch h.link

/-! ### IDENT (R138, R139, R140, R143) -/

/-- An IDENT's sector and expected sector are right (R138). On a link whose neighbour sector number is 0
none is (R13, R138). DEDUCED, unsafe (log entry 35): the cause such an IDENT leaves is SECTOR. -/
def State.sectorsMatch (s : State) (n : Nat) (f : Ident) : Bool :=
  s.neighbourNumber n != 0 && f.sector == s.neighbourNumber n && f.expected == s.sectorNumber

/-- An IDENT matches the map (R138). -/
def State.identMatches (s : State) (n : Nat) (f : Ident) : Bool :=
  s.sectorsMatch n f && f.digest == s.digest n

/-- The mismatch cause an IDENT gives, or the one held (R138). -/
def State.mismatchOf (s : State) (n : Nat) (f : Ident) (held : Mismatch) : Mismatch :=
  if s.sectorsMatch n f = false then .sector
  else if f.digest = s.digest n then held
  else .digest

/-- The match count after an IDENT in PROBING (R138). -/
def Link.matchAfter (l : Link) (good : Bool) (f : Ident) : Nat :=
  if good = false then 0
  else if l.lastIdent.any fun x => x.level == f.level then l.matchCount + 1
  else 1

/-- An IDENT is recorded: it becomes the last IDENT, its ack is kept outside PROBING, and a mismatch
cause is latched (R133, R138). -/
def State.recordIdent (s : State) (n : Nat) (f : Ident) (acks : Bool) : State :=
  s.modLink n fun l =>
    { l with lastIdent := some f, partnerAck := l.partnerAck || (acks && f.ack)
             mismatch := s.mismatchOf n f l.mismatch, takenAt := s.now }

/-- An IDENT taken in PROBING (R138). -/
def State.probingIdent (s : State) (n : Nat) (f : Ident) : State :=
  match s.links[n]? with
  | none => s
  | some l =>
    let count := l.matchAfter (s.identMatches n f) f
    let t := (s.recordIdent n f false).modLink n fun x => { x with matchCount := count }
    if 3 ≤ count then t.enterMatched n else t

/-- An IDENT taken in MATCHED (R139). -/
def State.matchedIdent (s : State) (n : Nat) (f : Ident) : State :=
  let t := s.recordIdent n f true
  if s.identMatches n f = false then t.enterProbing n
  else if f.ack then t.enterSyncing n
  else t

/-- An IDENT taken in SYNCING (R140). -/
def State.syncingIdent (s : State) (n : Nat) (f : Ident) : State :=
  let t := s.recordIdent n f true
  if s.identMatches n f && f.ack then t else t.enterProbing n

/-- An IDENT is taken by the link's state (R138 to R140, R143). -/
def State.takeIdent (s : State) (n : Nat) (f : Ident) : State :=
  match s.links[n]? with
  | none => s
  | some l =>
    match l.state with
    | .disabled => s
    | .probing => s.probingIdent n f
    | .matched => s.matchedIdent n f
    | .syncing => s.syncingIdent n f
    | .up => s.close ((s.takeDown n).probingIdent n f)
    | .fault => s.touch n

/-- IDENT (R138 to R140, R143). -/
def execIdent (link : Nat) (frame : Ident) (s : State) : Host.Outcome State Fault Refusal :=
  .next (s.takeIdent link frame)

/-! ### SUMMARY (R136, R139 to R142) -/

/-- The positions of a SUMMARY's entries rise. -/
def positionsRise : List SummaryEntry → Bool
  | [] => true
  | [_] => true
  | x :: y :: rest => decide (x.position < y.position) && positionsRise (y :: rest)

/-- A SUMMARY is well formed for a link (R136). -/
def State.summaryGood (s : State) (n count : Nat) (entries : List SummaryEntry) : Bool :=
  count == entries.length && positionsRise entries &&
    entries.all fun e =>
      decide (e.position < (s.borderList n).length) && (e.state == 1 || e.state == 2)

/-- What a SUMMARY's entries say of a border position (R181). -/
def entryFor (entries : List SummaryEntry) (position : Nat) : Option SummaryState :=
  match entries.find? fun e => e.position == position with
  | none => none
  | some e => if e.state = 1 then some .held else some .pinned

/-- A HELD entry meets a lens that a local part stands against (R141). -/
def Decided.disputed (d : Decided) (p : Party) (e : Option SummaryState) : Bool :=
  e == some .held && (d.heldBy p.other || d.pinned p.other)

/-- One lens is adopted (R141); `p` is the remote side. -/
def State.adoptLens (s : State) (i : Nat) (l : Lens) (d : Decided) (p : Party)
    (e : Option SummaryState) : State :=
  match e with
  | some .held =>
    if d.heldBy p then s.setDecided i (d.setKind p .occupied)
    else if d.heldBy p.other then s
    else if d.pinned p.other then s.setDecided i (d.addPin p)
    else s.setDecided i (d.occupyBy p)
  | some .pinned =>
    if d.heldBy p then s.holdingToPin i l d p else s.setDecided i (d.addPin p)
  | none =>
    if d.heldBy p then s.releaseDecided i l d
    else if d.pinned p then s.setDecided i (d.removePin p)
    else s

/-- The lens at a border position is adopted, and its index noted where it is disputed (R141). -/
def adoptPosition (entries : List SummaryEntry) (a : State × List Nat) (x : Nat × Nat) :
    State × List Nat :=
  match a.1.lenses[x.1]? with
  | none => a
  | some l =>
    match l.remoteParty, l.body with
    | some p, .decided d =>
      let e := entryFor entries x.2
      (a.1.adoptLens x.1 l d p e, if d.disputed p e then a.2 ++ [x.1] else a.2)
    | _, _ => a

/-- A unit that takes a SUMMARY sets its receive sequence to 1 (R135). -/
def State.summaryTaken (s : State) (n : Nat) : State :=
  s.modLink n fun l => { l with recvSeq := 1, takenAt := s.now }

/-- The arbiter side adopts the client's SUMMARY and enters UP or FAULT (R141, R147). -/
def State.adopt (s : State) (n : Nat) (entries : List SummaryEntry) : State :=
  let a := ((s.borderList n).zipIdx).foldl (adoptPosition entries) (s.summaryTaken n, [])
  let t := a.1.modLink n fun l =>
    { l with lastDisputeCount := a.2.length, lastDisputeLens := a.2.head?
             dispute := l.dispute || !a.2.isEmpty }
  s.close (if a.2.isEmpty then t.enterUp n else t.enterFault n)

/-- The message for a record that has changed since this part's SUMMARY (R142). -/
def changeMessage (sent : Option SummaryState) (now : ClaimState) : Option BorderMessage :=
  match sent, now with
  | some .held, .pinned => some .pin
  | some .held, .none => some .release
  | some .pinned, .none => some .release
  | some .pinned, .heldOccupied => some .hold
  | none, .pinned => some .pin
  | _, _ => none

/-- The record at a border position is compared with the sent summary (R142). -/
def comparePosition (n : Nat) (sent : List (Nat × SummaryState)) (s : State) (x : Nat × Nat) : State :=
  match s.lenses[x.1]? with
  | none => s
  | some l =>
    match l.body with
    | .decided _ => s
    | .client c =>
      match changeMessage ((sent.find? fun y => y.1 == x.2).map fun y => y.2) c.claim with
      | none => s
      | some m => s.sendBorder n x.1 m

/-- The client side takes the arbiter's SUMMARY: UP, and a message for each difference (R142). -/
def State.followSummary (s : State) (n : Nat) : State :=
  let sent := ((s.links[n]?).map fun l => l.sentSummary).getD []
  s.close (((s.borderList n).zipIdx).foldl (comparePosition n sent) ((s.summaryTaken n).enterUp n))

/-- A SUMMARY in SYNCING is taken by the unit's role (R140). -/
def State.syncSummary (s : State) (n : Nat) (entries : List SummaryEntry) : State :=
  if s.isArbiter n then s.adopt n entries else s.followSummary n

/-- A SUMMARY is taken by the link's state (R136, R139, R140, R143). -/
def State.takeSummary (s : State) (h : PeerHeader) (count : Nat) (entries : List SummaryEntry) :
    State :=
  match s.links[h.link]? with
  | none => s
  | some l =>
    if l.state = .disabled then s
    else if h.sender ≠ s.neighbourNumber h.link ∨ s.summaryGood h.link count entries = false ∨
        l.sequenceBad h.seq = true then s.close (s.frameError h.link)
    else
      match l.state with
      | .matched =>
        let t := s.enterSyncing h.link
        if t.linkIs h.link .syncing then t.syncSummary h.link entries else t
      | .syncing => s.syncSummary h.link entries
      | .up => (s.touch h.link).advanceRecv h.link
      | .disabled => s
      | .probing => s.touch h.link
      | .fault => s.touch h.link

/-- SUMMARY (R141; by the unit's role). -/
def execSummary (h : PeerHeader) (count : Nat) (entries : List SummaryEntry) (s : State) :
    Host.Outcome State Fault Refusal :=
  .next (s.takeSummary h count entries)

/-- SUMMARY_CLIENT (R142; by the unit's role). On the line it is the same frame as a SUMMARY. -/
def execSummaryClient (h : PeerHeader) (count : Nat) (entries : List SummaryEntry) (s : State) :
    Host.Outcome State Fault Refusal :=
  .next (s.takeSummary h count entries)

/-! ### KEEPALIVE and border messages (R68, R69, R143, R144) -/

/-- KEEPALIVE (R143). -/
def execKeepalive (h : PeerHeader) (s : State) : Host.Outcome State Fault Refusal :=
  .next (s.takeNumbered h true id)

/-- A message for the arbiter side acts on the ARBITER record it names (R68, R136, R144). -/
def State.arbiterMessage (s : State) (h : PeerHeader) (n : LensName)
    (act : State → Nat → Lens → Decided → Party → State) : State :=
  s.takeNumbered h (s.isArbiter h.link && (s.lensNamed h.link n).isSome) fun t =>
    match s.lensNamed h.link n with
    | none => t
    | some i =>
      match t.lenses[i]? with
      | none => t
      | some l =>
        match l.remoteParty, l.body with
        | some p, .decided d => act t i l d p
        | _, _ => t

/-- The message that answers a remote claim (R53). -/
def ClaimResult.answer : ClaimResult → Option BorderMessage
  | .grant => some .grant
  | .queue => none
  | .deny .pinned => some (.refuse .pinned)
  | .deny .taken => some (.refuse .taken)
  | .deny .linkDown => some (.refuse .taken)
  | .deny .refused => some (.refuse .taken)

/-- A CLAIM from the remote side (R53, R54, R68). -/
def claimMessage (t : State) (i : Nat) (l : Lens) (d : Decided) (p : Party) : State :=
  let n := l.link.getD 0
  if d.heldBy p then t.sendBorder n i .grant
  else if d.waiter = some p then t
  else
    let u := t.setDecided i (applyClaim d p (t.claimDecision i l d))
    match (t.claimDecision i l d).answer with
    | none => u
    | some m => u.sendBorder n i m

/-- CLAIM (R68). -/
def execClaim (h : PeerHeader) (lens : LensName) (s : State) : Host.Outcome State Fault Refusal :=
  .next (s.arbiterMessage h lens claimMessage)

/-- A WITHDRAW from the remote side (R68). -/
def withdrawMessage (t : State) (i : Nat) (l : Lens) (d : Decided) (p : Party) : State :=
  if d.waiter = some p then t.setDecided i d.dropWaiter
  else if d.heldBy p then t.releaseDecided i l d
  else t

/-- WITHDRAW (R68). -/
def execWithdraw (h : PeerHeader) (lens : LensName) (s : State) : Host.Outcome State Fault Refusal :=
  .next (s.arbiterMessage h lens withdrawMessage)

/-- A RELEASE from the remote side (R68). -/
def releaseMessage (t : State) (i : Nat) (l : Lens) (d : Decided) (p : Party) : State :=
  if d.heldBy p then t.releaseDecided i l d
  else if d.pinned p then t.setDecided i (d.removePin p)
  else t

/-- RELEASE (R68). -/
def execRelease (h : PeerHeader) (lens : LensName) (s : State) : Host.Outcome State Fault Refusal :=
  .next (s.arbiterMessage h lens releaseMessage)

/-- A PIN from the remote side (R68). -/
def pinMessage (t : State) (i : Nat) (l : Lens) (d : Decided) (p : Party) : State :=
  if d.heldBy p then t.holdingToPin i l d p else t.setDecided i (d.addPin p)

/-- PIN (R68). -/
def execPin (h : PeerHeader) (lens : LensName) (s : State) : Host.Outcome State Fault Refusal :=
  .next (s.arbiterMessage h lens pinMessage)

/-- A HOLD from the remote side (R68). -/
def holdMessage (t : State) (i : Nat) (l : Lens) (d : Decided) (p : Party) : State :=
  if d.heldBy p then t.setDecided i (d.setKind p .occupied)
  else if d.heldBy p.other then t.takeDown (l.link.getD 0)
  else if d.pinned p && !d.pinned p.other then t.setDecided i (d.occupyBy p)
  else t

/-- HOLD (R68). -/
def execHold (h : PeerHeader) (lens : LensName) (s : State) : Host.Outcome State Fault Refusal :=
  .next (s.arbiterMessage h lens holdMessage)

/-- A message for the client side acts on the CLIENT record it names (R69, R136, R144). -/
def State.clientMessage (s : State) (h : PeerHeader) (n : LensName)
    (act : State → Nat → Lens → Client → State) : State :=
  s.takeNumbered h (s.isClient h.link && (s.lensNamed h.link n).isSome) fun t =>
    match s.lensNamed h.link n with
    | none => t
    | some i =>
      match t.lenses[i]? with
      | none => t
      | some l =>
        match l.body with
        | .client c => act t i l c
        | .decided _ => t

/-- A GRANT (R69): the claim becomes a holding and its robot is told, or a late grant is returned. -/
def grantMessage (t : State) (i : Nat) (l : Lens) (c : Client) : State :=
  match c.claim with
  | .claiming =>
    (t.setClient i { c with claim := .heldReserved, deadline := none }).tellGrant i l.b
  | .none => t.sendBorder (l.link.getD 0) i .release
  | .heldReserved => t
  | .heldOccupied => t
  | .pinned => t

/-- GRANT (R69). -/
def execGrant (h : PeerHeader) (lens : LensName) (s : State) : Host.Outcome State Fault Refusal :=
  .next (s.clientMessage h lens grantMessage)

/-- A REFUSE (R69, R144): the claim ends and its robot is denied REFUSED. -/
def refuseMessage (reason : RefuseReason) (t : State) (i : Nat) (l : Lens) (c : Client) : State :=
  if c.claim = .claiming then
    (t.setClient i { claim := .none, deadline := none, lastRefusal := some reason }).denyRobot
      l.b.index .refused
  else t

/-- REFUSE (R69). -/
def execRefuse (h : PeerHeader) (lens : LensName) (reason : RefuseReason) (s : State) :
    Host.Outcome State Fault Refusal :=
  .next (s.clientMessage h lens (refuseMessage reason))

/-- PEER_FRAME_ERROR (R136). -/
def execPeerFrameError (link : Nat) (s : State) : Host.Outcome State Fault Refusal :=
  .next (s.close (s.frameError link))

/-! ### What a link unit does in time -/

/-- IDENT_SEND (R137): the ack flag is set in MATCHED and clear in PROBING. -/
def execIdentSend (link : Nat) (s : State) : Host.Outcome State Fault Refusal :=
  if s.linkIs link .probing then .next (s.sendIdent link false)
  else if s.linkIs link .matched then .next (s.sendIdent link true)
  else .next s

/-- KEEPALIVE_SEND (R143). -/
def execKeepaliveSend (link : Nat) (s : State) : Host.Outcome State Fault Refusal :=
  if s.linkIs link .up then
    .next (s.close (s.sendNumbered link .keepalive))
  else .next s

/-- SILENCE_LIMIT (R143). -/
def execSilenceLimit (link : Nat) (s : State) : Host.Outcome State Fault Refusal :=
  if s.linkIs link .up then .next (s.close (s.takeDown link)) else .next s

/-- MATCHED_TIMEOUT (R139). -/
def execMatchedTimeout (link : Nat) (s : State) : Host.Outcome State Fault Refusal :=
  if s.linkIs link .matched then .next (s.enterProbing link) else .next s

/-- SYNCING_TIMEOUT (R140). -/
def execSyncingTimeout (link : Nat) (s : State) : Host.Outcome State Fault Refusal :=
  if s.linkIs link .syncing then .next (s.enterProbing link) else .next s

/-- PEER_FRAME_SENT (R135, R143): the head of the queue has been sent, and the time of sending starts. -/
def execPeerFrameSent (link : Nat) (s : State) : Host.Outcome State Fault Refusal :=
  .next (s.modLink link fun l =>
    if l.transmit.isEmpty then l else { l with transmit := l.transmit.tail, sentAt := s.now })

end Sys2Proof.Machine
end

