-- ==== Sys2Proof/Machine/PeerRequests.lean ====
section
/-! DEFINITION. PEER_CONTROL and READ_PEER (R134, R149). -/

namespace Sys2Proof.Machine

/-! ### PEER_CONTROL (R134) -/

/-- The checks of a PEER_CONTROL: link number, then map (R134). -/
def linkCheck (s : State) (link : Nat) : Option Status :=
  if 5 < link then some .badArg else if s.map.isNone then some .noMap else none

/-- The state of a link. -/
def State.linkState (s : State) (link : Nat) : LinkState := ((s.links[link]?).map (·.state)).getD .disabled

/-- A PEER_CONTROL's answer carries the link state after the request (R134). -/
def linkAnswer (s : State) (link : Nat) : Answer := okWith s (.linkState (s.linkState link))

/-- Departure where the link is UP (R145). -/
def State.departIfUp (s : State) (link : Nat) : State :=
  if s.linkState link = .up then s.depart link else s

/-- ENABLE's answer (R134). -/
def enableAnswer (link : Nat) (t : State) : Answer :=
  match linkCheck t link with
  | some st => refuseWith t st
  | none =>
    if t.linkState link = .disabled then linkAnswer (t.enterProbing link) link else linkAnswer t link

/-- PEER_CONTROL ENABLE (R134). -/
def execPeerControlEnable (r : Req) (link : Nat) (s : State) : Host.Outcome State Fault Refusal :=
  .next (s.serve r 28 .sequencerOnly (enableAnswer link))

/-- DISABLE's answer (R134). -/
def disableAnswer (link : Nat) (t : State) : Answer :=
  match linkCheck t link with
  | some st => refuseWith t st
  | none =>
    if t.linkState link = .disabled then linkAnswer t link
    else linkAnswer (t.close ((t.departIfUp link).enterDisabled link)) link

/-- PEER_CONTROL DISABLE (R134). -/
def execPeerControlDisable (r : Req) (link : Nat) (s : State) : Host.Outcome State Fault Refusal :=
  .next (s.serve r 28 .sequencerOnly (disableAnswer link))

/-- RESET's answer (R134). -/
def resetAnswer (link : Nat) (t : State) : Answer :=
  match linkCheck t link with
  | some st => refuseWith t st
  | none =>
    if t.linkState link = .disabled then refuseWith t .notReady
    else linkAnswer (t.close ((t.departIfUp link).enterProbing link)) link

/-- PEER_CONTROL RESET (R134). -/
def execPeerControlReset (r : Req) (link : Nat) (s : State) : Host.Outcome State Fault Refusal :=
  .next (s.serve r 28 .sequencerOnly (resetAnswer link))

/-! ### READ_PEER (R149) -/

/-- The lenses of a link. -/
def State.linkLenses (s : State) (link : Nat) : List Lens :=
  s.lenses.filter fun l => l.link == some link

/-- The decided records of a link's lenses, each with its remote party. -/
def State.linkDecided (s : State) (link : Nat) : List (Party × Decided) :=
  (s.linkLenses link).filterMap fun l =>
    match l.remoteParty, l.body with
    | some p, .decided d => some (p, d)
    | _, _ => none

/-- The claim states of a link's client records. -/
def State.linkClaims (s : State) (link : Nat) : List ClaimState :=
  (s.linkLenses link).filterMap fun l =>
    match l.body with
    | .client c => some c.claim
    | .decided _ => none

/-- The lens counts of READ_PEER (R149). -/
def State.peerLensCounts (s : State) (link : Nat) : PeerLensCounts :=
  if s.isArbiter link then
    let l := s.linkDecided link
    .arbiter (l.countP fun x => x.2.holder == some (x.1, .reserved))
      (l.countP fun x => x.2.holder == some (x.1, .occupied)) (l.countP fun x => x.2.pinned x.1)
      (l.countP fun x => x.2.waiter == some x.1)
  else if s.isClient link then
    let l := s.linkClaims link
    .client (l.countP (· == .none)) (l.countP (· == .claiming)) (l.countP (· == .heldReserved))
      (l.countP (· == .heldOccupied)) (l.countP (· == .pinned))
  else .absent

/-- The role of a link (R133). -/
def State.linkRole (s : State) (link : Nat) : Option LensRole :=
  if s.isArbiter link then some .arbiter else if s.isClient link then some .client else none

/-- READ_PEER clears the counters and latches it reports (R149). -/
def Link.clearCounters (l : Link) : Link :=
  { l with errors := 0, drops := 0, wasDown := false, dispute := false, mismatch := .none }

/-- A READ_PEER's answer (R149). -/
def readPeerAnswer (link : Nat) (t : State) : Answer :=
  match t.links[link]? with
  | none => refuseWith t .badArg
  | some l =>
    okWith (t.modLink link Link.clearCounters)
      (.peer l.state (t.linkRole link) (t.neighbourNumber link) (t.borderList link).length
        (t.digest link) l.matchCount l.partnerAck l.lastIdent l.errors l.drops l.wasDown l.mismatch
        l.dispute l.lastDisputeCount l.lastDisputeLens (t.peerLensCounts link) l.transmit.length)

/-- READ_PEER (R149). -/
def execReadPeer (r : Req) (link : Nat) (s : State) : Host.Outcome State Fault Refusal :=
  .next (s.serve r 29 .sequencerOnly fun t =>
    if 5 < link then refuseWith t .badArg else readPeerAnswer link t)

end Sys2Proof.Machine
end

