-- ==== Sys2Proof/Machine/PlateMap.lean ====
section
/-! DEFINITION. The plate map: what is derived from it (R4 to R7), and the requests that load it and
read it back (R8 to R15). -/

namespace Sys2Proof.Machine

/-! ### Lenses derived from a map (R4, R5) -/

/-- A derived lens and the site directions it lies in (R4, R6). -/
structure DerivedLens where
  lens : Lens
  owners : List (Nat × Nat)
deriving DecidableEq, Repr

/-- This sector is the arbiter side on a link of the map (R3). -/
def PlateMap.arbitrates (m : PlateMap) (link : Nat) : Bool :=
  decide (m.sector < m.neighbours.getD link 0)

/-- The LOCAL lens in direction `d` of a base site, where there is one (R4). -/
def baseLens (i : Nat) (x : Site) (d : Nat) : Option DerivedLens :=
  match x.neighbours.getD d .vacant with
  | .site j =>
    some ⟨⟨.site (min i j), .site (max i j), .decided .empty⟩, [(i, d), (j, (d + 3) % 6)]⟩
  | .vacant => none
  | .border _ _ => none

/-- The LOCAL lenses, by base site and then direction 0 to 2 (R5). -/
def PlateMap.localLenses (m : PlateMap) : List DerivedLens :=
  m.sites.zipIdx.flatMap fun x => [0, 1, 2].filterMap fun d => baseLens x.2 x.1 d

/-- The lens of a BORDER entry: an empty decided record on an ARBITER link, an empty client record on
a CLIENT link (R4). -/
def borderLens (arbiter : Bool) (link i d remote : Nat) : DerivedLens :=
  if arbiter then ⟨⟨.site i, .remote link remote, .decided .empty⟩, [(i, d)]⟩
  else ⟨⟨.remote link remote, .site i, .client .empty⟩, [(i, d)]⟩

/-- The lens in direction `d` of a site on a link, where the entry there is a BORDER on it. -/
def entryLens (m : PlateMap) (link i : Nat) (x : Site) (d : Nat) : Option DerivedLens :=
  match x.neighbours.getD d .vacant with
  | .border n remote =>
    if n = link then some (borderLens (m.arbitrates link) link i d remote) else none
  | .vacant => none
  | .site _ => none

/-- Order of two lenses of one link: arbiter-side site, then client-side site (R5). -/
def DerivedLens.before (x y : DerivedLens) : Bool :=
  decide (x.lens.a.index < y.lens.a.index) ||
    (x.lens.a.index == y.lens.a.index && decide (x.lens.b.index < y.lens.b.index))

/-- A lens takes its place in an ordered list. -/
def insertLens (x : DerivedLens) : List DerivedLens → List DerivedLens
  | [] => [x]
  | y :: rest => if x.before y then x :: y :: rest else y :: insertLens x rest

/-- The border lenses of a link in canonical order (R5). -/
def PlateMap.borderLenses (m : PlateMap) (link : Nat) : List DerivedLens :=
  (m.sites.zipIdx.flatMap fun x =>
    (List.range 6).filterMap fun d => entryLens m link x.2 x.1 d).foldr insertLens []

/-- The lens list in canonical order (R5). -/
def PlateMap.derive (m : PlateMap) : List DerivedLens :=
  m.localLenses ++ (List.range 6).flatMap fun link => m.borderLenses link

/-- The site lens map (R6). -/
def PlateMap.siteLensMap (m : PlateMap) : List (List (Option Nat)) :=
  (List.range m.sites.length).map fun i =>
    (List.range 6).map fun d => m.derive.findIdx? fun x => x.owners.contains (i, d)

/-- The bytes a lens gives to its link's digest (R7). -/
def Lens.digestBytes (l : Lens) : List Byte :=
  [BitVec.ofNat 8 l.a.index, BitVec.ofNat 8 l.b.index]

/-- The border digest of a link (R7). -/
def PlateMap.borderDigest (m : PlateMap) (link : Nat) : Word16 :=
  crc16 ((m.borderLenses link).flatMap fun x => x.lens.digestBytes)

/-! ### Conditions of the map requests (R8) -/

/-- The two conditions every map request meets first (R8). -/
def State.mapBarred (s : State) : Option Status :=
  if s.mode ≠ .init then some .wrongMode
  else if s.buses.any fun b => b.switch != .off then some .busy
  else none

/-! ### MAP_BEGIN (R9) -/

/-- A MAP_BEGIN's arguments are good (R9). -/
def headerGood (sector siteCount : Nat) (neighbours : List Nat) : Bool :=
  decide (1 ≤ sector) && decide (sector ≤ 255) && decide (1 ≤ siteCount) &&
    decide (siteCount ≤ Config.maxSites) && neighbours.length == 6 &&
    neighbours.all fun n => decide (n ≤ 255) && n != sector

/-- A MAP_BEGIN's answer (R8, R9). -/
def beginLoad (sector siteCount : Nat) (neighbours : List Nat) (t : State) : Answer :=
  match t.mapBarred with
  | some st => refuseWith t st
  | none =>
    if headerGood sector siteCount neighbours then
      okWith { t with loader := some ⟨sector, neighbours, List.replicate siteCount none⟩ } .none
    else refuseWith t .badArg

/-- MAP_BEGIN (R9). -/
def execMapBegin (r : Req) (sector siteCount : Nat) (neighbours : List Nat) (s : State) :
    Host.Outcome State Fault Refusal :=
  .next (s.serve r 1 .sequencerOnly (beginLoad sector siteCount neighbours))

/-! ### MAP_SITES (R10) -/

/-- A neighbour entry is of one of the three kinds (R10). -/
def NeighbourArg.kindGood : NeighbourArg → Bool
  | .vacant => true
  | .site _ => true
  | .border _ _ => true
  | .other => false

/-- A LOCAL entry's site index is in range (R10). -/
def NeighbourArg.siteGood : NeighbourArg → Bool
  | .site i => decide (i ≤ 95)
  | .vacant => true
  | .border _ _ => true
  | .other => true

/-- A BORDER entry's numbers are in range (R10). -/
def NeighbourArg.borderGood : NeighbourArg → Bool
  | .border n i => decide (n ≤ 5) && decide (i ≤ 95)
  | .vacant => true
  | .site _ => true
  | .other => true

/-- The first field of a site entry that fails its check, in the order of the table (R10). -/
def siteFieldBad (siteCount : Nat) (e : SiteArg) : Option SiteField :=
  if siteCount ≤ e.index then some .siteIndex
  else if 7 < e.bus then some .bus
  else if Config.alphaTop < e.mount then some .mount
  else if Config.alphaTop < e.alphaMin then some .alphaMin
  else if Config.alphaTop < e.alphaMax then some .alphaMax
  else if 255 < e.backlashAlpha then some .backlashAlpha
  else if 255 < e.backlashBeta then some .backlashBeta
  else if e.neighbours.length ≠ 6 ∨ e.neighbours.all NeighbourArg.kindGood = false then some .entryKind
  else if e.neighbours.all NeighbourArg.siteGood = false then some .siteEntry
  else if e.neighbours.all NeighbourArg.borderGood = false then some .borderEntry
  else none

/-- The first failing entry of a MAP_SITES, and its field (R10). -/
def entriesBad (siteCount : Nat) (entries : List SiteArg) : Option (Nat × SiteField) :=
  if entries.isEmpty ∨ 8 < entries.length then some (0, .entryCount)
  else entries.zipIdx.findSome? fun x => (siteFieldBad siteCount x.1).map fun f => (x.2, f)

/-- The entry that is staged for a neighbour entry. -/
def NeighbourArg.entry : NeighbourArg → Neighbour
  | .vacant => .vacant
  | .site i => .site i
  | .border n i => .border n i
  | .other => .vacant

/-- The site record an entry gives (R1, R10). -/
def SiteArg.record (e : SiteArg) : Site :=
  { serial := e.serial, bus := e.bus, mount := e.mount, alphaMin := e.alphaMin,
    alphaMax := e.alphaMax, betaMax := e.betaMax, backlashAlpha := e.backlashAlpha,
    backlashBeta := e.backlashBeta, neighbours := e.neighbours.map NeighbourArg.entry }

/-- The staging with the entries written, the later of two standing (R10). -/
def Staging.write (st : Staging) (entries : List SiteArg) : Staging :=
  { st with sites := entries.foldl (fun l e => l.set e.index (some (SiteArg.record e))) st.sites }

/-- The number of written site indices (R8). -/
def Staging.written (st : Staging) : Nat := st.sites.countP Option.isSome

/-- A MAP_SITES's answer (R8, R10). -/
def stageSites (entries : List SiteArg) (t : State) : Answer :=
  match t.mapBarred with
  | some st => refuseWith t st
  | none =>
    match t.loader with
    | none => refuseWith t .notReady
    | some st =>
      match entriesBad st.sites.length entries with
      | some bad => ⟨t, .badArg, .siteRefused bad.1 bad.2⟩
      | none =>
        okWith { t with loader := some (st.write entries) } (.count (st.write entries).written)

/-- MAP_SITES (R10). -/
def execMapSites (r : Req) (entries : List SiteArg) (s : State) : Host.Outcome State Fault Refusal :=
  .next (s.serve r 2 .sequencerOnly (stageSites entries))

/-! ### Validation (R11) -/

/-- The lowest site that fails. -/
def firstSite (sites : List Site) (bad : Nat → Site → Bool) : Option (Nat × Option Nat) :=
  sites.zipIdx.findSome? fun x => if bad x.2 x.1 then some (x.2, none) else none

/-- The lowest site, and within it the lowest direction, that fails. -/
def firstDirection (sites : List Site) (bad : Nat → Site → Nat → Bool) : Option (Nat × Option Nat) :=
  sites.zipIdx.findSome? fun x =>
    ((List.range 6).find? fun d => bad x.2 x.1 d).map fun d => (x.2, some d)

/-- The entry of a direction. -/
def Site.toward (x : Site) (d : Nat) : Neighbour := x.neighbours.getD d .vacant

/-- Checks 2 to 9 of MAP_END for a staged map whose sites are all written (R11). Of two interleaved
repeated pairs of one site, REPEATED reports the one whose higher direction is the lower. DESIGN CHOICE,
unsafe (log entry 37). -/
def siteChecks (neighbours : List Nat) (sites : List Site) : List (MapCheck × Option (Nat × Option Nat)) :=
  [ (.axisLimits, firstSite sites fun _ x => decide (x.alphaMax < x.alphaMin)),
    (.betaRange, firstSite sites fun _ x => decide (Config.betaTop < x.betaMax)),
    (.localTarget, firstDirection sites fun i x d =>
      match x.toward d with
      | .site j => decide (sites.length ≤ j) || j == i
      | .vacant => false
      | .border _ _ => false),
    (.repeated, firstDirection sites fun _ x d =>
      x.toward d != .vacant && (x.neighbours.take d).contains (x.toward d)),
    (.symmetry, firstDirection sites fun i x d =>
      match x.toward d with
      | .site j => (sites[j]?).all fun y => y.toward ((d + 3) % 6) != .site i
      | .vacant => false
      | .border _ _ => false),
    (.linkCheck, firstDirection sites fun _ x d =>
      match x.toward d with
      | .border n _ => neighbours.getD n 0 == 0
      | .vacant => false
      | .site _ => false),
    (.busLoad, firstSite sites fun i x =>
      decide (Config.robotsPerBus ≤ (sites.take i).countP fun y => y.bus == x.bus)),
    (.serial, firstSite sites fun i x => (sites.take i).any fun y => y.serial == x.serial) ]

/-- The first of checks 1 to 9 that fails (R11). -/
def Staging.fault (st : Staging) : Option (MapCheck × Nat × Option Nat) :=
  match st.sites.findIdx? Option.isNone with
  | some i => some (.missing, i, none)
  | none =>
    (siteChecks st.neighbours (st.sites.filterMap id)).findSome? fun c =>
      c.2.map fun x => (c.1, x.1, x.2)

/-- The lens count of a map: LOCAL entries divided by two, plus BORDER entries (R4). -/
def lensCountOf (sites : List Site) : Nat :=
  let entries := sites.flatMap (·.neighbours)
  let within := entries.countP fun e =>
    match e with
    | .site _ => true
    | .vacant => false
    | .border _ _ => false
  let border := entries.countP fun e =>
    match e with
    | .border _ _ => true
    | .vacant => false
    | .site _ => false
  within / 2 + border

/-! ### Installation (R13) -/

/-- A robot record at map installation (R17). -/
def Robot.install (x : Site) : Robot :=
  { serial := x.serial, bus := x.bus, state := .offline, history := .none, alpha := none,
    beta := none, last := none, epoch := 0, enabled := true, fault := none, lastOutcome := none,
    dirAlpha := none, dirBeta := none, iterations := 0, converged := false, notConverged := false,
    failures := 0, move := none, tagMemory := 0, pollTime := none, anchor := none }

/-- The map that a staging without an unwritten site gives. -/
def Staging.map (st : Staging) : PlateMap := ⟨st.sector, st.neighbours, st.sites.filterMap id⟩

/-- The links that are UP. -/
def State.upLinks (s : State) : List Nat :=
  (List.range s.links.length).filter fun n => s.links[n]?.any fun l => l.state == .up

/-- The links that are not DISABLED. -/
def State.enabledLinks (s : State) : List Nat :=
  (List.range s.links.length).filter fun n => s.links[n]?.any fun l => l.state != .disabled

/-- The tables that take the staged map's values (R13 steps 1 to 4, 6 and 7; R27, R133). -/
def State.replaceMap (s : State) (m : PlateMap) : State :=
  { s with
    map := some m, lenses := m.derive.map (·.lens), siteLens := m.siteLensMap
    digests := (List.range 6).map m.borderDigest
    robots := m.sites.map Robot.install
    targets := List.replicate m.sites.length none
    inquiry := .empty, posChanged := false, loader := none
    links := s.links.map fun l => { l with lastDisputeCount := 0, lastDisputeLens := none }
    buses := s.buses.map fun b => { b with census := .reset } }

/-- The staged map is installed: departures on the old lens table, then the new tables, then each
enabled link to PROBING (R13, R133). -/
def State.install (s : State) (m : PlateMap) : State :=
  let t := (s.upLinks.foldl State.depart s).replaceMap m
  s.enabledLinks.foldl State.enterProbing t

/-- The map part of a MAP_END or READ_MAP response (R13, R15). -/
def State.mapSummary (s : State) : MapSummary :=
  { lensCount := s.lenses.length
    withinCount := s.lenses.countP fun l => l.role == .within
    links := (List.range 6).map fun n =>
      ((s.borderList n).length,
        if (s.borderList n).isEmpty then none
        else some (if s.isArbiter n then .arbiter else .client),
        s.digest n) }

/-- A MAP_END's answer (R8, R11 to R13). -/
def endLoad (t : State) : Answer :=
  match t.mapBarred with
  | some st => refuseWith t st
  | none =>
    match t.loader with
    | none => refuseWith t .notReady
    | some st =>
      match st.fault with
      | some (check, site, dir) => ⟨t, .mapInvalid, .mapRefused check site dir⟩
      | none =>
        if Config.maxLenses < lensCountOf (st.sites.filterMap id) then
          ⟨t, .lensCapacity, .count (lensCountOf (st.sites.filterMap id))⟩
        else
          let u := t.install st.map
          okWith u (.installed u.mapSummary)

/-- MAP_END (R11 to R13). -/
def execMapEnd (r : Req) (s : State) : Host.Outcome State Fault Refusal :=
  .next (s.serve r 3 .sequencerOnly endLoad)

/-! ### READ_MAP (R15) -/

/-- The loader part of a READ_MAP response. -/
def State.loaderView (s : State) : Option (Nat × Nat) :=
  s.loader.map fun st => (st.sites.length, st.written)

/-- The site part of a READ_MAP response. -/
def State.siteViews (s : State) (first count : Nat) : List (Site × List (Option Nat)) :=
  (List.range' first count).filterMap fun i => (s.site? i).map fun x => (x, s.siteLens.getD i [])

/-- A READ_MAP's answer (R15). -/
def readMap (first count : Nat) (t : State) : Answer :=
  if 8 < count then refuseWith t .badArg
  else if count ≠ 0 ∧ t.map.isNone then refuseWith t .noMap
  else if count ≠ 0 ∧ t.siteCount < first + count then refuseWith t .badArg
  else
    okWith t (.map t.map.isSome t.sectorNumber t.siteCount ((List.range 6).map t.neighbourNumber)
      t.mapSummary t.loaderView (t.siteViews first count))

/-- READ_MAP (R15). -/
def execReadMap (r : Req) (first count : Nat) (s : State) : Host.Outcome State Fault Refusal :=
  .next (s.serve r 4 .sequencerOnly (readMap first count))

end Sys2Proof.Machine
end

