-- ==== Sys2Proof/Machine/Resets.lean ====
section
/-! DEFINITION. The two full resets (R180) and the four changes of the discrete inputs (R106 to R108). -/

namespace Sys2Proof.Machine

/-! ### Full reset -/

/-- The inputs as sampled when the part leaves reset (R106): a level found OPEN or ASSERTED is a
change in that direction. -/
def Inputs.sampled (shutterOpen stopAsserted : Bool) : Inputs :=
  { shutterOpen := shutterOpen, stopAsserted := stopAsserted, shutterOpenedLatch := shutterOpen,
    shutterClosedLatch := false, stopAssertedLatch := stopAsserted, stopReleasedLatch := false }

/-- The block after a full reset with this cause and these levels at the inputs. An ASSERTED stop
makes the mode HALTED, with every switch already OFF (R106, R108). -/
def State.fullReset (s : State) (cause : ResetCause) (shutterOpen stopAsserted : Bool) : State :=
  let t := { State.reset with
    pending := s.pending, inputs := .sampled shutterOpen stopAsserted, resetCause := cause }
  if stopAsserted then t.enterMode .halted else t

/-- POWER_ON (R180, R106). -/
def execPowerOn (shutterOpen stopAsserted : Bool) (s : State) : Host.Outcome State Fault Refusal :=
  .next (s.fullReset .powerOn shutterOpen stopAsserted)

/-- RESET_LINE (R180, R106). -/
def execResetLine (shutterOpen stopAsserted : Bool) (s : State) : Host.Outcome State Fault Refusal :=
  .next (s.fullReset .resetLine shutterOpen stopAsserted)

/-! ### Ending or halting every move (R104, R107) -/

/-- The buses that have an IN_LEG robot among those `f` picks. -/
def State.legBuses (s : State) : List Nat :=
  (List.range s.buses.length).filter fun b => s.robots.any fun r => r.bus == b && r.state == .inLeg

/-- A broadcast HALT is queued on each bus with an IN_LEG robot (R89). -/
def State.broadcastHalts (s : State) : State := s.legBuses.foldl State.queueBroadcast s

/-- A move that is QUEUED or waiting ends with `out`, and an IN_LEG robot enters HALTING with a cause
(R104, R107); a HALTING robot's cause is changed by RESTART alone (R89). -/
def State.haltSite (cause : HaltCause) (out : Option (MoveOutcome × Option DenyReason)) (i : Nat)
    (s : State) : State :=
  match s.robots[i]? with
  | none => s
  | some r =>
    match r.state with
    | .queued => s.endAtRest i out
    | .waitLens => s.endAtRest i out
    | .inLeg => s.enterHalting i cause
    | .halting =>
      if cause = .restart then s.modMove i fun m => { m with haltCause := some .restart } else s
    | .offline => s
    | .lost _ => s
    | .idle => s
    | .faulted => s
    | .anchoring => s

/-- Every move ends or halts as one effect of an event, in ascending site order (R104, R107). -/
def State.haltMoves (s : State) (cause : HaltCause)
    (out : Option (MoveOutcome × Option DenyReason)) : State :=
  s.broadcastHalts.sweep (State.haltSite cause out)

/-! ### The shutter input -/

/-- The shutter level becomes OPEN and its latch is set (R106). -/
def Inputs.openShutter (x : Inputs) : Inputs :=
  { x with shutterOpen := true, shutterOpenedLatch := true }

/-- The shutter level becomes CLOSED and its latch is set (R106). -/
def Inputs.closeShutter (x : Inputs) : Inputs :=
  { x with shutterOpen := false, shutterClosedLatch := true }

/-- SHUTTER_OPENED (R106, R107). A level that is OPEN already is no change (log entry 10). -/
def execShutterOpened (s : State) : Host.Outcome State Fault Refusal :=
  if s.inputs.shutterOpen then .next s
  else
    let t := { s with inputs := s.inputs.openShutter }
    if t.mode = .opened then
      .next ((t.enterMode (.frozen .shutter)).haltMoves .shutter (some (.halted, none)))
    else .next t

/-- SHUTTER_CLOSED (R106): latched only. -/
def execShutterClosed (s : State) : Host.Outcome State Fault Refusal :=
  if s.inputs.shutterOpen then .next { s with inputs := s.inputs.closeShutter } else .next s

/-! ### The stop input -/

/-- The stop level becomes ASSERTED and its latch is set (R106). -/
def Inputs.assertStop (x : Inputs) : Inputs :=
  { x with stopAsserted := true, stopAssertedLatch := true }

/-- The stop level becomes RELEASED and its latch is set (R106). -/
def Inputs.releaseStop (x : Inputs) : Inputs :=
  { x with stopAsserted := false, stopReleasedLatch := true }

/-- A switch that is ON or TRIPPED goes OFF with cause STOP (R108, R166). -/
def Bus.stopOff (b : Bus) : Bus :=
  if b.switch = .off then b
  else { b with switch := .off, lastOff := .stop, blanking := false, overCount := 0 }

/-- The buses whose switch is ON. -/
def State.poweredBuses (s : State) : List Nat :=
  (List.range s.buses.length).filter fun b => s.buses[b]?.any fun x => x.switch == .on

/-- STOP_ASSERTED (R106, R108). A level that is ASSERTED already is no change (log entry 10). -/
def execStopAsserted (s : State) : Host.Outcome State Fault Refusal :=
  if s.inputs.stopAsserted then .next s
  else
    let t := { s with inputs := s.inputs.assertStop }.enterMode .halted
    .next ({ t with buses := t.buses.map Bus.stopOff }.powerLoss s.poweredBuses)

/-- STOP_RELEASED (R106): latched only. -/
def execStopReleased (s : State) : Host.Outcome State Fault Refusal :=
  if s.inputs.stopAsserted then .next { s with inputs := s.inputs.releaseStop } else .next s

end Sys2Proof.Machine
end

