-- ==== Sys2Proof/Machine/SectorControl.lean ====
section
/-! DEFINITION. Sector modes, RESTART, the target table and fields (chapter 6). -/

namespace Sys2Proof.Machine

/-! ### Mode requests (R100 to R103) -/

/-- An OPEN's answer (R100). -/
def openAnswer (t : State) : Answer :=
  match t.mode with
  | .opened => okWith t .none
  | .frozen _ => refuseWith t .wrongMode
  | .halted => refuseWith t .wrongMode
  | .init =>
    if t.map.isNone then refuseWith t .noMap
    else if t.inputs.shutterOpen then refuseWith t .shutter
    else okWith (t.enterMode .opened) .none

/-- OPEN (R100). -/
def execOpenSector (r : Req) (s : State) : Host.Outcome State Fault Refusal :=
  .next (s.serve r 16 .sequencerOnly openAnswer)

/-- A FREEZE's answer (R101). -/
def freezeAnswer (t : State) : Answer :=
  match t.mode with
  | .opened => if t.anyMove then refuseWith t .busy else okWith (t.enterMode (.frozen .freeze)) .none
  | .frozen _ => okWith t .none
  | .init => refuseWith t .wrongMode
  | .halted => refuseWith t .wrongMode

/-- FREEZE (R101). -/
def execFreeze (r : Req) (s : State) : Host.Outcome State Fault Refusal :=
  .next (s.serve r 17 .sequencerOnly freezeAnswer)

/-- A THAW's answer (R102). -/
def thawAnswer (t : State) : Answer :=
  match t.mode with
  | .frozen _ =>
    if t.inputs.shutterOpen then refuseWith t .shutter else okWith (t.enterMode .opened) .none
  | .opened => okWith t .none
  | .init => refuseWith t .wrongMode
  | .halted => refuseWith t .wrongMode

/-- THAW (R102). -/
def execThaw (r : Req) (s : State) : Host.Outcome State Fault Refusal :=
  .next (s.serve r 18 .sequencerOnly thawAnswer)

/-- A RESUME's answer (R103). -/
def resumeAnswer (t : State) : Answer :=
  if t.mode ≠ .halted then refuseWith t .wrongMode
  else if t.inputs.stopAsserted then refuseWith t .notReady
  else if t.map.isNone then refuseWith t .noMap
  else if t.inputs.shutterOpen then refuseWith t .shutter
  else okWith (t.enterMode .opened) .none

/-- RESUME (R103). -/
def execResume (r : Req) (s : State) : Host.Outcome State Fault Refusal :=
  .next (s.serve r 19 .sequencerOnly resumeAnswer)

/-! ### RESTART (R104, R105) -/

/-- A pending INQUIRE is withdrawn from place 4; one on the line is marked withdrawn (R165). -/
def Bus.withdrawInquiry (b : Bus) : Bus :=
  { b with
    pendingOps := b.pendingOps.filter fun o =>
      match o with
      | .inquire _ _ => false
      | .setCounts _ _ => true
    txn := b.txn.map fun t =>
      match t.kind with
      | .inquire item _ => { t with kind := .inquire item true }
      | .move _ _ => t
      | .poll => t
      | .halt => t
      | .setCounts _ => t }

/-- A bus's dispatch queues are emptied and its credit set (R105, R43). -/
def Bus.restart (b : Bus) (share : ShareRatio) : Bus :=
  { b.withdrawInquiry with queueA := [], queueB := [], credit := share.credit.getD b.credit }

/-- What RESTART clears or sets, but for the mode (R105). -/
def State.clearForRestart (s : State) : State :=
  { s with
    buses := s.buses.map fun b => b.restart s.params.share
    outcomes := [], overflow := false, field := .reset, timer := .reset, inquiry := .empty,
    loader := none, resetCause := .restart }

/-- The mode after RESTART (R105). -/
def State.restartMode (s : State) : Mode := if s.inputs.stopAsserted then .halted else .init

/-- RESTART's effect (R104, R105). The moves end without outcome records, so the field may be cleared
first. -/
def State.restarted (s : State) : State :=
  ({ s with field := .reset, timer := .reset }.haltMoves .restart none).clearForRestart.enterMode
    s.restartMode

/-- The robots in one of these states. -/
def State.countStates (s : State) (f : RobotState → Bool) : Nat := s.robots.countP fun r => f r.state

/-- A RESTART's answer (R104). -/
def restartAnswer (t : State) : Answer :=
  okWith t.restarted
    (.stopped (t.countStates fun st => st == .queued || st == .waitLens)
      (t.countStates fun st => st == .inLeg || st == .halting))

/-- RESTART (R104, R105). -/
def execRestart (r : Req) (s : State) : Host.Outcome State Fault Refusal :=
  .next (s.serve r 20 .sequencerOnly restartAnswer)

/-! ### Target table (R109 to R111) -/

/-- An entry of LOAD_TARGETS is good (R110). -/
def State.targetGood (s : State) (e : TargetArg) : Bool :=
  (s.site? e.site).any fun x => x.allows e.alpha e.beta

/-- A good entry is written, and its site's iteration count returns to 0 (R110, R125). -/
def State.writeTarget (s : State) (e : TargetArg) : State :=
  if s.targetGood e then
    { s.modRobot e.site Robot.resetIterations with
      targets := s.targets.set e.site (some ⟨e.alpha, e.beta⟩) }
  else s

/-- The status of an entry (R110). -/
def State.targetStatus (s : State) (e : TargetArg) : Status :=
  if s.targetGood e then .ok else .badArg

/-- A LOAD_TARGETS's answer (R110). -/
def loadTargetsAnswer (entries : List TargetArg) (t : State) : Answer :=
  if t.map.isNone then refuseWith t .noMap
  else if entries.isEmpty ∨ 64 < entries.length then refuseWith t .badArg
  else
    okWith (entries.foldl State.writeTarget t)
      (.targets (entries.map t.targetStatus) (entries.countP t.targetGood))

/-- LOAD_TARGETS (R110). -/
def execLoadTargets (r : Req) (entries : List TargetArg) (s : State) :
    Host.Outcome State Fault Refusal :=
  .next (s.serve r 21 .sequencerOnly (loadTargetsAnswer entries))

/-- The number of sites whose target is present (R111, R117). -/
def State.targetCount (s : State) : Nat := s.targets.countP Option.isSome

/-- CLEAR_TARGETS (R111). -/
def execClearTargets (r : Req) (s : State) : Host.Outcome State Fault Refusal :=
  .next (s.serve r 22 .sequencerOnly fun t =>
    if t.map.isNone then refuseWith t .noMap
    else okWith { t with targets := t.targets.map fun _ => none } (.count t.targetCount))

/-! ### CONFIGURE (R113) -/

/-- One more not-attempted site. -/
def State.countNotAttempted (s : State) : State :=
  { s with field := { s.field with notAttempted := s.field.notAttempted + 1 } }

/-- One more site already there. -/
def State.countAlready (s : State) : State :=
  { s with field := { s.field with already := s.field.already + 1 } }

/-- One more admitted site. -/
def State.countAdmitted (s : State) : State :=
  { s with field := { s.field with admitted := s.field.admitted + 1 } }

/-- A site of a CONFIGURE (R113), and whether its move was denied at admission. -/
def configureSite (i : Nat) (s : State) : State × Nat :=
  match s.site? i, s.robots[i]?, s.targets.getD i none with
  | some x, some rob, some q =>
    if rob.enabled = false then (s.countNotAttempted, 0)
    else
      match rob.believed with
      | none => (s.countNotAttempted, 0)
      | some p =>
        if q = p then (s.countAlready, 0)
        else if rob.state ≠ .idle then (s.countNotAttempted, 0)
        else
          let a := s.countAdmitted.admitMove i .field x p q false
          (a.1, match a.2 with
            | .denied _ => 1
            | .done => 0
            | .legs _ => 0)
  | _, _, _ => (s.countNotAttempted, 0)

/-- Every site of a CONFIGURE in ascending order (R113). -/
def configureSites (s : State) : State × Nat :=
  (List.range s.robots.length).foldl (fun a i =>
    let b := configureSite i a.1
    (b.1, a.2 + b.2)) (s, 0)

/-- The field runs, its timer started, and ends at once if no move is in progress (R113, R114). While
the sites are considered the new record is not yet RUNNING, so that no earlier end ends it. -/
def configureField (number : Nat) (s : State) : State × Nat :=
  let a := configureSites { s with field := { FieldRecord.reset with number := number } }
  ({ a.1 with
      field := { a.1.field with state := .running }
      timer := .start s.params.deadlinePreset }.endField, a.2)

/-- A CONFIGURE's answer (R113). A field number is two bytes, so only 0 is refused. DEDUCED, unsafe (log
entry 39). -/
def configureAnswer (number : Nat) (t : State) : Answer :=
  if number = 0 then refuseWith t .badArg
  else
    match t.mode.moveBar with
    | some st => refuseWith t st
    | none =>
      if t.anyMove then refuseWith t .busy
      else
        let a := configureField number t
        okWith a.1
          (.configured number a.1.field.admitted a.1.field.already a.1.field.notAttempted a.2
            a.1.field.state)

/-- CONFIGURE (R113). -/
def execConfigure (r : Req) (number : Nat) (s : State) : Host.Outcome State Fault Refusal :=
  .next (s.serve r 23 .sequencerOnly (configureAnswer number))

/-! ### READ_FIELD (R117) -/

/-- The four change latches are cleared (R117). -/
def Inputs.clearLatches (x : Inputs) : Inputs :=
  { x with shutterOpenedLatch := false, shutterClosedLatch := false, stopAssertedLatch := false,
           stopReleasedLatch := false }

/-- READ_FIELD (R117). -/
def execReadField (r : Req) (s : State) : Host.Outcome State Fault Refusal :=
  .next (s.serve r 24 .sequencerOnly fun t =>
    okWith { t with inputs := t.inputs.clearLatches }
      (.field t.mode t.inputs t.field t.field.inProgress t.timer t.timer.elapsed t.targetCount
        t.params.deadlinePreset t.params.deadlineAction))

end Sys2Proof.Machine
end

