-- ==== Sys2Proof/Machine/Flags.lean ====
section
/-! DEFINITION. The two notices that are levels, and the attention lines (R119, R176). -/

namespace Sys2Proof.Machine

/-- The robot is in one of the five states that hold SETTLED down (R119). -/
def Robot.unsettled (r : Robot) : Bool :=
  r.state == .queued || r.state == .inLeg || r.state == .waitLens || r.state == .halting ||
    r.state == .anchoring

/-- The level OUTCOME_PENDING (R97, R176). -/
def State.outcomePending (s : State) : Bool := !s.outcomes.isEmpty

/-- The level SETTLED (R119). -/
def State.settled (s : State) : Bool := s.posChanged && !s.robots.any Robot.unsettled

/-- The notices of a port as they stand, in the order R176 names them. -/
def State.standing (s : State) : PortId → List Bool
  | .sequencer =>
    [s.outcomePending, s.notices.fieldEnded, s.notices.deadline, s.notices.modeChange,
      s.notices.busTrip, s.notices.wiring, s.notices.peerChange, s.notices.inquiryDone,
      s.notices.outcomeOverflow]
  | .metrology => [s.settled]

/-- The attention line of a port (R176). -/
def State.attention (s : State) (p : PortId) : Bool :=
  ((s.standing p).zip (s.port p).mask).any fun x => x.1 && x.2

end Sys2Proof.Machine
end

