-- ==== Sys2Proof/Machine/Requests.lean ====
section
/-! DEFINITION. Which commands are requests of the catalogue (section 11.5), and the command a request in a
port's queue is taken as (R173 to R175). -/

namespace Sys2Proof.Machine

/-- The request a command is: what it carries, its code (its place in the catalogue of section 11.5) and
the ports it may come from (R175). None for a command that is no request of the catalogue. -/
def requestOf : Instr → Option (Req × Byte × Rights)
  | .powerOn _ _ => none
  | .resetLine _ _ => none
  | .shutterOpened => none
  | .shutterClosed => none
  | .stopAsserted => none
  | .stopReleased => none
  | .stationFrameReceived _ _ => none
  | .badFrame _ _ _ => none
  | .unknown _ _ _ => none
  | .mapBegin r _ _ _ => some (r, 1, .sequencerOnly)
  | .mapSites r _ => some (r, 2, .sequencerOnly)
  | .mapEnd r => some (r, 3, .sequencerOnly)
  | .readMap r _ _ => some (r, 4, .sequencerOnly)
  | .enableSet r _ => some (r, 5, .sequencerOnly)
  | .enableClear r _ => some (r, 6, .sequencerOnly)
  | .clearFault r _ => some (r, 7, .sequencerOnly)
  | .readRobot r _ _ => some (r, 8, .both)
  | .readLens r _ _ => some (r, 9, .both)
  | .moveTo r _ _ _ => some (r, 10, .sequencerOnly)
  | .park r _ => some (r, 11, .sequencerOnly)
  | .home r _ => some (r, 12, .sequencerOnly)
  | .abort r _ => some (r, 13, .sequencerOnly)
  | .abortField r => some (r, 14, .sequencerOnly)
  | .readOutcomes r _ => some (r, 15, .sequencerOnly)
  | .openSector r => some (r, 16, .sequencerOnly)
  | .freeze r => some (r, 17, .sequencerOnly)
  | .thaw r => some (r, 18, .sequencerOnly)
  | .resume r => some (r, 19, .sequencerOnly)
  | .restart r => some (r, 20, .sequencerOnly)
  | .loadTargets r _ => some (r, 21, .sequencerOnly)
  | .clearTargets r => some (r, 22, .sequencerOnly)
  | .configure r _ => some (r, 23, .sequencerOnly)
  | .readField r => some (r, 24, .sequencerOnly)
  | .snapshot r _ _ => some (r, 25, .both)
  | .correct r _ => some (r, 26, .metrologyOnly)
  | .reAnchor r _ _ _ => some (r, 27, .metrologyOnly)
  | .peerControlEnable r _ => some (r, 28, .sequencerOnly)
  | .peerControlDisable r _ => some (r, 28, .sequencerOnly)
  | .peerControlReset r _ => some (r, 28, .sequencerOnly)
  | .readPeer r _ => some (r, 29, .sequencerOnly)
  | .inquire r _ _ => some (r, 30, .sequencerOnly)
  | .readInquiry r => some (r, 31, .sequencerOnly)
  | .busPowerOn r _ => some (r, 32, .sequencerOnly)
  | .busPowerOff r _ => some (r, 32, .sequencerOnly)
  | .readBus r _ => some (r, 33, .sequencerOnly)
  | .portStatus r => some (r, 34, .both)
  | .setMask r _ => some (r, 35, .both)
  | .readCause r => some (r, 37, .both)
  | .setParamStowAngle r _ => some (r, 36, .sequencerOnly)
  | .setParamParkBeta r _ => some (r, 36, .sequencerOnly)
  | .setParamGain r _ => some (r, 36, .sequencerOnly)
  | .setParamMaximumCorrection r _ => some (r, 36, .sequencerOnly)
  | .setParamTolerance r _ => some (r, 36, .sequencerOnly)
  | .setParamIterationLimit r _ => some (r, 36, .sequencerOnly)
  | .setParamShareRatio r _ => some (r, 36, .sequencerOnly)
  | .setParamDeadlinePreset r _ => some (r, 36, .sequencerOnly)
  | .setParamDeadlineAction r _ => some (r, 36, .sequencerOnly)
  | .setParamLensWaitLimit r _ => some (r, 36, .sequencerOnly)
  | .setParamLegTimeLimit r _ => some (r, 36, .sequencerOnly)
  | .setParamAttemptLimit r _ => some (r, 36, .sequencerOnly)
  | .setParamFailureLimit r _ => some (r, 36, .sequencerOnly)
  | .setParamPollInterval r _ => some (r, 36, .sequencerOnly)
  | .setParamKeepaliveInterval r _ => some (r, 36, .sequencerOnly)
  | .setParamConcurrencyLimit r _ _ => some (r, 36, .sequencerOnly)
  | .setParamThreshold r _ _ => some (r, 36, .sequencerOnly)
  | .setParamTripCount r _ _ => some (r, 36, .sequencerOnly)
  | .setParamStatisticsSelection r _ _ _ => some (r, 36, .sequencerOnly)
  | .deadlineExpiry => none
  | .waitDeadlinePasses _ => none
  | .legTimeout _ => none
  | .haltTimeLimit _ => none
  | .legDispatch _ => none
  | .haltBroadcast _ => none
  | .haltAddressed _ => none
  | .poll _ => none
  | .setCounts _ => none
  | .inquireTransaction _ => none
  | .keepalivePoll _ => none
  | .robotReplyGood _ _ => none
  | .robotReplyMissing _ => none
  | .robotReplyCheckError _ => none
  | .currentSample _ _ => none
  | .jabber _ => none
  | .blankingEnd _ => none
  | .rollcall _ => none
  | .rollcallSlotEnd _ _ => none
  | .ident _ _ => none
  | .summary _ _ _ => none
  | .summaryClient _ _ _ => none
  | .keepalive _ => none
  | .claim _ _ => none
  | .withdraw _ _ => none
  | .release _ _ => none
  | .pin _ _ => none
  | .hold _ _ => none
  | .grant _ _ => none
  | .refuse _ _ _ => none
  | .peerFrameError _ => none
  | .identSend _ => none
  | .keepaliveSend _ => none
  | .silenceLimit _ => none
  | .matchedTimeout _ => none
  | .syncingTimeout _ => none
  | .peerFrameSent _ => none

/-- The code names a request of the catalogue (section 11.5). -/
def catalogued (code : Byte) : Bool := decide (1 ≤ code.toNat) && decide (code.toNat ≤ 37)

/-- A request of a code with its arguments left blank: the whole request where it has none, and a request
that is answered by the checks of R173 and R175 where its payload does not fit. -/
def blankRequest (r : Req) (code : Byte) : Option Instr :=
  match code.toNat with
  | 1 => some (.mapBegin r 0 0 [])
  | 2 => some (.mapSites r [])
  | 3 => some (.mapEnd r)
  | 4 => some (.readMap r 0 0)
  | 5 => some (.enableSet r [])
  | 6 => some (.enableClear r [])
  | 7 => some (.clearFault r 0)
  | 8 => some (.readRobot r 0 0)
  | 9 => some (.readLens r 0 0)
  | 10 => some (.moveTo r 0 0 0)
  | 11 => some (.park r 0)
  | 12 => some (.home r 0)
  | 13 => some (.abort r 0)
  | 14 => some (.abortField r)
  | 15 => some (.readOutcomes r 0)
  | 16 => some (.openSector r)
  | 17 => some (.freeze r)
  | 18 => some (.thaw r)
  | 19 => some (.resume r)
  | 20 => some (.restart r)
  | 21 => some (.loadTargets r [])
  | 22 => some (.clearTargets r)
  | 23 => some (.configure r 0)
  | 24 => some (.readField r)
  | 25 => some (.snapshot r 0 0)
  | 26 => some (.correct r [])
  | 27 => some (.reAnchor r 0 0 0)
  | 28 => some (.peerControlEnable r 0)
  | 29 => some (.readPeer r 0)
  | 30 => some (.inquire r 0 0)
  | 31 => some (.readInquiry r)
  | 32 => some (.busPowerOn r 0)
  | 33 => some (.readBus r 0)
  | 34 => some (.portStatus r)
  | 35 => some (.setMask r [])
  | 36 => some (.setParamStowAngle r 0)
  | 37 => some (.readCause r)
  | _ => none

/-- The request of a code carries no arguments. -/
def argumentless (code : Byte) : Bool :=
  [3, 14, 16, 17, 18, 19, 20, 22, 24, 31, 34, 37].contains code.toNat

/-- The request of a queue with arguments: what its payload's bytes stand for, which the manual leaves out
(log entry 33), or a request whose payload does not fit. -/
def QueuedRequest.parsed (p : PortId) (q : QueuedRequest) : Option Instr :=
  match Config.requestArguments p q.tag q.code q.payload with
  | none => blankRequest ⟨p, q.tag, false⟩ q.code
  | some c =>
    if ((requestOf c).any fun x => x.1 == ⟨p, q.tag, true⟩ && x.2.1 == q.code) = true then some c
    else blankRequest ⟨p, q.tag, false⟩ q.code

/-- The command by which a port takes the request at the head of its queue (R174): BAD_FRAME for a wrong
length, then UNKNOWN for a code out of the catalogue, then the request (R175). A payload of a request
without arguments fits where it is empty (log entry 27). -/
def QueuedRequest.command (p : PortId) (q : QueuedRequest) : Instr :=
  if q.badLength then .badFrame p q.tag q.code
  else
    (if argumentless q.code then blankRequest ⟨p, q.tag, q.payload.isEmpty⟩ q.code
      else if catalogued q.code then q.parsed p
      else none).getD (.unknown p q.tag q.code)

end Sys2Proof.Machine
end

