-- ==== Sys2Proof/Machine/StationPorts.lean ====
section
/-! DEFINITION. The station ports: a frame received (R173, R174), the refusals of R175, notices, mask
and reset cause (R176 to R178, R180). -/

namespace Sys2Proof.Machine

/-! ### Frames received (R173) -/

/-- A received frame, its lead byte and CRC good, and whether its length field was wrong. -/
structure StationFrame where
  tag : Byte
  code : Byte
  payload : List Byte
  badLength : Bool
deriving DecidableEq, Repr

/-- The CRC of a frame, taken over all but the lead byte and the last two bytes, is its last two
bytes (R173). -/
def crcGood (bytes : List Byte) : Bool :=
  let n := bytes.length
  crc16 ((bytes.take (n - 2)).drop 1) == word16 (bytes.getD (n - 2) 0) (bytes.getD (n - 1) 0)

/-- A received frame is judged (R173): none where it is discarded and counted as an error. -/
def judgeFrame (bytes : List Byte) : Option StationFrame :=
  let n := bytes.length
  if n < 7 ∨ bytes.getD 0 0 ≠ 0xC3#8 then none
  else if crcGood bytes = false then none
  else
    let len := (word16 (bytes.getD 1 0) (bytes.getD 2 0)).toNat
    some
      { tag := bytes.getD 3 0, code := bytes.getD 4 0, payload := (bytes.take (n - 2)).drop 5
        badLength := decide (len < 2) || decide (1026 < len) || len != n - 5 }

/-- A request joins the tail of the port's queue, or is discarded with the overrun latch set (R174). -/
def StationPort.enqueue (p : StationPort) (q : QueuedRequest) : StationPort :=
  if p.queue.length < Config.requestDepth then { p with queue := p.queue ++ [q] }
  else { p with overrun := true }

/-- STATION_FRAME_RECEIVED (R173, R174). -/
def execStationFrameReceived (port : PortId) (bytes : List Byte) (s : State) :
    Host.Outcome State Fault Refusal :=
  match judgeFrame bytes with
  | none => .next (s.modPort port fun p => { p with errors := satInc Config.top16 p.errors })
  | some f => .next (s.modPort port fun p => p.enqueue ⟨f.tag, f.code, f.badLength, f.payload⟩)

/-! ### Refusals of the port itself (R175) -/

/-- What BAD_FRAME does (R173, R175). A head of a right length is no such event (log entry 10). -/
def State.answerBadFrame (s : State) (port : PortId) (tag code : Byte) : State :=
  match s.turn port tag code with
  | .later => s
  | .wrongLength => s.answerOnly port tag code .badFrame
  | .next => if (s.port port).queue.isEmpty then s.answerOnly port tag code .badFrame else s

/-- BAD_FRAME (R173, R175). -/
def execBadFrame (port : PortId) (tag code : Byte) (s : State) : Host.Outcome State Fault Refusal :=
  .next (s.answerBadFrame port tag code)

/-- What UNKNOWN does: a wrong length is answered first (R175). A code of the catalogue is no such event
(log entry 10). -/
def State.answerUnknown (s : State) (port : PortId) (tag code : Byte) : State :=
  if catalogued code then s
  else
    match s.turn port tag code with
    | .later => s
    | .wrongLength => s.answerOnly port tag code .badFrame
    | .next => s.answerOnly port tag code .unknown

/-- UNKNOWN (R173, R175). -/
def execUnknown (port : PortId) (tag code : Byte) (s : State) : Host.Outcome State Fault Refusal :=
  .next (s.answerUnknown port tag code)

/-! ### Notices and mask -/

/-- The number of notices of a port (R176). -/
def noticeCount : PortId → Nat
  | .sequencer => 9
  | .metrology => 1

/-- The latched notices, overrun latch and error counter of a port are cleared (R177). -/
def State.clearPort (s : State) (port : PortId) : State :=
  let t := match port with
    | .sequencer => { s with notices := .reset }
    | .metrology => s
  t.modPort port fun p => { p with overrun := false, errors := 0 }

/-- PORT_STATUS (R177). -/
def execPortStatus (r : Req) (s : State) : Host.Outcome State Fault Refusal :=
  .next (s.serve r 34 .both fun t =>
    let p := t.port r.port
    okWith (t.clearPort r.port)
      (.port (t.standing r.port) p.mask p.overrun p.errors p.queue.length))

/-- SET_MASK (R178). -/
def execSetMask (r : Req) (enables : List Bool) (s : State) : Host.Outcome State Fault Refusal :=
  .next (s.serve r 35 .both fun t =>
    if enables.length ≠ noticeCount r.port then refuseWith t .badArg
    else okWith (t.modPort r.port fun p => { p with mask := enables }) (.mask enables))

/-! ### Reset cause -/

/-- READ_CAUSE (R180). -/
def execReadCause (r : Req) (s : State) : Host.Outcome State Fault Refusal :=
  .next (s.serve r 37 .both fun t =>
    match r.port with
    | .sequencer => okWith { t with resetCause := .none } (.cause t.resetCause)
    | .metrology => okWith t (.cause t.resetCause))

end Sys2Proof.Machine
end

