-- ==== Sys2Proof/Machine/Supply.lean ====
section
/-! DEFINITION. The supply monitor (R47, R167, R169 to R171) and the census's rounds (R159). -/

namespace Sys2Proof.Machine

/-! ### Samples (R47, R169) -/

/-- A sample is 0 to 4,095 mA; a current beyond the range is sampled as 4,095 (R47). -/
def sampled (milliamps : Nat) : Nat := min milliamps 4095

/-- The latest and peak samples after a sample (R169). -/
def Bus.takeSample (b : Bus) (v : Nat) : Bus := { b with latest := v, peak := max b.peak v }

/-- A sample is compared while the switch is ON and blanking is past (R47, R169). -/
def Bus.compares (b : Bus) : Bool := b.switch == .on && !b.blanking

/-- The over-threshold count after a compared sample (R47). -/
def Bus.countAfter (b : Bus) (v : Nat) : Nat := if b.threshold < v then satInc 15 b.overCount else 0

/-- The sample brings the count to K or above (R47). -/
def Bus.tripsAt (b : Bus) (v : Nat) : Bool :=
  decide (b.threshold < v) && decide (b.tripCount ≤ b.countAfter v)

/-- A sample of a bus is taken and, where it is compared, counted or a trip (R47, R169, R170). -/
def State.convert (s : State) (bus : Nat) (b : Bus) (v : Nat) : State :=
  let t := { s.modBus bus (fun x => x.takeSample v) with conversionDue := false }
  if b.compares = false then t
  else if b.tripsAt v then t.trip bus .current
  else t.modBus bus fun x => { x with overCount := b.countAfter v }

/-- CURRENT_SAMPLE (R47, R169, R170). The channels are converted in turn, one each millisecond: a sample
of another channel than the present one, or a second of one millisecond, is no event (log entry 8). -/
def execCurrentSample (bus milliamps : Nat) (s : State) : Host.Outcome State Fault Refusal :=
  if bus = s.converter ∧ s.conversionDue = true then
    match s.buses[bus]? with
    | none => .next s
    | some b => .next (s.convert bus b (sampled milliamps))
  else .next s

/-- The switch of a bus is ON. -/
def State.powered (s : State) (bus : Nat) : Bool := s.buses[bus]?.any fun b => b.switch == .on

/-- JABBER (R170, R171). -/
def execJabber (bus : Nat) (s : State) : Host.Outcome State Fault Refusal :=
  if s.powered bus then .next (s.trip bus .jabber) else .next s

/-- BLANKING_END (R167, R156, R159). -/
def execBlankingEnd (bus : Nat) (s : State) : Host.Outcome State Fault Refusal :=
  .next (s.modBus bus fun b =>
    if b.switch == .on && b.blanking then { b with blanking := false }.beginCensus else b)

/-! ### Rounds (R159) -/

/-- A ROLLCALL carrying the window is broadcast, and its slots open (R159, R161). -/
def Bus.beginRound (b : Bus) : Bus :=
  { b with
    census := { b.census with rounds := b.census.rounds + 1, window := b.nextWindow }
    round := some [] }.send ⟨none, .rollcall b.nextWindow⟩

/-- ROLLCALL (R159). -/
def execRollcall (bus : Nat) (s : State) : Host.Outcome State Fault Refusal :=
  .next (s.modBus bus fun b =>
    if b.protocol == .census && b.round.isNone then b.beginRound else b)

/-- A GARBLED slot is a roll-call collision (R159, R163). -/
def Bus.countSlot (b : Bus) (slot : SlotJudgement) : Bus :=
  if slot = .garbled then b.count .collisions else b

/-- ROLLCALL_SLOT_END (R159 to R161). -/
def execRollcallSlotEnd (bus : Nat) (slot : SlotJudgement) (s : State) :
    Host.Outcome State Fault Refusal :=
  match s.buses[bus]? with
  | none => .next s
  | some b =>
    match b.round with
    | none => .next s
    | some slots =>
      let t := s.modBus bus fun x => { x.countSlot slot with round := some (slots ++ [slot]) }
      if slots.length + 1 < b.census.window then .next t
      else .next (t.finishRound bus (slots ++ [slot]))

end Sys2Proof.Machine
end

