-- ==== Sys2Proof/Machine/TimeLimits.lean ====
section
/-! DEFINITION. The limits of time on fields and moves (R116, R58, R87, R90). A command of this file says
that its time has come; a robot or field the limit does not run for is left alone (log entry 10). -/

namespace Sys2Proof.Machine

/-- A FIELD move that is QUEUED or waiting ends CUT (R116, R93). -/
def State.cutSite (i : Nat) (s : State) : State :=
  if s.robots[i]?.any fun r => r.inField && (r.state == .queued || r.state == .waitLens) then
    s.endAtRest i (some (.cut, none))
  else s

/-- The expiry: OVER, DEADLINE latched and the record marked (R46, R116 steps 1 and 2). -/
def State.expireTimer (s : State) : State :=
  { s with timer := s.timer.expire, field := { s.field with deadlinePassed := true } }.latchDeadline

/-- The cut flag is set (R116 step 4). -/
def State.markCut (s : State) : State := { s with field := { s.field with cut := true } }

/-- DEADLINE_EXPIRY (R46, R116). -/
def execDeadlineExpiry (s : State) : Host.Outcome State Fault Refusal :=
  if s.timer.phase = .down ∧ s.field.state = .running then
    match s.params.deadlineAction with
    | .runOn => .next s.expireTimer
    | .cut => .next (s.expireTimer.markCut.sweep State.cutSite)
  else .next s

/-- The wait of a WAIT_LENS robot ends and its move ends TIMEOUT (R58). -/
def State.timeoutWait (s : State) (site : Nat) : State :=
  let t := match s.targetLensOf site with
    | some i => s.endWait site i
    | none => s
  t.endAtRest site (some (.timeout, none))

/-- The robot of a site is in this state and has a move. -/
def State.movingIn (s : State) (site : Nat) (st : RobotState) : Bool :=
  s.robots[site]?.any fun r => r.state == st && r.move.isSome

/-- WAIT_DEADLINE_PASSES (R58). -/
def execWaitDeadlinePasses (site : Nat) (s : State) : Host.Outcome State Fault Refusal :=
  if s.movingIn site .waitLens then .next (s.close (s.timeoutWait site)) else .next s

/-- The leg of an IN_LEG robot has been accepted, so that its time limit runs (R87). -/
def State.legRuns (s : State) (site : Nat) : Bool :=
  s.robots[site]?.any fun r => r.state == .inLeg && r.move.any fun m => m.dispatch.isSome

/-- LEG_TIMEOUT (R87, R89). -/
def execLegTimeout (site : Nat) (s : State) : Host.Outcome State Fault Refusal :=
  if s.legRuns site then .next ((s.queueHalt site).enterHalting site .stall) else .next s

/-- HALT_TIME_LIMIT (R90). -/
def execHaltTimeLimit (site : Nat) (s : State) : Host.Outcome State Fault Refusal :=
  if s.movingIn site .halting then .next (s.close ((s.lose site .uncertain).queueHalt site)) else .next s

end Sys2Proof.Machine
end

