-- ==== Sys2Proof/Machine/Dispatch.lean ====
section
/-! DEFINITION. The command that runs: one arm for each row of spec/opcode_table.json. -/

namespace Sys2Proof.Machine

/-- A command's effect on everything but the queue of waiting commands. -/
def exec (i : Instr) (s : State) : Host.Outcome State Fault Refusal :=
  match i with
  | .powerOn shutterOpen stopAsserted => Sys2Proof.Machine.execPowerOn shutterOpen stopAsserted s
  | .resetLine shutterOpen stopAsserted => Sys2Proof.Machine.execResetLine shutterOpen stopAsserted s
  | .shutterOpened => Sys2Proof.Machine.execShutterOpened s
  | .shutterClosed => Sys2Proof.Machine.execShutterClosed s
  | .stopAsserted => Sys2Proof.Machine.execStopAsserted s
  | .stopReleased => Sys2Proof.Machine.execStopReleased s
  | .stationFrameReceived port bytes => Sys2Proof.Machine.execStationFrameReceived port bytes s
  | .badFrame port tag code => Sys2Proof.Machine.execBadFrame port tag code s
  | .unknown port tag code => Sys2Proof.Machine.execUnknown port tag code s
  | .mapBegin r sector siteCount neighbours => Sys2Proof.Machine.execMapBegin r sector siteCount neighbours s
  | .mapSites r entries => Sys2Proof.Machine.execMapSites r entries s
  | .mapEnd r => Sys2Proof.Machine.execMapEnd r s
  | .readMap r first count => Sys2Proof.Machine.execReadMap r first count s
  | .enableSet r mask => Sys2Proof.Machine.execEnableSet r mask s
  | .enableClear r mask => Sys2Proof.Machine.execEnableClear r mask s
  | .clearFault r site => Sys2Proof.Machine.execClearFault r site s
  | .readRobot r first count => Sys2Proof.Machine.execReadRobot r first count s
  | .readLens r first count => Sys2Proof.Machine.execReadLens r first count s
  | .moveTo r site alpha beta => Sys2Proof.Machine.execMoveTo r site alpha beta s
  | .park r site => Sys2Proof.Machine.execPark r site s
  | .home r site => Sys2Proof.Machine.execHome r site s
  | .abort r site => Sys2Proof.Machine.execAbort r site s
  | .abortField r => Sys2Proof.Machine.execAbortField r s
  | .readOutcomes r count => Sys2Proof.Machine.execReadOutcomes r count s
  | .openSector r => Sys2Proof.Machine.execOpenSector r s
  | .freeze r => Sys2Proof.Machine.execFreeze r s
  | .thaw r => Sys2Proof.Machine.execThaw r s
  | .resume r => Sys2Proof.Machine.execResume r s
  | .restart r => Sys2Proof.Machine.execRestart r s
  | .loadTargets r entries => Sys2Proof.Machine.execLoadTargets r entries s
  | .clearTargets r => Sys2Proof.Machine.execClearTargets r s
  | .configure r number => Sys2Proof.Machine.execConfigure r number s
  | .readField r => Sys2Proof.Machine.execReadField r s
  | .snapshot r first count => Sys2Proof.Machine.execSnapshot r first count s
  | .correct r reports => Sys2Proof.Machine.execCorrect r reports s
  | .reAnchor r site alpha beta => Sys2Proof.Machine.execReAnchor r site alpha beta s
  | .peerControlEnable r link => Sys2Proof.Machine.execPeerControlEnable r link s
  | .peerControlDisable r link => Sys2Proof.Machine.execPeerControlDisable r link s
  | .peerControlReset r link => Sys2Proof.Machine.execPeerControlReset r link s
  | .readPeer r link => Sys2Proof.Machine.execReadPeer r link s
  | .inquire r site item => Sys2Proof.Machine.execInquire r site item s
  | .readInquiry r => Sys2Proof.Machine.execReadInquiry r s
  | .busPowerOn r bus => Sys2Proof.Machine.execBusPowerOn r bus s
  | .busPowerOff r bus => Sys2Proof.Machine.execBusPowerOff r bus s
  | .readBus r bus => Sys2Proof.Machine.execReadBus r bus s
  | .portStatus r => Sys2Proof.Machine.execPortStatus r s
  | .setMask r enables => Sys2Proof.Machine.execSetMask r enables s
  | .readCause r => Sys2Proof.Machine.execReadCause r s
  | .setParamStowAngle r value => Sys2Proof.Machine.execSetParamStowAngle r value s
  | .setParamParkBeta r value => Sys2Proof.Machine.execSetParamParkBeta r value s
  | .setParamGain r value => Sys2Proof.Machine.execSetParamGain r value s
  | .setParamMaximumCorrection r value => Sys2Proof.Machine.execSetParamMaximumCorrection r value s
  | .setParamTolerance r value => Sys2Proof.Machine.execSetParamTolerance r value s
  | .setParamIterationLimit r value => Sys2Proof.Machine.execSetParamIterationLimit r value s
  | .setParamShareRatio r value => Sys2Proof.Machine.execSetParamShareRatio r value s
  | .setParamDeadlinePreset r value => Sys2Proof.Machine.execSetParamDeadlinePreset r value s
  | .setParamDeadlineAction r value => Sys2Proof.Machine.execSetParamDeadlineAction r value s
  | .setParamLensWaitLimit r value => Sys2Proof.Machine.execSetParamLensWaitLimit r value s
  | .setParamLegTimeLimit r value => Sys2Proof.Machine.execSetParamLegTimeLimit r value s
  | .setParamAttemptLimit r value => Sys2Proof.Machine.execSetParamAttemptLimit r value s
  | .setParamFailureLimit r value => Sys2Proof.Machine.execSetParamFailureLimit r value s
  | .setParamPollInterval r value => Sys2Proof.Machine.execSetParamPollInterval r value s
  | .setParamKeepaliveInterval r value => Sys2Proof.Machine.execSetParamKeepaliveInterval r value s
  | .setParamConcurrencyLimit r bus value => Sys2Proof.Machine.execSetParamConcurrencyLimit r bus value s
  | .setParamThreshold r bus value => Sys2Proof.Machine.execSetParamThreshold r bus value s
  | .setParamTripCount r bus value => Sys2Proof.Machine.execSetParamTripCount r bus value s
  | .setParamStatisticsSelection r bus counter object => Sys2Proof.Machine.execSetParamStatisticsSelection r bus counter object s
  | .deadlineExpiry => Sys2Proof.Machine.execDeadlineExpiry s
  | .waitDeadlinePasses site => Sys2Proof.Machine.execWaitDeadlinePasses site s
  | .legTimeout site => Sys2Proof.Machine.execLegTimeout site s
  | .haltTimeLimit site => Sys2Proof.Machine.execHaltTimeLimit site s
  | .legDispatch bus => Sys2Proof.Machine.execLegDispatch bus s
  | .haltBroadcast bus => Sys2Proof.Machine.execHaltBroadcast bus s
  | .haltAddressed bus => Sys2Proof.Machine.execHaltAddressed bus s
  | .poll bus => Sys2Proof.Machine.execPoll bus s
  | .setCounts bus => Sys2Proof.Machine.execSetCounts bus s
  | .inquireTransaction bus => Sys2Proof.Machine.execInquireTransaction bus s
  | .keepalivePoll bus => Sys2Proof.Machine.execKeepalivePoll bus s
  | .robotReplyGood bus reply => Sys2Proof.Machine.execRobotReplyGood bus reply s
  | .robotReplyMissing bus => Sys2Proof.Machine.execRobotReplyMissing bus s
  | .robotReplyCheckError bus => Sys2Proof.Machine.execRobotReplyCheckError bus s
  | .currentSample bus milliamps => Sys2Proof.Machine.execCurrentSample bus milliamps s
  | .jabber bus => Sys2Proof.Machine.execJabber bus s
  | .blankingEnd bus => Sys2Proof.Machine.execBlankingEnd bus s
  | .rollcall bus => Sys2Proof.Machine.execRollcall bus s
  | .rollcallSlotEnd bus slot => Sys2Proof.Machine.execRollcallSlotEnd bus slot s
  | .ident link frame => Sys2Proof.Machine.execIdent link frame s
  | .summary h count entries => Sys2Proof.Machine.execSummary h count entries s
  | .summaryClient h count entries => Sys2Proof.Machine.execSummaryClient h count entries s
  | .keepalive h => Sys2Proof.Machine.execKeepalive h s
  | .claim h lens => Sys2Proof.Machine.execClaim h lens s
  | .withdraw h lens => Sys2Proof.Machine.execWithdraw h lens s
  | .release h lens => Sys2Proof.Machine.execRelease h lens s
  | .pin h lens => Sys2Proof.Machine.execPin h lens s
  | .hold h lens => Sys2Proof.Machine.execHold h lens s
  | .grant h lens => Sys2Proof.Machine.execGrant h lens s
  | .refuse h lens reason => Sys2Proof.Machine.execRefuse h lens reason s
  | .peerFrameError link => Sys2Proof.Machine.execPeerFrameError link s
  | .identSend link => Sys2Proof.Machine.execIdentSend link s
  | .keepaliveSend link => Sys2Proof.Machine.execKeepaliveSend link s
  | .silenceLimit link => Sys2Proof.Machine.execSilenceLimit link s
  | .matchedTimeout link => Sys2Proof.Machine.execMatchedTimeout link s
  | .syncingTimeout link => Sys2Proof.Machine.execSyncingTimeout link s
  | .peerFrameSent link => Sys2Proof.Machine.execPeerFrameSent link s

end Sys2Proof.Machine
end

