-- ==== Sys2Proof/Machine/Ticks.lean ====
section
/-! DEFINITION. One millisecond of the part's own time base: what a step does on an empty queue. DESIGN
CHOICE (log entry 2): the table has no row for the passing of time, so an empty queue lets one
millisecond pass and queues the commands of the part's own that have fallen due. -/

namespace Sys2Proof.Machine

/-- The deadline timer's expiry, where this millisecond completes its last unit (R46). -/
def State.dueDeadline (s : State) : List Instr := if s.timer.due then [.deadlineExpiry] else []

/-- The wait deadline of a site's robot in WAIT_LENS (R56). -/
def State.waitDeadline (s : State) (site : Nat) : Option Nat :=
  match s.targetLensOf site with
  | none => none
  | some i =>
    match (s.lenses[i]?).map Lens.body with
    | some (.decided d) => d.deadline
    | some (.client c) => c.deadline
    | none => none

/-- The time limits of a site's robot that have passed (R58, R87, R90). -/
def State.dueSite (s : State) (site : Nat) : List Instr :=
  match s.robotMove site with
  | none => []
  | some (r, m) =>
    if r.state = .waitLens ∧ (s.waitDeadline site).any (fun t => decide (t ≤ s.now)) = true then
      [.waitDeadlinePasses site]
    else if r.state = .inLeg ∧
        m.dispatch.any (fun t => decide (t + 1000 * m.legLimit ≤ s.now)) = true then
      [.legTimeout site]
    else if r.state = .halting ∧
        m.haltTime.any (fun t => decide (t + 1000 * s.params.legTimeLimit ≤ s.now)) = true then
      [.haltTimeLimit site]
    else []

/-- What the arbiter of a RUNNING bus takes now: the first place with something to send (R157). -/
def State.arbiterChoice (s : State) (bus : Nat) (b : Bus) : List Instr :=
  if b.free = false then []
  else if b.haltBroadcast then [.haltBroadcast bus]
  else if b.haltAddressed.isEmpty = false then [.haltAddressed bus]
  else if s.legWaiting bus b then [.legDispatch bus]
  else if (s.pollsDue bus s.now).isEmpty = false then [.poll bus]
  else
    match b.pendingOps.head? with
    | some (.setCounts _ _) => [.setCounts bus]
    | some (.inquire _ _) => [.inquireTransaction bus]
    | none =>
      if s.keepaliveRun b && (s.keepaliveSites bus).isEmpty == false then [.keepalivePoll bus] else []

/-- The end of a bus's blanking interval, the next ROLLCALL of a census, or its arbiter's choice (R167,
R159, R157). -/
def State.dueBus (s : State) (bus : Nat) : List Instr :=
  match s.buses[bus]? with
  | none => []
  | some b =>
    if b.switch = .on ∧ b.blanking = true ∧ b.switchedOn + Config.blankingMs ≤ s.now then
      [.blankingEnd bus]
    else
      match b.protocol with
      | .census => if b.round.isNone then [.rollcall bus] else []
      | .running => s.arbiterChoice bus b
      | .down => []

/-- The time of a link unit that has run out, or the frame whose time has come (R137, R139, R140, R143). A
KEEPALIVE waits until the queue is empty, for a frame that waits is sent before it. -/
def Link.due (l : Link) (n now : Nat) : List Instr :=
  match l.state with
  | .probing => if l.identAt + Config.identMs ≤ now then [.identSend n] else []
  | .matched =>
    if l.takenAt + Config.matchedMs ≤ now then [.matchedTimeout n]
    else if l.identAt + Config.identMs ≤ now then [.identSend n]
    else []
  | .syncing => if l.since + Config.syncingMs ≤ now then [.syncingTimeout n] else []
  | .up =>
    if l.takenAt + Config.silenceMs ≤ now then [.silenceLimit n]
    else if l.transmit.isEmpty && decide (l.sentAt + Config.keepaliveMs ≤ now) then [.keepaliveSend n]
    else []
  | .disabled => []
  | .fault => []

/-- What a link unit does as time passes: what has fallen due, and then the head of its queue is sent, one
frame a millisecond. -/
def State.dueLink (s : State) (n : Nat) : List Instr :=
  match s.links[n]? with
  | none => []
  | some l =>
    let own := l.due n s.now
    if own.isEmpty && l.transmit.isEmpty then [] else own ++ [.peerFrameSent n]

/-- The request at the head of a port's queue is taken, one a millisecond (R174). -/
def State.duePort (s : State) (p : PortId) : List Instr :=
  ((s.port p).queue.head?.map (QueuedRequest.command p)).toList

/-- The part's own commands that have fallen due: sites, buses and links in ascending order, then the
request at the head of the sequencer port's queue and that of the metrology port's. DESIGN CHOICE, unsafe
(log entry 2): no rule orders what falls due in one millisecond. -/
def State.due (s : State) : List Instr :=
  (List.range s.robots.length).flatMap s.dueSite ++ (List.range s.buses.length).flatMap s.dueBus ++
    (List.range s.links.length).flatMap s.dueLink ++ s.duePort .sequencer ++ s.duePort .metrology

/-- One millisecond passes: the time base and the deadline timer advance (R46), the converter goes to the
next channel (R47), and what has fallen due is queued. DESIGN CHOICE, unsafe (log entry 2): the deadline's
expiry is taken before an end of a move that falls due with it (R46). -/
def State.tick (s : State) : State :=
  let t := { s with
    now := s.now + 1, timer := s.timer.tick, converter := (s.converter + 1) % 8, conversionDue := true }
  { t with pending := s.dueDeadline ++ t.due }

end Sys2Proof.Machine
end

