-- ==== Sys2Proof/Machine/Frames.lean ====
section
/-! DEFINITION. The bytes of the frames the part exchanges with its neighbours and its robots (R181), and
the commands that received frames stand for (R136, R150). Log entry 13. -/

namespace Sys2Proof.Machine

/-! ### Fields -/

/-- A one-byte field. -/
def byteOf (n : Nat) : Byte := BitVec.ofNat 8 n

/-- A two-byte field, most significant byte first (R181). -/
def wordOf (n : Nat) : List Byte := [BitVec.ofNat 8 (n / 256), BitVec.ofNat 8 n]

/-- A serial, most significant byte first (R181). -/
def serialOf (n : Serial) : List Byte := wordOf (n.toNat / 65536) ++ wordOf (n.toNat % 65536)

/-- The number two bytes stand for. -/
def pairValue (hi lo : Byte) : Nat := hi.toNat * 256 + lo.toNat

/-! ### Peer frames -/

/-- A border message's kind: its place in the list of R135 (R181). -/
def BorderMessage.kind : BorderMessage → Nat
  | .claim => 4
  | .grant => 5
  | .refuse _ => 6
  | .withdraw => 7
  | .release => 8
  | .pin => 9
  | .hold => 10

/-- A frame's kind (R135, R181). -/
def PeerBody.kind : PeerBody → Nat
  | .ident _ => 1
  | .summary _ => 2
  | .keepalive => 3
  | .border m _ => m.kind

/-- The byte of a refusal's reason (R181). -/
def reasonByte : RefuseReason → Byte
  | .taken => 1
  | .pinned => 2

/-- The byte of a summary entry's state (R181). -/
def summaryByte : SummaryState → Byte
  | .held => 1
  | .pinned => 2

/-- The reason that follows the pair in a REFUSE (R181). -/
def BorderMessage.tailBytes : BorderMessage → List Byte
  | .refuse reason => [reasonByte reason]
  | .claim => []
  | .grant => []
  | .withdraw => []
  | .release => []
  | .pin => []
  | .hold => []

/-- A peer frame's payload (R181). -/
def PeerBody.payload : PeerBody → List Byte
  | .ident f =>
    [byteOf f.sector, byteOf f.expected, byteOf f.level] ++ wordOf f.digest.toNat ++
      [if f.ack then 1 else 0]
  | .summary l => wordOf l.length ++ l.flatMap fun x => wordOf x.1 ++ [summaryByte x.2]
  | .keepalive => []
  | .border m n =>
    wordOf n.position ++ [byteOf n.arbiterSite, byteOf n.clientSite] ++ m.tailBytes

/-- The bytes of a peer frame that its CRC covers (R181). -/
def PeerFrame.core (f : PeerFrame) : List Byte :=
  [byteOf f.body.kind, byteOf f.sender, byteOf f.seq] ++ wordOf f.body.payload.length ++ f.body.payload

/-- The bytes of a peer frame (R181). -/
def PeerFrame.bytes (f : PeerFrame) : List Byte :=
  0x5A#8 :: (f.core ++ wordOf (crc16 f.core).toNat)

/-- The entries of a SUMMARY, three bytes each; none where the bytes do not divide (R181). -/
def summaryEntriesOf : List Byte → Option (List SummaryEntry)
  | [] => some []
  | a :: b :: c :: rest =>
    (summaryEntriesOf rest).map fun l => ⟨pairValue a b, c.toNat⟩ :: l
  | [_] => none
  | [_, _] => none

/-- The lens name a border message's payload carries (R181). -/
def lensNameOf (a b c d : Byte) : LensName := ⟨pairValue a b, c.toNat, d.toNat⟩

/-- The command a border message stands for, by its kind (R135). -/
def borderCommand (kind : Nat) (h : PeerHeader) (n : LensName) : Option Instr :=
  match kind with
  | 4 => some (.claim h n)
  | 5 => some (.grant h n)
  | 7 => some (.withdraw h n)
  | 8 => some (.release h n)
  | 9 => some (.pin h n)
  | 10 => some (.hold h n)
  | _ => none

/-- The command a REFUSE stands for. -/
def refuseCommand (kind : Nat) (h : PeerHeader) (n : LensName) (reason : Byte) : Option Instr :=
  if kind = 6 then
    if reason = 1 then some (.refuse h n .taken)
    else if reason = 2 then some (.refuse h n .pinned)
    else none
  else none

/-- The command a frame's kind and payload stand for; none where the length does not agree with the
kind, or the kind is none of the ten (R136). -/
def payloadCommand (kind : Nat) (h : PeerHeader) : List Byte → Option Instr
  | [] => if kind = 3 then some (.keepalive h) else none
  | [a, b] => if kind = 2 then some (.summary h (pairValue a b) []) else none
  | [a, b, c, d] => borderCommand kind h (lensNameOf a b c d)
  | [a, b, c, d, e] =>
    if kind = 2 then
      (summaryEntriesOf [c, d, e]).map fun l => .summary h (pairValue a b) l
    else refuseCommand kind h (lensNameOf a b c d) e
  | [a, b, c, d, e, f] =>
    if kind = 1 then
      some (.ident h.link ⟨a.toNat, b.toNat, c.toNat, word16 d e, f != 0⟩)
    else none
  | a :: b :: rest =>
    if kind = 2 then (summaryEntriesOf rest).map fun l => .summary h (pairValue a b) l else none
  | [_] => none

/-- A peer frame's bytes between its lead byte and its CRC (R181). -/
def coreOf (bytes : List Byte) : List Byte := (bytes.take (bytes.length - 2)).drop 1

/-- The command a received peer frame stands for on a link: PEER_FRAME_ERROR where its CRC fails, its
length does not agree or its kind is none of the ten (R136), and, DEDUCED, unsafe (log entry 13), where it
is shorter than the shortest frame or its first byte is not the lead byte 5A hex. -/
def readPeerFrame (link : Nat) (bytes : List Byte) : Instr :=
  let n := bytes.length
  if n < 8 ∨ bytes.getD 0 0 ≠ 0x5A#8 then .peerFrameError link
  else if crc16 (coreOf bytes) ≠ word16 (bytes.getD (n - 2) 0) (bytes.getD (n - 1) 0) then
    .peerFrameError link
  else
    let core := coreOf bytes
    let payload := core.drop 5
    if pairValue (core.getD 3 0) (core.getD 4 0) ≠ payload.length then .peerFrameError link
    else
      (payloadCommand (core.getD 0 0).toNat
        ⟨link, (core.getD 1 0).toNat, (core.getD 2 0).toNat⟩ payload).getD (.peerFrameError link)

/-! ### Station frames -/

/-- The bytes of a response (R173, R181): lead byte, length from the tag to the last payload byte, tag,
code, status, flags with the overrun latch in the lowest bit, payload, CRC. The manual numbers neither
the statuses nor the fields of a payload, so both are arguments, and names no other flag: the other seven
bits are sent as 0. DESIGN CHOICE (log entry 33). -/
def Response.bytes (r : Response) (status : Byte) (payload : List Byte) : List Byte :=
  let body := wordOf (payload.length + 4) ++
    r.tag :: r.code :: status :: (if r.overrun then 1 else 0) :: payload
  0xC3#8 :: (body ++ wordOf (crc16 body).toNat)

/-! ### Robot bus frames -/

/-- The number of a leg kind (R181). -/
def LegKind.number : LegKind → Nat
  | .stow => 1
  | .slew => 2
  | .deploy => 3
  | .trim => 4
  | .fold => 5
  | .seek => 6

/-- A frame's kind: its place in the table of R150 (R181). -/
def BusBody.kind : BusBody → Nat
  | .move _ _ => 1
  | .poll => 2
  | .halt => 3
  | .setCounts _ => 4
  | .inquire _ => 5
  | .rollcall _ => 6
  | .assign _ _ => 7
  | .mute _ => 8

/-- The bytes of a target, where the leg drives its axis (R181). -/
def targetBytes (t : Option Nat) : List Byte :=
  match t with
  | none => []
  | some v => wordOf v

/-- A robot bus frame's payload (R181). -/
def BusBody.payload : BusBody → List Byte
  | .move leg tag =>
    [byteOf leg.kind.number, byteOf tag] ++ targetBytes leg.alpha ++ targetBytes leg.beta
  | .poll => []
  | .halt => []
  | .setCounts p => wordOf p.alpha ++ wordOf p.beta
  | .inquire item => [byteOf item]
  | .rollcall w => [byteOf w]
  | .assign serial a => serialOf serial ++ [byteOf a]
  | .mute serial => serialOf serial

/-- The check byte: the complement of the 8-bit sum (R150). -/
def checkByte (bytes : List Byte) : Byte := ~~~(bytes.foldl (· + ·) 0)

/-- The bytes a check byte covers: address and kind, length, payload (R150, R181). -/
def busCore (address kind : Nat) (payload : List Byte) : List Byte :=
  byteOf (address * 16 + kind) :: byteOf payload.length :: payload

/-- The bytes of a frame the part sends on a robot bus, after its start gap (R150, R181). -/
def BusFrame.bytes (f : BusFrame) : List Byte :=
  let core := busCore (f.address.getD 15) f.body.kind f.body.payload
  0x3C#8 :: (core ++ [checkByte core])

/-- The motion state of a status reply's first byte (R181). -/
def motionOf (b : Byte) : Option Motion :=
  match (b &&& 0x7F#8).toNat with
  | 0 => some .still
  | 1 => some .moving
  | 2 => some .fault
  | _ => none

/-- The fault code of a status reply (R181): none of the outer option where the byte is no code. -/
def faultOf (b : Byte) : Option (Option ReplyFault) :=
  match b.toNat with
  | 0 => some none
  | 1 => some (some .stall)
  | 2 => some (some .limitSwitch)
  | 3 => some (some .driver)
  | _ => none

/-- A status reply's payload is read (R181). Counts outside the axes' ranges are read as they stand. DESIGN
CHOICE, unsafe (log entry 38). -/
def statusOf : List Byte → Option StatusReply
  | [m, tag, a, b, c, d, f] =>
    match motionOf m, faultOf f with
    | some motion, some fault =>
      some ⟨motion, tag.toNat, pairValue a b, pairValue c d, m.msb, fault⟩
    | _, _ => none
  | _ => none

/-- An item reply's payload is read (R181). -/
def itemOf : List Byte → Option BusReply
  | [i, a, b] =>
    if i.msb then
      if a = 0xFF#8 ∧ b = 0xFF#8 then some (.item (i &&& 0x7F#8).toNat none) else none
    else some (.item i.toNat (some (word16 a b)))
  | _ => none

/-- The reply a payload carries, by its kind (R181). -/
def replyOf (kind : Nat) (payload : List Byte) : Option BusReply :=
  match kind with
  | 9 => (statusOf payload).map .status
  | 10 => if payload.isEmpty then some .acknowledge else none
  | 11 => itemOf payload
  | _ => none

/-- The address, kind and payload of a received robot bus frame whose check byte and framing are right
(R150). -/
def readBusBytes (bytes : List Byte) : Option (Nat × Nat × List Byte) :=
  let n := bytes.length
  let core := (bytes.take (n - 1)).drop 1
  if n < 4 ∨ bytes.getD 0 0 ≠ 0x3C#8 ∨ bytes.getD (n - 1) 0 ≠ checkByte core then none
  else if (core.getD 1 0).toNat ≠ (core.drop 2).length then none
  else some ((core.getD 0 0).toNat / 16, (core.getD 0 0).toNat % 16, core.drop 2)

/-- The command a reply stands for on a bus whose transaction addresses `address` (R150). -/
def readReply (bus address : Nat) (bytes : List Byte) : Instr :=
  match readBusBytes bytes with
  | none => .robotReplyCheckError bus
  | some (a, kind, payload) =>
    if a = address then
      match replyOf kind payload with
      | some reply => .robotReplyGood bus reply
      | none => .robotReplyCheckError bus
    else .robotReplyCheckError bus

/-- The judgement of a roll-call slot in which one burst of bytes was received (R159): CLEAN where it is
a serial frame with address 15. -/
def judgeSlot (bytes : List Byte) : SlotJudgement :=
  if bytes.isEmpty then .empty
  else
    match readBusBytes bytes with
    | some (15, 12, [a, b, c, d]) => .clean (a ++ b ++ c ++ d)
    | _ => .garbled

end Sys2Proof.Machine
end

