-- ==== Sys2Proof/Safety.lean ====
section
/-! DEFINITION. What is true of every state the block can be in, in the terms the claims use. Each is a
bound the manual states; `State.Sound` gathers them. -/

namespace Sys2Proof.Machine

/-- The lens records keep the bounds of R49: no holder beside a pin, a waiter only behind the other
side's holding, a wait deadline only with a waiter. -/
def State.LensesSound (s : State) : Prop :=
  ∀ l ∈ s.lenses, ∀ d, l.body = .decided d → d.wf = true

/-- The queues keep their capacities: 128 outcome records (R97), 4 requests a port (R174), 64 frames a
link (R135). -/
def State.QueuesSound (s : State) : Prop :=
  s.outcomes.length ≤ Config.outcomeDepth ∧ s.sequencer.queue.length ≤ Config.requestDepth ∧
    s.metrology.queue.length ≤ Config.requestDepth ∧
    ∀ l ∈ s.links, l.transmit.length ≤ Config.transmitDepth

/-- There are six link units (R133), eight buses (R1), and per bus twelve places in the learned address
table (R162) and four statistics counters (R163). -/
def State.ShapeSound (s : State) : Prop :=
  s.links.length = 6 ∧ s.buses.length = 8 ∧
    ∀ b ∈ s.buses, b.addresses.length = Config.robotsPerBus ∧ b.stats.length = 4

/-- The saturating counts stay within their ranges (R26, R125, R133, R136, R152, R173). -/
def State.CountsSound (s : State) : Prop :=
  s.sequencer.errors ≤ Config.top16 ∧ s.metrology.errors ≤ Config.top16 ∧
    (∀ l ∈ s.links, l.errors ≤ Config.top16 ∧ l.drops ≤ Config.top8) ∧
    ∀ r ∈ s.robots, r.epoch ≤ Config.top32 ∧ r.iterations ≤ Config.iterationTop ∧
      r.failures ≤ Config.failureTop

/-- The parameters lie in the ranges of R179, the park beta apart: R35 lets a later stow angle leave it
above the stow angle (R75). -/
def Params.inRange (p : Params) : Bool :=
  decide (1920 ≤ p.stowAngle ∧ p.stowAngle ≤ 7680) && decide (p.gain ≤ 256) &&
    decide (1 ≤ p.maxCorrection ∧ p.maxCorrection ≤ 2047) &&
    decide (1 ≤ p.tolerance ∧ p.tolerance ≤ 1000) &&
    decide (1 ≤ p.iterationLimit ∧ p.iterationLimit ≤ 15) &&
    decide (1 ≤ p.deadlinePreset ∧ p.deadlinePreset ≤ 65535) &&
    decide (1 ≤ p.lensWaitLimit ∧ p.lensWaitLimit ≤ 600) &&
    decide (1 ≤ p.legTimeLimit ∧ p.legTimeLimit ≤ 120) &&
    decide (1 ≤ p.attemptLimit ∧ p.attemptLimit ≤ 4) &&
    decide (1 ≤ p.failureLimit ∧ p.failureLimit ≤ 8) &&
    decide (10 ≤ p.pollInterval ∧ p.pollInterval ≤ 1000) &&
    decide (50 ≤ p.keepaliveInterval ∧ p.keepaliveInterval ≤ 5000)

/-- A robot has a move exactly in the four states of a move (R18, R72). -/
def Robot.moveMatchesState (r : Robot) : Bool :=
  r.move.isSome ==
    (r.state == .queued || r.state == .inLeg || r.state == .waitLens || r.state == .halting)

/-- Every robot has a move exactly in the four states of a move (R18, R72). -/
def State.MovesSound (s : State) : Prop := ∀ r ∈ s.robots, r.moveMatchesState = true

/-- No QUEUED or WAIT_LENS robot still has a move that a denial has ended: such ends are taken within the
event that denies (R93, R96). -/
def State.NoDenialWaits (s : State) : Prop := ∀ r ∈ s.robots, r.deniedAtRest = none

/-! ### Requests -/

/-- The state after a request that does `f` and is answered (R174, R175): it is taken from its queue, and
answered once. Where another request is at the head of the queue nothing changes, and a head of a wrong
length is answered BAD_FRAME. -/
def State.answered (s : State) (r : Req) (code : Byte) (status : Status) (body : Body)
    (f : State → State) : State :=
  match s.turn r.port r.tag code with
  | .later => s
  | .wrongLength => (s.takeRequest r.port r.tag code).respond r.port
      ⟨r.tag, code, .badFrame, (s.port r.port).overrun, .none⟩
  | .next => (f (s.takeRequest r.port r.tag code)).respond r.port
      ⟨r.tag, code, status, (s.port r.port).overrun, body⟩

/-- It is the turn of a request of this code at its port: the port's queue is empty, or its head has the
request's tag and code and a right length (R174, R175). -/
def State.Takes (s : State) (r : Req) (code : Byte) : Prop :=
  (s.port r.port).queue = [] ∨ ∃ q rest, (s.port r.port).queue = q :: rest ∧ q.tag = r.tag ∧
    q.code = code ∧ q.badLength = false

/-- Two states that differ at most in one port's request queue and latest response. -/
def State.SameBut (s t : State) (p : PortId) : Prop :=
  t = s.modPort p fun x => { x with queue := (t.port p).queue, response := (t.port p).response }

/-- The request came to port `p`, and its payload holds its arguments (R173, R175). -/
def sentTo (p : PortId) (r : Req) : Prop := r.port = p ∧ r.fits = true

/-- A site of the installed map with its site record and its robot record (R1, R16). -/
def State.Holds (s : State) (site : Nat) (x : Site) (r : Robot) : Prop :=
  s.site? site = some x ∧ s.robots[site]? = some r

/-- What the lens table, the move engine, the link units and the bus controllers may change between them:
`s` with those parts as `u` has them. Every other part is that of `s`. -/
def State.engine (s u : State) : State :=
  { s with
    lenses := u.lenses, robots := u.robots, outcomes := u.outcomes, overflow := u.overflow,
    field := u.field, timer := u.timer, posChanged := u.posChanged, links := u.links,
    buses := u.buses, inquiry := u.inquiry, notices := u.notices }

/-- The robot's move is QUEUED or waits for its lens. -/
def Robot.atRest (r : Robot) : Bool := r.state == .queued || r.state == .waitLens

/-- A move that is not in flight has ended with `outcome`: the robot has no move and is IDLE, or LOST
after a HOME (R18, R88, R93). -/
def Robot.EndedAtRest (before after : Robot) (outcome : MoveOutcome) : Prop :=
  after.move = none ∧ after.lastOutcome = some outcome ∧
    if before.move.any Move.isHome then ∃ cause, after.state = .lost cause else after.state = .idle

/-- A leg in flight is being halted with this cause since this time (R89). -/
def Robot.HaltedFrom (before after : Robot) (cause : HaltCause) (now : Nat) : Prop :=
  after.state = .halting ∧ after.alpha = before.alpha ∧ after.beta = before.beta ∧
    ∀ m, before.move = some m → ∃ m', after.move = some m' ∧ m'.haltCause = some cause ∧
      m'.haltTime = some now ∧ m'.dispatch = none ∧ m'.kind = m.kind ∧ m'.legs = m.legs

/-! ### Peer links -/

/-- A numbered frame that its link unit takes in UP: from the link's neighbour, with the unit's receive
sequence (R135, R136). -/
def State.InOrder (s : State) (h : PeerHeader) (k : Link) : Prop :=
  s.links[h.link]? = some k ∧ k.state = .up ∧ h.sender = s.neighbourNumber h.link ∧ h.seq = k.recvSeq

/-- The unit has taken a numbered frame: its receive sequence advances modulo 256 and its silence time
restarts (R135, R143). -/
def State.frameTaken (s : State) (n : Nat) : State :=
  s.modLink n fun l => { l with takenAt := s.now, recvSeq := (l.recvSeq + 1) % 256 }

/-- A border message for lens `i` has joined the link's queue with the unit's send sequence (R135). -/
def State.withMessage (s : State) (n i : Nat) (m : BorderMessage) : State :=
  s.modLink n fun l =>
    { l with
      transmit := l.transmit ++ [⟨s.sectorNumber, l.sendSeq, .border m (s.lensName n i)⟩]
      sendSeq := (l.sendSeq + 1) % 256 }

/-- Link `n` of `t` has entered PROBING: match count 0, no last IDENT, partner acknowledged clear, and the
IDENT of the entry alone in the queue (R137, R138). -/
def State.ProbingAt (t : State) (n : Nat) : Prop :=
  ∃ l, t.links[n]? = some l ∧ l.state = .probing ∧ l.matchCount = 0 ∧ l.lastIdent = none ∧
    l.partnerAck = false ∧ l.transmit = [⟨t.sectorNumber, 0,
      .ident ⟨t.sectorNumber, t.neighbourNumber n, 1, t.digest n, false⟩⟩]

/-- Link `n` has departed from UP between `s` and `t`: a drop is counted, the was-down flag set, no
claim of the link is left CLAIMING and no remote side waiting, and remote holders and pins are kept
(R145). -/
def State.DepartedAt (s t : State) (n : Nat) : Prop :=
  (∀ l, s.links[n]? = some l → ∃ l', t.links[n]? = some l' ∧ l'.wasDown = true ∧
    l'.drops = if l.drops < 255 then l.drops + 1 else l.drops) ∧
  ∀ (i : Nat) (x : Lens), s.lenses[i]? = some x → x.link = some n → ∃ y, t.lenses[i]? = some y ∧
    (∀ c, y.body = .client c → c.claim ≠ .claiming) ∧
    ∀ d p, x.body = .decided d → x.remoteParty = some p → ∃ d', y.body = .decided d' ∧
      d'.waiter ≠ some p ∧ d'.pinned p = d.pinned p ∧
      ∀ kind, d'.holder = some (p, kind) ↔ d.holder = some (p, kind)

/-- A border lens of link `n` in the table, as a message names it (R135). -/
def State.Names (s : State) (n : Nat) (name : LensName) (i : Nat) (l : Lens) : Prop :=
  s.lensNamed n name = some i ∧ s.lenses[i]? = some l

/-! ### A robot's parts in the lens table -/

/-- A side that a release or a grant can still reach in `t`: a robot of this sector that has a move, or the
remote side of a link that is UP. -/
def State.StandsBy (t : State) : LensSide → Prop
  | .site j => ∃ y, t.robots[j]? = some y ∧ y.move ≠ none
  | .remote k _ => ∃ u, t.links[k]? = some u ∧ u.state = .up

/-- A border message for lens `i` waits in its link's queue, where the link is UP (R70, R135). -/
def State.Sends (t : State) (l : Lens) (i : Nat) (m : BorderMessage) : Prop :=
  ∀ k u, l.link = some k → t.links[k]? = some u → u.state = .up →
    ∃ f ∈ u.transmit, f.body = .border m (t.lensName k i)

/-- A robot that waited for its lens is QUEUED, its DEPLOY at the tail of its bus's queue of its move's
class (R81, R82). -/
def State.queuedAgain (s : State) (site bus : Nat) (m : Move) : State :=
  (s.modRobot site fun x => { x with state := .queued }).modBus bus fun b =>
    if m.kind.classA then { b with queueA := b.queueA ++ [site] }
    else { b with queueB := b.queueB ++ [site] }

/-- The parts of a site's robot have gone through loss conversion between `s` and `t`, at every lens but
`except` (R62): an OCCUPIED holding is the robot's pin with no waiter behind it, a RESERVED one is
released to a waiter that stands by, HELD_OCCUPIED is PINNED with PIN sent, HELD_RESERVED is NONE with
RELEASE sent, and pins are kept. -/
def State.LossConverted (s t : State) (site : Nat) (except : Option Nat) : Prop :=
  ∀ (i : Nat) (l : Lens) (p : Party), s.lenses[i]? = some l → l.partyOf site = some p →
    except ≠ some i → ∃ l', t.lenses[i]? = some l' ∧
      (∀ d, l.body = .decided d → d.wf = true → ∃ d', l'.body = .decided d' ∧
        (d.holder = some (p, .occupied) → d'.holder = none ∧ d'.pinned p = true ∧ d'.waiter = none) ∧
        (d.holder = some (p, .reserved) → d'.heldBy p = false ∧ d'.pinned p = false ∧
          (d.waiter = none → d'.holder = none) ∧
          (d.waiter = some p.other → t.StandsBy (l.side p.other) →
            d'.holder = some (p.other, .reserved))) ∧
        (d.heldBy p = false → d'.pinned p = d.pinned p)) ∧
      ∀ c, l.body = .client c → ∃ c', l'.body = .client c' ∧ c'.lastRefusal = c.lastRefusal ∧
        (c.claim = .heldOccupied → c'.claim = .pinned ∧ t.Sends l i .pin) ∧
        (c.claim = .heldReserved → c'.claim = .none ∧ t.Sends l i .release) ∧
        (c.claim = .pinned ∨ c.claim = .none → c'.claim = c.claim)

/-- The facing lens of an inconsistent report has been pinned between `s` and `t` (R67): where it has no
holder the robot's pin stands, and with one no pin is added; a CLIENT lens is PINNED with PIN sent. -/
def State.FacingPinned (s t : State) (site : Nat) (p : Pos) : Prop :=
  ∀ (i : Nat) (l : Lens) (me : Party), s.facingLens site p = some i → s.lenses[i]? = some l →
    l.partyOf site = some me → ∃ l', t.lenses[i]? = some l' ∧
      (∀ d, l.body = .decided d → d.wf = true → ∃ d', l'.body = .decided d' ∧
        (d.holder = none → d'.holder = none ∧ d'.pinned me = true) ∧
        (d.holder ≠ none → d'.pinned me = d.pinned me)) ∧
      ∀ c, l.body = .client c → c.claim ≠ .heldReserved → c.claim ≠ .heldOccupied →
        ∃ c', l'.body = .client c' ∧ c'.claim = .pinned ∧ (c.claim ≠ .pinned → t.Sends l i .pin)

/-- What an inconsistent report makes of the robot's parts: its facing lens pinned, and loss conversion at
the others (R67). -/
def State.ReportPinned (s t : State) (site : Nat) (p : Pos) : Prop :=
  s.FacingPinned t site p ∧ s.LossConverted t site (s.facingLens site p)

/-- The unknown-discovery pins of a site have been added between `s` and `t` (R63): its side pins every
LOCAL and ARBITER lens that has no holder, and a CLIENT lens in NONE is PINNED with PIN sent. -/
def State.DiscoveryPinned (s t : State) (site : Nat) : Prop :=
  ∀ (i : Nat) (l : Lens) (p : Party), s.lenses[i]? = some l → l.partyOf site = some p →
    ∃ l', t.lenses[i]? = some l' ∧
      (∀ d, l.body = .decided d → d.wf = true → ∃ d', l'.body = .decided d' ∧
        d'.pinned p = (d.pinned p || d.holder.isNone) ∧ (d.holder = none → d'.holder = none)) ∧
      ∀ c, l.body = .client c → c.claim = .none ∨ c.claim = .pinned → ∃ c', l'.body = .client c' ∧
        c'.claim = .pinned ∧ (c.claim = .none → t.Sends l i .pin)

/-- A record once side `p` has given up its part: a holding goes to the waiter, RESERVED, or to nobody, and
a pin is removed (R59, R64, R66). -/
def Decided.vacated (d : Decided) (p : Party) : Decided :=
  if d.heldBy p = true then
    { d with holder := d.waiter.map fun w => (w, .reserved), waiter := none, deadline := none }
  else d.setPin p false

/-- A CLIENT record once its robot has given up its part: a claim under way stays (R64, R66). -/
def Client.vacated (c : Client) : Client :=
  if c.claim = .none ∨ c.claim = .claiming then c else { c with claim := .none, deadline := none }

/-- Every part of a site's robot has been given up between `s` and `t`, at every lens but `kept`, and a
robot in WAIT_LENS behind one of its holdings is QUEUED (R57, R59, R64, R66). -/
def State.Vacated (s t : State) (site : Nat) (kept : Option Nat) : Prop :=
  ∀ (i : Nat) (l : Lens) (p : Party), s.lenses[i]? = some l → l.partyOf site = some p →
    kept ≠ some i →
      (∀ d, l.body = .decided d →
        t.lenses[i]? = some { l with body := .decided (d.vacated p) } ∧
        ∀ j y, l.side p.other = .site j → j ≠ site → d.heldBy p = true → d.waiter = some p.other →
          s.robots[j]? = some y → y.state = .waitLens →
          ∃ y', t.robots[j]? = some y' ∧ y'.state = .queued) ∧
      ∀ c, l.body = .client c → t.lenses[i]? = some { l with body := .client c.vacated }

/-- Every link's queue has room for a message of each of its lenses (R135). -/
def State.QueuesRoomy (s : State) : Prop :=
  ∀ k u, s.links[k]? = some u → u.transmit.length + (s.borderList k).length ≤ 64

/-! ### Robot buses -/

/-- The power of bus `n` is lost between `s` and `t`: its controller is DOWN with nothing on the line,
pending or learned, and each of its robots is OFFLINE with no belief and no move, a move it had ending
LOST unless it halted for RESTART, and its lens parts converted (R20, R62, R156). -/
def State.PowerLost (s t : State) (n : Nat) : Prop :=
  (∀ b, s.buses[n]? = some b → ∃ b', t.buses[n]? = some b' ∧ b'.protocol = .down ∧ b'.txn = none ∧
    b'.haltBroadcast = false ∧ b'.haltAddressed = [] ∧ b'.pendingOps = [] ∧ b'.round = none ∧
    b'.addresses = List.replicate 12 none ∧ b'.stats = b.stats ∧ b'.credit = b.credit ∧
    b'.census.result = (if b.census.result = .inProgress then .abandoned else b.census.result)) ∧
  ∀ (i : Nat) (r : Robot), s.robots[i]? = some r → r.bus = n → ∃ r', t.robots[i]? = some r' ∧
    r'.state = .offline ∧ r'.alpha = none ∧ r'.beta = none ∧ r'.move = none ∧ r'.failures = 0 ∧
    r'.tagMemory = 0 ∧ r'.epoch = r.epoch ∧ r'.history = r.history ∧ r'.fault = r.fault ∧
    (∀ m, r.move = some m → m.haltCause ≠ some .restart → r'.lastOutcome = some .lost) ∧
    s.LossConverted t i none

/-- One more in each statistics counter that has one of these objects selected, up to the top of the
counter (R163). -/
def countedIn (objects : List StatObject) (stats : List Stat) : List Stat :=
  stats.map fun x =>
    if x.object ∈ objects then
      { x with count := if x.count < 4294967295 then x.count + 1 else x.count }
    else x

/-- The objects a transaction's frame counts: a HALT is two (R163). -/
def frameObjects (kind : TxnKind) : List StatObject :=
  if kind = .halt then [.framesSent, .haltsSent] else [.framesSent]

/-- A bus whose arbiter has begun a transaction of this kind for this site (R151, R157). -/
def State.begun (s : State) (n : Nat) (kind : TxnKind) (site : Nat) : State :=
  s.modBus n fun x =>
    { x with
      txn := some ⟨kind, site, 1, s.params.attemptLimit⟩
      stats := countedIn (frameObjects kind) x.stats
      lastFrames := [⟨s.addressOf site, kind.body⟩] }

/-- The transaction on bus `n` has ended, with these objects counted (R151, R163). -/
def State.txnEnded (s : State) (n : Nat) (objects : List StatObject) : State :=
  s.modBus n fun x => { x with txn := none, stats := countedIn objects x.stats }

/-- The robot's record after a good status reply: its last reported group and tag memory, and no
failures (R25, R80, R152). -/
def Robot.reported (r : Robot) (rep : StatusReply) : Robot :=
  { r with last := some rep, tagMemory := rep.tag, failures := 0 }

/-- The robot of a site is due for its poll on bus `n` (R158). -/
def State.pollDue (s : State) (n i : Nat) : Prop :=
  ∃ r, s.robots[i]? = some r ∧ r.bus = n ∧
    ((r.state = .inLeg ∧ ∃ t, r.pollTime = some t ∧ t + s.params.pollInterval ≤ s.now) ∨
      (r.state = .halting ∧ ∀ t, r.pollTime = some t → t + s.params.pollInterval ≤ s.now))

/-- The robot of a site is one that keepalive polls on bus `n` reach (R158). -/
def State.keptAlive (s : State) (n i : Nat) : Prop :=
  ∃ r, s.robots[i]? = some r ∧ r.bus = n ∧
    (r.state = .idle ∨ r.state = .faulted ∨ ∃ cause, r.state = .lost cause)

/-- `site` is the next of those that satisfy `p` above the last one, wrapping to the lowest (R157). -/
def NextAbove (p : Nat → Prop) (last : Option Nat) (site : Nat) : Prop :=
  p site ∧ match last with
    | none => ∀ j, p j → site ≤ j
    | some x => if x < site then ∀ j, p j → x < j → site ≤ j else ∀ j, p j → j ≤ x ∧ site ≤ j

/-- The robot of a site has no part in any lens. -/
def State.Partless (s : State) (site : Nat) : Prop := ∀ l ∈ s.lenses, l.partyOf site = none

end Sys2Proof.Machine
end

