-- ==== Sys2Proof/Certificates/Slice0/Obligations.lean ====
section
/-! DEFINITION. The statements for the provers. A statement about a request takes one that came to the
right port with its arguments; what a wrong port or a payload that does not fit does is said once for all
of them. -/

open Sys2Proof Sys2Proof.Machine

/-! ### Steps and resets -/

/-- A step with a command at the front of the queue is `exec` of that command on the state with the rest
of the queue. -/
def Obligations.StepRunsFrontCommand : Prop :=
  ∀ (s : State) (c : Instr) (rest : List Instr), s.pending = c :: rest →
    step s = exec c { s with pending := rest }

/-- On an empty queue a step lets one millisecond pass: the time base advances by one, the deadline
timer counts as R46 says, the converter goes to its next channel, commands of the part's own may join the
queue, and nothing else changes. The request at the head of each port's queue is among those commands: as
BAD_FRAME where its length was wrong, as UNKNOWN where its code is none of the catalogue, and otherwise as
the request its tag and code name. That an empty queue stands for the passing of time (log entry 2), that
the timer's unit runs from the CONFIGURE and its last decrease is the command DEADLINE_EXPIRY (log entry 4),
that the converter's channels follow the milliseconds from channel 0 (log entry 8), that each port takes one
request a millisecond (log entry 11) and that the payload of a request without arguments fits where it is
empty (log entry 27) are the model's choices. -/
def Obligations.EmptyQueueLetsAMillisecondPass : Prop :=
  ∀ s : State, s.pending = [] → ∃ t, step s = .next t ∧
    t = { s with
      pending := t.pending, now := s.now + 1, timer := t.timer, converter := (s.converter + 1) % 8
      conversionDue := true } ∧
    (∀ (p : PortId) (q : QueuedRequest) (rest : List QueuedRequest), (s.port p).queue = q :: rest →
      (q.badLength = true → .badFrame p q.tag q.code ∈ t.pending) ∧
      (q.badLength = false → q.code = 0 ∨ 37 < q.code.toNat → .unknown p q.tag q.code ∈ t.pending) ∧
      (q.badLength = false → q.code ≠ 0 → q.code.toNat ≤ 37 → ∃ c r rights, c ∈ t.pending ∧
        requestOf c = some (r, q.code, rights) ∧ r.port = p ∧ r.tag = q.tag ∧
        (q.code ∈ [3#8, 14#8, 16#8, 17#8, 18#8, 19#8, 20#8, 22#8, 24#8, 31#8, 34#8, 37#8] →
          r.fits = decide (q.payload = [])))) ∧
    (s.timer.phase = .stopped ∨ s.timer.phase = .held → t.timer = s.timer) ∧
    (s.timer.phase = .down ∨ s.timer.phase = .overtime → s.timer.ms < 99 →
      t.timer = { s.timer with ms := s.timer.ms + 1 }) ∧
    (s.timer.phase = .down → s.timer.ms = 99 → 1 < s.timer.remaining →
      t.timer = { s.timer with remaining := s.timer.remaining - 1, ms := 0 }) ∧
    (s.timer.phase = .overtime → s.timer.ms = 99 → s.timer.overtime ≤ 65535 →
      t.timer = { s.timer with overtime := min 65535 (s.timer.overtime + 1), ms := 0 }) ∧
    (s.timer.phase = .down → s.timer.ms = 99 → s.timer.remaining ≤ 1 → .deadlineExpiry ∈ t.pending)

/-- The reset state has no map and FFFF digests, the loader idle, no robots, lenses or targets, mode
INIT, no field, the timer stopped, every link DISABLED, every bus OFF and DOWN, empty queues, every mask
entry enabled, no notice standing, and the parameters at their defaults. POWER_ON and RESET_LINE leave
that state with their reset cause and the levels found at the inputs: an OPEN shutter or an ASSERTED
stop is latched, and an ASSERTED stop makes the mode HALTED. That commands not yet taken stay in the
queue, and that MODE_CHANGE is then latched, are the model's choices (log entries 14 and 15). -/
def Obligations.FullResetsLeaveTheResetState : Prop :=
  (let s := State.reset
   s.map = none ∧ s.loader = none ∧ s.lenses = [] ∧ s.siteLens = [] ∧
     (∀ n, n < 6 → s.digest n = 0xFFFF#16) ∧ s.robots = [] ∧ s.targets = [] ∧ s.outcomes = [] ∧
     s.overflow = false ∧ s.mode = .init ∧ s.field.state = .none ∧ s.timer.phase = .stopped ∧
     s.posChanged = false ∧ s.inquiry = .empty ∧ s.resetCause = .powerOn ∧
     s.links.length = 6 ∧ (∀ l ∈ s.links, l.state = .disabled ∧ l.transmit = []) ∧
     s.buses.length = 8 ∧
     (∀ b ∈ s.buses, b.switch = .off ∧ b.protocol = .down ∧ b.queueA = [] ∧ b.queueB = [] ∧
       b.credit = 3 ∧ b.threshold = 2500 ∧ b.tripCount = 3 ∧ b.concurrencyLimit = 4) ∧
     s.standing .sequencer = List.replicate 9 false ∧ s.standing .metrology = [false] ∧
     s.sequencer.mask = List.replicate 9 true ∧ s.metrology.mask = [true] ∧
     s.sequencer.queue = [] ∧ s.metrology.queue = [] ∧
     s.params =
       { stowAngle := 3840, parkBeta := 0, gain := 192, maxCorrection := 400, tolerance := 8,
         iterationLimit := 5, share := .three, deadlinePreset := 900, deadlineAction := .runOn,
         lensWaitLimit := 45, legTimeLimit := 15, attemptLimit := 3, failureLimit := 3,
         pollInterval := 50, keepaliveInterval := 250 }) ∧
  ∀ (s : State) (shutter stop : Bool),
    let t : State :=
      { State.reset with
        pending := s.pending
        inputs := ⟨shutter, stop, shutter, false, stop, false⟩
        mode := if stop then .halted else .init
        notices := { Notices.reset with modeChange := stop } }
    exec (.powerOn shutter stop) s = .next { t with resetCause := .powerOn } ∧
      exec (.resetLine shutter stop) s = .next { t with resetCause := .resetLine }

/-! ### The discrete inputs -/

/-- The shutter closing and the stop release are latched only, and so is a shutter opening outside OPEN.
The shutter opening in OPEN makes the mode FROZEN with cause SHUTTER and latches MODE_CHANGE: every move
that is QUEUED or waits ends HALTED at once, every robot in a leg enters HALTING with cause SHUTTER and
its bus gets a broadcast HALT, and a robot in no move, or HALTING already, keeps its record. -/
def Obligations.InputChangesActByTheMode : Prop :=
  (∀ s : State,
     (s.inputs.shutterOpen = true → exec .shutterClosed s = .next
       { s with inputs := { s.inputs with shutterOpen := false, shutterClosedLatch := true } }) ∧
     (s.inputs.stopAsserted = true → exec .stopReleased s = .next
       { s with inputs := { s.inputs with stopAsserted := false, stopReleasedLatch := true } }) ∧
     (s.inputs.shutterOpen = false → s.mode ≠ .opened → exec .shutterOpened s = .next
       { s with inputs := { s.inputs with shutterOpen := true, shutterOpenedLatch := true } })) ∧
  ∀ s : State, s.mode = .opened → s.inputs.shutterOpen = false → s.MovesSound →
    ∃ t, exec .shutterOpened s = .next t ∧
      t = { s.engine t with
        mode := .frozen .shutter
        inputs := { s.inputs with shutterOpen := true, shutterOpenedLatch := true } } ∧
      t.notices.modeChange = true ∧
      ∀ (i : Nat) (r : Robot), s.robots[i]? = some r → ∃ r', t.robots[i]? = some r' ∧
        (r.atRest = true → r.EndedAtRest r' .halted) ∧
        (r.state = .inLeg → r.HaltedFrom r' .shutter s.now ∧
          ∀ b, s.buses[r.bus]? = some b → ∃ b', t.buses[r.bus]? = some b' ∧ b'.haltBroadcast = true) ∧
        (r.atRest = false → r.state ≠ .inLeg → r' = r)

/-- The stop assertion makes the mode HALTED, turns every switch that is not OFF to OFF with cause STOP,
and takes the power from every bus that was ON: its controller goes DOWN and each of its robots OFFLINE
with no belief and no move, a move it had ending LOST unless it halted for RESTART. -/
def Obligations.StopAssertionCutsThePower : Prop :=
  ∀ s : State, s.inputs.stopAsserted = false → s.MovesSound →
    ∃ t, exec .stopAsserted s = .next t ∧
      t = { s.engine t with
        mode := .halted
        inputs := { s.inputs with stopAsserted := true, stopAssertedLatch := true } } ∧
      ∀ (n : Nat) (b : Bus), s.buses[n]? = some b → ∃ b', t.buses[n]? = some b' ∧ b'.switch = .off ∧
        (b.switch = .off → b'.lastOff = b.lastOff) ∧ (b.switch ≠ .off → b'.lastOff = .stop) ∧
        (b.switch = .on → s.PowerLost t n ∧ b'.blanking = false)

/-! ### Station ports -/

/-- A frame with a good CRC and a right length joins the tail of a queue of fewer than 4 requests, and a
full queue discards it with the overrun latch set. A good CRC with a wrong length joins with its mark. A
bad CRC, a wrong lead byte or fewer than 7 bytes add one to the port's error counter, up to 65,535. -/
def Obligations.StationFramesAreJudged : Prop :=
  ∀ (s : State) (p : PortId) (tag code : Byte) (payload : List Byte) (len crc : Nat),
    payload.length ≤ 1024 → len < 65536 → crc < 65536 →
    let body := wordOf len ++ tag :: code :: payload
    let bytes := 0xC3#8 :: (body ++ wordOf crc)
    let counted := s.modPort p fun x => { x with errors := if x.errors < 65535 then x.errors + 1 else x.errors }
    (crc = (crc16 body).toNat → (s.port p).queue.length < 4 →
      exec (.stationFrameReceived p bytes) s = .next (s.modPort p fun x =>
        { x with queue := x.queue ++ [⟨tag, code, decide (len ≠ payload.length + 2), payload⟩] })) ∧
    (crc = (crc16 body).toNat → 4 ≤ (s.port p).queue.length →
      exec (.stationFrameReceived p bytes) s = .next (s.modPort p fun x => { x with overrun := true })) ∧
    (crc ≠ (crc16 body).toNat → exec (.stationFrameReceived p bytes) s = .next counted) ∧
    ∀ other : List Byte, other.length < 7 ∨ other.head? ≠ some 0xC3#8 →
      exec (.stationFrameReceived p other) s = .next counted

/-- Only CORRECT and RE_ANCHOR are barred on the sequencer port; the metrology port may issue SNAPSHOT,
CORRECT, RE_ANCHOR, READ_ROBOT, READ_LENS, PORT_STATUS, SET_MASK and READ_CAUSE, and no other. A request
on a port that may not issue it is answered NOT_PERMITTED, and one whose payload cannot hold its
arguments BAD_ARG. A request whose turn it is is answered once, with its tag, its code and the overrun
latch that stood, and one that is refused changes nothing but its port's queue and response: EMPTY, which
finds nothing to return, apart. Where another request is at the head of the port's queue nothing changes,
and a head with a wrong length is answered BAD_FRAME, before any other check. BAD_FRAME and UNKNOWN only
take the request and answer it. That a command stands for the head of the queue where it has its tag and
code, and for one just arrived where the queue is empty, is the model's choice (log entries 10 and 11). -/
def Obligations.RequestsAreCheckedAndAnsweredOnce : Prop :=
  (∀ (s : State) (c : Instr) (r : Req) (code : Byte) (rights : Rights),
    requestOf c = some (r, code, rights) →
    (rights.allow .sequencer = true ↔ code ≠ 26 ∧ code ≠ 27) ∧
    (rights.allow .metrology = true ↔ code ∈ [8#8, 9#8, 25#8, 26#8, 27#8, 34#8, 35#8, 37#8]) ∧
    (rights.allow r.port = false →
      exec c s = .next (s.answered r code .notPermitted .none id)) ∧
    (rights.allow r.port = true → r.fits = false →
      exec c s = .next (s.answered r code .badArg .none id)) ∧
    (s.Takes r code → ∃ t status body, exec c s = .next t ∧
      (t.port r.port).response = some ⟨r.tag, code, status, (s.port r.port).overrun, body⟩ ∧
      (t.port r.port).queue = (s.port r.port).queue.tail ∧
      (status ≠ .ok → status ≠ .empty → t = s.answered r code status body id)) ∧
    ∀ q rest, (s.port r.port).queue = q :: rest →
      (q.tag ≠ r.tag ∨ q.code ≠ code → exec c s = .next s) ∧
      (q.tag = r.tag → q.code = code → q.badLength = true → exec c s = .next
        (s.modPort r.port fun x =>
          { x with queue := rest, response := some ⟨r.tag, code, .badFrame, x.overrun, .none⟩ }))) ∧
  ∀ (s : State) (p : PortId) (tag code : Byte),
    let answers (c : Instr) (status : Status) (rest : List QueuedRequest) := exec c s = .next
      (s.modPort p fun x =>
        { x with queue := rest, response := some ⟨tag, code, status, x.overrun, .none⟩ })
    let out := code = 0 ∨ 37 < code.toNat
    ((s.port p).queue = [] → answers (.badFrame p tag code) .badFrame [] ∧
      (out → answers (.unknown p tag code) .unknown [])) ∧
    (¬ out → exec (.unknown p tag code) s = .next s) ∧
    ∀ q rest, (s.port p).queue = q :: rest →
      (q.tag ≠ tag ∨ q.code ≠ code → exec (.badFrame p tag code) s = .next s ∧
        exec (.unknown p tag code) s = .next s) ∧
      (q.tag = tag → q.code = code →
        (q.badLength = true → answers (.badFrame p tag code) .badFrame rest ∧
          (out → answers (.unknown p tag code) .badFrame rest)) ∧
        (q.badLength = false → exec (.badFrame p tag code) s = .next s ∧
          (out → answers (.unknown p tag code) .unknown rest)))

/-- SET_MASK on either port, in every mode: with one enable for each notice of the port (nine, or one)
it replaces the port's mask, and the attention line then follows the new mask; with any other number it
is refused with BAD_ARG. Nothing else changes: a disabled notice stays latched. The attention line is
asserted exactly while a notice that stands is enabled; OUTCOME_PENDING stands while the outcome queue
is not empty, and SETTLED while the positions-changed flag is set and no robot is QUEUED, IN_LEG,
WAIT_LENS, HALTING or ANCHORING. -/
def Obligations.SetMaskReplacesTheMask : Prop :=
  (∀ (s : State) (r : Req) (enables : List Bool), r.fits = true →
     let count := if r.port = PortId.sequencer then 9 else 1
     (enables.length = count → s.Takes r 35 → ∃ t, exec (.setMask r enables) s = .next t ∧
       t = (s.answered r 35 .ok (.mask enables) fun t =>
         t.modPort r.port fun x => { x with mask := enables }) ∧
       t.standing r.port = s.standing r.port ∧
       t.attention r.port = ((s.standing r.port).zip enables).any fun x => x.1 && x.2) ∧
     (enables.length ≠ count →
       exec (.setMask r enables) s = .next (s.answered r 35 .badArg .none id))) ∧
  ∀ (s : State) (p : PortId),
    (s.attention p = true ↔ ∃ k : Nat, (s.standing p)[k]? = some true ∧ (s.port p).mask[k]? = some true) ∧
    ((s.standing .sequencer)[0]? = some true ↔ s.outcomes ≠ []) ∧
    ((s.standing .metrology)[0]? = some true ↔ s.posChanged = true ∧
      ∀ r ∈ s.robots, r.state ∉ [.queued, .inLeg, .waitLens, .halting, .anchoring])

/-- The reading requests that clear something clear that alone. PORT_STATUS answers the notices, mask,
overrun latch, error counter and requests queued, and clears the latched notices, the overrun latch and
the counter. READ_CAUSE answers the reset cause, which on the sequencer port becomes NONE. READ_FIELD
clears the four input latches; its elapsed time follows the timer's phase. READ_PEER clears the link's
two counters, its was-down flag, dispute latch and mismatch cause. READ_BUS clears both trip latches and
the peak. That a link whose neighbour sector is 0 shows the role CLIENT is the model's choice (log entry
35). -/
def Obligations.ReadsClearWhatTheyReport : Prop :=
  (∀ (s : State) (r : Req), r.fits = true →
     (∃ queued, queued = (dropTaken r.tag 34 (s.port r.port).queue).length ∧
       exec (.portStatus r) s = .next (s.answered r 34 .ok
         (.port (s.standing r.port) (s.port r.port).mask (s.port r.port).overrun (s.port r.port).errors
           queued)
         fun t => { t with
           notices := if r.port = PortId.sequencer then .reset else t.notices }.modPort r.port fun x =>
             { x with overrun := false, errors := 0 })) ∧
     exec (.readCause r) s = .next (s.answered r 37 .ok (.cause s.resetCause) fun t =>
       { t with resetCause := if r.port = PortId.sequencer then .none else t.resetCause })) ∧
  (∀ (s : State) (r : Req), sentTo .sequencer r →
     exec (.readField r) s = .next (s.answered r 24 .ok
       (.field s.mode s.inputs s.field (s.field.admitted - s.field.counts.total) s.timer s.timer.elapsed
         (s.targets.countP Option.isSome) s.params.deadlinePreset s.params.deadlineAction)
       fun t => { t with
         inputs := ⟨t.inputs.shutterOpen, t.inputs.stopAsserted, false, false, false, false⟩ })) ∧
  (∀ t : Timer,
     (t.phase = .stopped → t.elapsed = 0) ∧
     (t.phase = .down ∨ (t.phase = .held ∧ 0 < t.remaining) → t.elapsed = t.loaded - t.remaining) ∧
     (t.phase = .overtime ∨ (t.phase = .held ∧ t.remaining = 0) → t.elapsed = t.loaded + t.overtime)) ∧
  (∀ (s : State) (r : Req) (n : Nat), sentTo .sequencer r →
     (5 < n → exec (.readPeer r n) s = .next (s.answered r 29 .badArg .none id)) ∧
     ∀ l, n ≤ 5 → s.links[n]? = some l → exec (.readPeer r n) s = .next (s.answered r 29 .ok
       (.peer l.state
         (if s.map.isNone then none else if s.sectorNumber < s.neighbourNumber n then some .arbiter
           else if s.neighbourNumber n < s.sectorNumber then some .client else none)
         (s.neighbourNumber n) (s.borderList n).length (s.digest n) l.matchCount l.partnerAck
         l.lastIdent l.errors l.drops l.wasDown l.mismatch l.dispute l.lastDisputeCount
         l.lastDisputeLens (s.peerLensCounts n) l.transmit.length)
       fun t => t.modLink n fun k =>
         { k with errors := 0, drops := 0, wasDown := false, dispute := false, mismatch := .none })) ∧
  ∀ (s : State) (r : Req) (n : Nat), sentTo .sequencer r →
    (7 < n → exec (.readBus r n) s = .next (s.answered r 33 .badArg .none id)) ∧
    ∀ b, n ≤ 7 → s.buses[n]? = some b → exec (.readBus r n) s = .next (s.answered r 33 .ok
      (.bus b.switch b.lastOff b.blanking b.tripCurrent b.tripJabber b.peak b.latest b.overCount
        b.threshold b.tripCount b.protocol b.census b.addresses b.stats b.queueA.length
        b.queueB.length b.credit
        (s.robots.countP fun x => x.bus == n && (x.state == .inLeg || x.state == .halting))
        b.concurrencyLimit)
      fun t => t.modBus n fun x => { x with tripCurrent := false, tripJabber := false, peak := 0 })

/-! ### The plate map -/

/-- MAP_BEGIN in INIT with every bus OFF and good arguments opens a load with its header staged and
every index unwritten; with one out of range it is BAD_ARG. MAP_SITES stages each entry at its index,
the later of two for one index standing, or is refused with the first failing entry and field and stages
nothing. A MAP_END refused by a check names the check, site and direction, or gives the lens count, and
changes nothing. READ_MAP answers the installed map, the loader and up to eight site records, and
changes nothing. Which of several bad fields of an entry is named, and which of two repeated pairs, are the
model's choices (log entries 24 and 37). -/
def Obligations.MapLoadsAreStagedAndChecked : Prop :=
  (∀ (s : State) (r : Req) (sector count : Nat) (neighbours : List Nat), sentTo .sequencer r →
     s.mode = .init → (∀ b ∈ s.buses, b.switch = .off) → neighbours.length = 6 →
     let good := 1 ≤ sector ∧ sector ≤ 255 ∧ 1 ≤ count ∧ count ≤ 96 ∧
       ∀ n ∈ neighbours, n ≤ 255 ∧ n ≠ sector
     (good → exec (.mapBegin r sector count neighbours) s = .next (s.answered r 1 .ok .none fun t =>
       { t with loader := some ⟨sector, neighbours, List.replicate count none⟩ })) ∧
     (¬ good → exec (.mapBegin r sector count neighbours) s =
       .next (s.answered r 1 .badArg .none id))) ∧
  (∀ (s : State) (r : Req) (entries : List SiteArg) (st : Staging), sentTo .sequencer r →
     s.mode = .init → (∀ b ∈ s.buses, b.switch = .off) → s.loader = some st →
     1 ≤ entries.length → entries.length ≤ 8 →
     ((∀ e ∈ entries, siteFieldBad st.sites.length e = none) →
       ∃ st' : Staging,
         exec (.mapSites r entries) s = .next (s.answered r 2 .ok
           (.count (st'.sites.countP Option.isSome)) fun t => { t with loader := some st' }) ∧
         st'.sector = st.sector ∧ st'.neighbours = st.neighbours ∧
         st'.sites.length = st.sites.length ∧
         (∀ i : Nat, (∀ e ∈ entries, e.index ≠ i) → st'.sites[i]? = st.sites[i]?) ∧
         ∀ before e after, entries = before ++ e :: after → (∀ x ∈ after, x.index ≠ e.index) →
           st'.sites[e.index]? = some (some (SiteArg.record e))) ∧
     ∀ before e after field, entries = before ++ e :: after →
       (∀ x ∈ before, siteFieldBad st.sites.length x = none) →
       siteFieldBad st.sites.length e = some field →
       exec (.mapSites r entries) s =
         .next (s.answered r 2 .badArg (.siteRefused before.length field) id)) ∧
  ∀ (s : State) (r : Req), sentTo .sequencer r →
    (∀ st check site dir, s.mode = .init → (∀ b ∈ s.buses, b.switch = .off) → s.loader = some st →
      st.fault = some (check, site, dir) → exec (.mapEnd r) s =
        .next (s.answered r 3 .mapInvalid (.mapRefused check site dir) id)) ∧
    (∀ st, s.mode = .init → (∀ b ∈ s.buses, b.switch = .off) → s.loader = some st →
      st.fault = none → 384 < lensCountOf st.map.sites → exec (.mapEnd r) s =
        .next (s.answered r 3 .lensCapacity (.count (lensCountOf st.map.sites)) id)) ∧
    ∀ first count, count ≤ 8 → (count = 0 ∨ (s.map.isSome = true ∧ first + count ≤ s.siteCount)) →
      exec (.readMap r first count) s = .next (s.answered r 4 .ok
        (.map s.map.isSome s.sectorNumber s.siteCount ((List.range 6).map s.neighbourNumber)
          s.mapSummary s.loaderView (s.siteViews first count)) id)

/-- A site entry passes R10's checks exactly when its index is below the staged site count and every
field is in its range. MAP_END's checks 1 to 9 all pass exactly when every index is written and the
sites meet the nine conditions of R11's table: limits in order, beta to 11,520, LOCAL entries to other
sites of the map that name each other in opposite directions, no neighbour twice, no BORDER on a link
whose neighbour sector is 0, at most 12 sites a bus, and no serial twice. -/
def Obligations.MapValidationMeansTheNineChecks : Prop :=
  (∀ (count : Nat) (e : SiteArg),
     siteFieldBad count e = none ↔
       e.index < count ∧ e.bus ≤ 7 ∧ e.mount ≤ 23039 ∧ e.alphaMin ≤ 23039 ∧ e.alphaMax ≤ 23039 ∧
       e.backlashAlpha ≤ 255 ∧ e.backlashBeta ≤ 255 ∧ e.neighbours.length = 6 ∧
       ∀ n ∈ e.neighbours, n ≠ .other ∧ (∀ i, n = .site i → i ≤ 95) ∧
         ∀ link i, n = .border link i → link ≤ 5 ∧ i ≤ 95) ∧
  ∀ (sector : Nat) (neighbours : List Nat) (sites : List Site),
    (∀ x ∈ sites, x.neighbours.length = 6) →
    ((Staging.mk sector neighbours (sites.map some)).fault = none ↔
      (∀ (i : Nat) (x : Site), sites[i]? = some x → x.alphaMin ≤ x.alphaMax ∧ x.betaMax ≤ 11520 ∧
        (∀ d j, d < 6 → x.toward d = .site j → j ≠ i ∧ ∃ y, sites[j]? = some y ∧
          y.toward ((d + 3) % 6) = .site i) ∧
        (∀ d e, d < 6 → e < d → x.toward d ≠ .vacant → x.toward e ≠ x.toward d) ∧
        ∀ d link k, d < 6 → x.toward d = .border link k → neighbours.getD link 0 ≠ 0) ∧
      (∀ bus, sites.countP (fun x => x.bus == bus) ≤ 12) ∧ (sites.map (·.serial)).Nodup) ∧
    ∀ st : Staging, none ∈ st.sites →
      ∃ i : Nat, st.fault = some (.missing, i, none) ∧ st.sites[i]? = some none ∧
        ∀ j : Nat, j < i → st.sites[j]? ≠ some none

/-- The lens list derived from a map that passes MAP_END's checks has as many lenses as R4 counts: half
the LOCAL entries plus the BORDER entries. It stands in the canonical order of R5: LOCAL lenses by base
site and then direction, before the border lenses, which stand link by link and within a link by
arbiter-side and then client-side site index. -/
def Obligations.DerivedLensesAreCountedAndOrdered : Prop :=
  (∀ (st : Staging), st.fault = none →
     (∀ x ∈ st.map.sites, x.neighbours.length = 6 ∧
       ∀ n ∈ x.neighbours, ∀ link k, n = .border link k → link < 6) →
     st.map.derive.length = lensCountOf st.map.sites) ∧
  ∀ m : PlateMap,
    m.derive.map (·.lens) = m.localLenses.map (·.lens) ++
      ((List.range 6).map fun link => (m.borderLenses link).map (·.lens)).flatten ∧
    (m.localLenses.map (·.owners.head?)).Pairwise (fun a b => ∀ i d j e,
      a = some (i, d) → b = some (j, e) → i < j ∨ (i = j ∧ d < e)) ∧
    ∀ link, (m.borderLenses link).Pairwise fun x y =>
      x.lens.a.index < y.lens.a.index ∨
        (x.lens.a.index = y.lens.a.index ∧ x.lens.b.index ≤ y.lens.b.index)

/-- MAP_END installs a staged map that passes every check: the tables derived from it, one fresh robot
record per site, no targets, an empty inquiry slot and no census results, the loader idle, every link
that is not DISABLED in PROBING with the new IDENT queued; a link leaving UP counts a drop. The response
carries the map summary. Mode, field, timer, outcomes, inputs and parameters are kept. -/
def Obligations.MapEndInstallsTheStagedMap : Prop :=
  ∀ (s : State) (r : Req) (st : Staging), sentTo .sequencer r → s.mode = .init →
    (∀ b ∈ s.buses, b.switch = .off) → s.loader = some st → st.fault = none →
    lensCountOf st.map.sites ≤ 384 → s.Takes r 3 →
    ∃ t, exec (.mapEnd r) s = .next t ∧
      t = (s.answered r 3 .ok (.installed t.mapSummary) fun v =>
        { v.engine t with
          map := some st.map, loader := none, siteLens := st.map.siteLensMap
          digests := (List.range 6).map st.map.borderDigest
          targets := List.replicate st.map.sites.length none }) ∧
      t.lenses = st.map.derive.map (·.lens) ∧ t.robots = st.map.sites.map Robot.install ∧
      t.inquiry = .empty ∧ t.posChanged = false ∧ t.field = s.field ∧ t.timer = s.timer ∧
      t.outcomes = s.outcomes ∧ t.overflow = s.overflow ∧
      t.notices = { s.notices with peerChange := t.notices.peerChange } ∧
      t.buses = s.buses.map (fun b => { b with census := .reset }) ∧
      ∀ (n : Nat) (l : Link), s.links[n]? = some l → ∃ l', t.links[n]? = some l' ∧
        l'.errors = l.errors ∧
        (l.state = .disabled → l'.state = .disabled) ∧
        (l.state ≠ .disabled → l'.state = .probing ∧ l'.matchCount = 0 ∧ l'.lastIdent = none ∧
          l'.transmit = [t.identFrame n false]) ∧
        (l.state = .up → l'.wasDown = true ∧ l'.drops = if l.drops < 255 then l.drops + 1 else l.drops)

/-! ### Whole-machine rules -/

/-- The installed map and what is derived from it change by MAP_END and the two full resets alone. Only
OPEN, THAW and RESUME lead to the mode OPEN, with the shutter closed; only the stop assertion, a RESTART
with the stop asserted and a full reset that finds it asserted lead to HALTED; only FREEZE and the
shutter opening lead from OPEN to FROZEN. -/
def Obligations.OnlyTheseCommandsChangeMapAndMode : Prop :=
  (∀ (c : Instr) (s t : State), exec c s = .next t →
     (t.map = s.map ∧ t.siteLens = s.siteLens ∧ t.digests = s.digests ∧
       (t.lenses.map fun l => (l.a, l.b)) = (s.lenses.map fun l => (l.a, l.b)) ∧
       t.robots.length = s.robots.length) ∨
     (∃ r, c = .mapEnd r ∧ s.mode = .init) ∨ (∃ a b, c = .powerOn a b) ∨ ∃ a b, c = .resetLine a b) ∧
  ∀ (c : Instr) (s t : State), exec c s = .next t → t.mode ≠ s.mode →
    (t.mode = .opened → s.inputs.shutterOpen = false ∧
      ∃ r, c = .openSector r ∨ c = .thaw r ∨ c = .resume r) ∧
    (t.mode = .halted → (c = .stopAsserted ∨ (∃ r, c = .restart r ∧ s.inputs.stopAsserted = true) ∨
      ∃ a, c = .powerOn a true ∨ c = .resetLine a true)) ∧
    (∀ cause, t.mode = .frozen cause → s.mode = .opened ∧
      ((cause = .freeze ∧ ∃ r, c = .freeze r) ∨ (cause = .shutter ∧ c = .shutterOpened))) ∧
    (t.mode = .init → (∃ r, c = .restart r) ∨ ∃ a b, c = .powerOn a b ∨ c = .resetLine a b)

/-! ### Robot records -/

/-- A request that names a robot is refused with NO_MAP while no map is installed and with BAD_ARG at an
index not below the site count. ENABLE_SET and ENABLE_CLEAR set and clear the flag of every masked site,
leave the others, and answer the number enabled; a robot that is disabled while QUEUED or waiting has
its move ended DISABLED at once, and one IN_LEG or HALTING goes on. CLEAR_FAULT leaves a FAULTED robot
IDLE with no fault code, and is refused with NOT_READY for any other. -/
def Obligations.RobotFlagRequestsFollowTheirRules : Prop :=
  (∀ (s : State) (r : Req) (site a b item : Nat) (c : Instr) (code : Byte), r.fits = true →
     (c, code) ∈ [(.clearFault r site, 7), (.moveTo r site a b, 10), (.park r site, 11),
       (.home r site, 12), (.abort r site, 13), (.reAnchor r site a b, 27),
       (.inquire r site item, (30 : Byte))] →
     r.port = (if code = 27 then .metrology else .sequencer) →
     (s.map = none → exec c s = .next (s.answered r code .noMap .none id)) ∧
     (s.map ≠ none → s.siteCount ≤ site → exec c s = .next (s.answered r code .badArg .none id))) ∧
  (∀ (s : State) (r : Req) (mask : List Bool), sentTo .sequencer r →
     (s.map = none → exec (.enableSet r mask) s = .next (s.answered r 5 .noMap .none id)) ∧
     (s.map ≠ none → (∃ i : Nat, s.siteCount ≤ i ∧ mask[i]? = some true) →
       exec (.enableSet r mask) s = .next (s.answered r 5 .badArg .none id)) ∧
     (s.map ≠ none → (∀ i : Nat, s.siteCount ≤ i → mask[i]? ≠ some true) →
       ∃ robots, robots = s.robots.mapIdx (fun i x => if mask[i]? = some true then { x with enabled := true } else x) ∧
         exec (.enableSet r mask) s = .next (s.answered r 5 .ok
           (.count (robots.countP (·.enabled))) fun t => { t with robots := robots }))) ∧
  (∀ (s : State) (r : Req) (mask : List Bool), sentTo .sequencer r → s.map ≠ none →
     (∀ i : Nat, s.siteCount ≤ i → mask[i]? ≠ some true) → s.MovesSound → s.Takes r 6 →
     ∃ t, exec (.enableClear r mask) s = .next t ∧
       t = s.answered r 6 .ok (.count (t.robots.countP (·.enabled))) (·.engine t) ∧
       t.robots.length = s.robots.length ∧
       ∀ (i : Nat) (x : Robot), s.robots[i]? = some x → ∃ x', t.robots[i]? = some x' ∧
         x'.enabled = (x.enabled && !(mask[i]? == some true)) ∧
         (x.atRest = true → x.enabled = true → mask[i]? = some true → x.EndedAtRest x' .disabled) ∧
         (x.state = .inLeg ∨ x.state = .halting → x'.state = x.state ∧ x'.move.isSome = true) ∧
         (x.move = none → x' = { x with enabled := x'.enabled })) ∧
  ∀ (s : State) (r : Req) (site : Nat) (x : Site) (rob : Robot), sentTo .sequencer r →
    s.Holds site x rob →
    (rob.state = .faulted → exec (.clearFault r site) s = .next (s.answered r 7 .ok .none fun t =>
      t.modRobot site fun y => { y with state := .idle, fault := none })) ∧
    (rob.state ≠ .faulted →
      exec (.clearFault r site) s = .next (s.answered r 7 .notReady .none id))

/-- READ_ROBOT, READ_LENS and SNAPSHOT answer a run of records from the first index upward on either
port, and change nothing, but that a SNAPSHOT on the metrology port clears the positions-changed flag. A
count of 0, one above the rule's most (8, 16, 96), or a run past the end is refused with BAD_ARG. Field by
field: what READ_ROBOT shows of a robot, with its address and its holdings and pins read from the learned
address table and the lens table; what READ_LENS shows of a record of either form; what SNAPSHOT shows of
a site. -/
def Obligations.ReadingRequestsOnlyReport : Prop :=
  (∀ (s : State) (i : Nat) (x : Robot),
     let v := s.robotView i x
     let facing (f : Option Nat) := (x.believed = none → f = none) ∧
       ∀ y p, s.site? i = some y → x.believed = some p → f = some (y.sector p.alpha)
     let lowest (f : Option Nat) (own : Nat → Prop) := ∀ k, f = some k ↔ own k ∧ ∀ j, own j → k ≤ j
     let part (claim : ClaimState) (own : Decided → Party → Prop) (k : Nat) := ∃ l p,
       s.lenses[k]? = some l ∧ l.partyOf i = some p ∧
         ((∃ d, l.body = .decided d ∧ own d p) ∨ ∃ c, l.body = .client c ∧ c.claim = claim)
     v.site = i ∧ v.serial = x.serial ∧ v.bus = x.bus ∧ v.state = x.state ∧ v.history = x.history ∧
     v.enabled = x.enabled ∧ v.fault = x.fault ∧ v.alpha = x.alpha ∧ v.beta = x.beta ∧
     facing v.facing ∧ v.epoch = x.epoch ∧ v.last = x.last ∧
     v.move = x.move.map (fun m => (m.kind, (m.legs[m.index]?).map (·.kind), m.index, m.legs.length)) ∧
     v.dirAlpha = x.dirAlpha ∧ v.dirBeta = x.dirBeta ∧ v.iterations = x.iterations ∧
     v.converged = x.converged ∧ v.notConverged = x.notConverged ∧ v.failures = x.failures ∧
     v.lastOutcome = x.lastOutcome ∧
     (s.robots[i]? = some x → lowest v.address fun a =>
       ∃ b e, s.buses[x.bus]? = some b ∧ b.addresses[a]? = some (some e) ∧ e.site = some i) ∧
     lowest v.occupied (part .heldOccupied fun d p => d.holder = some (p, .occupied)) ∧
     lowest v.reserved (part .heldReserved fun d p => d.holder = some (p, .reserved)) ∧
     v.pins.Pairwise (· < ·) ∧ (∀ k, k ∈ v.pins ↔ part .pinned (fun d p => d.pinned p = true) k) ∧
     let w := s.snapshotOf i x
     w.site = i ∧ w.state = x.state ∧ w.position = x.believed ∧ facing w.facing ∧ w.epoch = x.epoch ∧
       w.converged = x.converged ∧ w.notConverged = x.notConverged) ∧
  (∀ (s : State) (i : Nat) (l : Lens), s.lenses[i]? = some l → ∃ v, s.lensView i = some v ∧
     v.index = i ∧ v.a = l.a ∧ v.b = l.b ∧
     (∀ d, l.body = .decided d →
       v.role = (if l.link.isSome then .arbiter else .within) ∧
       ∃ pins remaining, v.record = .decided d.state (d.holder.map fun h => (l.side h.1, h.2)) pins
           (d.waiter.map l.side) remaining ∧
         pins = (if d.pinned .a then [l.side .a] else []) ++ (if d.pinned .b then [l.side .b] else []) ∧
         remaining = d.deadline.map (fun t => t - s.now)) ∧
     ∀ c, l.body = .client c → v.role = .client ∧
       v.record = .client c.claim (c.deadline.map fun t => t - s.now) c.lastRefusal) ∧
  ∀ (s : State) (r : Req) (first count : Nat), r.fits = true → s.map ≠ none →
    let run := List.range' first count
    (1 ≤ count → count ≤ 8 → first + count ≤ s.siteCount →
      exec (.readRobot r first count) s = .next (s.answered r 8 .ok
        (.robots (run.filterMap fun i => (s.robots[i]?).map fun x => s.robotView i x)) id)) ∧
    (1 ≤ count → count ≤ 16 → first + count ≤ s.lenses.length →
      exec (.readLens r first count) s = .next (s.answered r 9 .ok
        (.lenses (run.filterMap s.lensView)) id)) ∧
    (1 ≤ count → count ≤ 96 → first + count ≤ s.siteCount →
      exec (.snapshot r first count) s = .next (s.answered r 25 .ok
        (.snapshot (run.filterMap fun i => (s.robots[i]?).map fun x => s.snapshotOf i x) s.posChanged
          s.mode)
        fun t => { t with posChanged := if r.port = PortId.metrology then false else t.posChanged })) ∧
    (count = 0 ∨ 8 < count ∨ s.siteCount < first + count →
      exec (.readRobot r first count) s = .next (s.answered r 8 .badArg .none id)) ∧
    (count = 0 ∨ 16 < count ∨ s.lenses.length < first + count →
      exec (.readLens r first count) s = .next (s.answered r 9 .badArg .none id)) ∧
    (count = 0 ∨ 96 < count ∨ s.siteCount < first + count →
      exec (.snapshot r first count) s = .next (s.answered r 25 .badArg .none id))

/-! ### Moves -/

/-- A plan takes the arm to its target: a TRIM alone where the TRIM condition holds, and otherwise one
to three of STOW, SLEW and DEPLOY in that order, alpha moving only while beta is at or below the stow
angle. The TRIM condition holds exactly when both betas are above the stow angle, both ends face the
same sector and the alphas differ by less than 3,840; the arm then faces that one sector at every alpha
it passes through. The facing sectors are the ranges of R34's table. -/
def Obligations.LegPlansKeepTheArmSafe : Prop :=
  (∀ f k : Nat, f < 23040 → k < 6 →
     (facingSector f = k ↔
       (k = 0 ∧ (f < 1920 ∨ 21120 ≤ f)) ∨
       (1 ≤ k ∧ 1920 + 3840 * (k - 1) ≤ f ∧ f < 1920 + 3840 * k))) ∧
  (∀ (stow : Nat) (x : Site) (p q : Pos), x.mount ≤ 23039 →
     (trimCondition stow x p q = true ↔
       stow < p.beta ∧ stow < q.beta ∧ x.sector p.alpha = x.sector q.alpha ∧
         (q.alpha - p.alpha) + (p.alpha - q.alpha) < 3840) ∧
     (trimCondition stow x p q = true → ∀ a b, min p.alpha q.alpha ≤ a → a ≤ max p.alpha q.alpha →
       min p.beta q.beta ≤ b → x.sector a = x.sector p.alpha ∧ extended stow b = true)) ∧
  ∀ (stow : Nat) (x : Site) (p q : Pos), q ≠ p →
    let legs := planLegs stow x p q
    let after (l : List Leg) : Pos :=
      l.foldl (fun (u : Pos) g => ⟨g.alpha.getD u.alpha, g.beta.getD u.beta⟩) p
    after legs = q ∧ 1 ≤ legs.length ∧
      (trimCondition stow x p q = true → legs = [⟨.trim, some q.alpha, some q.beta⟩]) ∧
      (trimCondition stow x p q = false →
        (legs.map (·.kind)).Sublist [.stow, .slew, .deploy] ∧
        ∀ done leg rest, legs = done ++ leg :: rest →
          (leg.alpha.isSome = true → leg.kind = .slew ∧ (after done).beta ≤ stow) ∧
          (leg.kind = .deploy → (after done).beta ≤ stow ∧ rest = []) ∧
          (leg.kind = .stow → (after (done ++ [leg])).beta ≤ stow))

/-- A MOVE_TO of an enabled IDLE robot with no move, in OPEN, to a position within the site's limits: at
the believed position it ends DONE at once with its outcome record, and the robot's iteration count
returns to 0; elsewhere, where the plan has no DEPLOY or faces an OPEN direction, the robot enters
QUEUED with its plan and joins the class A queue. -/
def Obligations.MoveToEndsDoneOrIsQueued : Prop :=
  ∀ (s : State) (r : Req) (site : Nat) (x : Site) (rob : Robot) (p q : Pos), sentTo .sequencer r →
    s.Holds site x rob → s.mode = .opened → rob.enabled = true → rob.state = .idle →
    rob.move = none → rob.believed = some p → x.allows q.alpha q.beta = true → s.NoDenialWaits →
    let legs := planLegs s.params.stowAngle x p q
    (q = p → s.outcomes.length < 128 →
      exec (.moveTo r site q.alpha q.beta) s = .next (s.answered r 10 .ok (.ended .done none) fun t =>
        { t.modRobot site fun y =>
            { y with lastOutcome := some .done, iterations := 0, converged := false,
                     notConverged := false } with
          outcomes := t.outcomes ++ [⟨site, .moveTo, .done, some p, rob.epoch, false, none⟩] })) ∧
    (q = p → 128 ≤ s.outcomes.length →
      exec (.moveTo r site q.alpha q.beta) s = .next (s.answered r 10 .ok (.ended .done none) fun t =>
        { t.modRobot site fun y =>
            { y with lastOutcome := some .done, iterations := 0, converged := false,
                     notConverged := false } with
          overflow := true
          notices := { t.notices with
            outcomeOverflow := t.notices.outcomeOverflow || !t.overflow } })) ∧
    (q ≠ p → s.planTarget site x legs q = none →
      exec (.moveTo r site q.alpha q.beta) s = .next (s.answered r 10 .ok (.admitted legs.length) fun t =>
        (t.modRobot site fun y =>
          { y with state := .queued, pollTime := none,
                   move := some (Move.fresh .moveTo (some q) legs none false) }).modBus rob.bus
          fun b => { b with queueA := b.queueA ++ [site] }))

/-- A MOVE_TO whose plan has a DEPLOY into a LOCAL or ARBITER lens claims it, but for the lens the robot
holds OCCUPIED, which it keeps. A FREE lens is granted: the robot's side holds it RESERVED and the robot
is QUEUED. Behind a remote holder, or behind a local
robot that holds it OCCUPIED and moves elsewhere, the robot's side becomes the waiter; a plan that
begins with its DEPLOY then waits in WAIT_LENS until a deadline, and any other is QUEUED with no
deadline. A CLIENT lens whose link is UP and whose claim state is NONE sends CLAIM and is left CLAIMING.
-/
def Obligations.MoveToClaimsItsTargetLens : Prop :=
  (∀ (s : State) (r : Req) (site : Nat) (x : Site) (rob : Robot) (p q : Pos) (i : Nat) (l : Lens)
     (d : Decided) (me : Party), sentTo .sequencer r →
     s.Holds site x rob → s.mode = .opened → rob.enabled = true → rob.state = .idle →
     rob.move = none → rob.believed = some p → x.allows q.alpha q.beta = true → s.NoDenialWaits →
     q ≠ p → s.planTarget site x (planLegs s.params.stowAngle x p q) q = some i →
     s.lenses[i]? = some l → l.body = .decided d → l.partyOf site = some me →
     let legs := planLegs s.params.stowAngle x p q
     let move := Move.fresh .moveTo (some q) legs (some i) false
     let queued (t : State) := (t.modRobot site fun y =>
       { y with state := .queued, pollTime := none, move := some move }).modBus rob.bus
         fun b => { b with queueA := b.queueA ++ [site] }
     (d.state = .free → exec (.moveTo r site q.alpha q.beta) s =
       .next (s.answered r 10 .ok (.admitted legs.length) fun t =>
         (queued t).modLens i fun _ => .decided { Decided.empty with holder := some (me, .reserved) })) ∧
     (s.occupiedLens site = some i → (legs.head?).map (·.kind) ≠ some .deploy →
       exec (.moveTo r site q.alpha q.beta) s =
         .next (s.answered r 10 .ok (.admitted legs.length) queued)) ∧
     ∀ kind, d.holder = some (me.other, kind) →
       ((l.side me.other).link.isSome = true ∨ (kind = .occupied ∧ ∃ j y m,
         l.side me.other = .site j ∧ s.robots[j]? = some y ∧ y.move = some m ∧
           m.targetLens ≠ some i)) →
       ((legs.head?).map (·.kind) ≠ some .deploy → exec (.moveTo r site q.alpha q.beta) s =
         .next (s.answered r 10 .ok (.admitted legs.length) fun t =>
           (queued t).modLens i fun _ => .decided { d with waiter := some me, deadline := none })) ∧
       ((legs.head?).map (·.kind) = some .deploy → exec (.moveTo r site q.alpha q.beta) s =
         .next (s.answered r 10 .ok (.admitted legs.length) fun t =>
           (t.modRobot site fun y =>
             { y with state := .waitLens, pollTime := none, move := some move }).modLens i fun _ =>
               .decided { d with
                 waiter := some me
                 deadline := some (s.now + 1000 * s.params.lensWaitLimit) }))) ∧
  ∀ (s : State) (r : Req) (site : Nat) (x : Site) (rob : Robot) (p q : Pos) (i n : Nat) (l : Lens)
    (c : Client) (k : Link), sentTo .sequencer r →
    s.Holds site x rob → s.mode = .opened → rob.enabled = true → rob.state = .idle →
    rob.move = none → rob.believed = some p → x.allows q.alpha q.beta = true → s.NoDenialWaits →
    q ≠ p → s.planTarget site x (planLegs s.params.stowAngle x p q) q = some i →
    s.lenses[i]? = some l → l.body = .client c → c.claim = .none → l.link = some n →
    s.links[n]? = some k → k.state = .up → k.transmit.length < 64 →
    ((planLegs s.params.stowAngle x p q).head?).map (·.kind) ≠ some .deploy →
    let legs := planLegs s.params.stowAngle x p q
    exec (.moveTo r site q.alpha q.beta) s =
      .next (s.answered r 10 .ok (.admitted legs.length) fun t =>
        (((t.modRobot site fun y =>
          { y with state := .queued, pollTime := none,
                   move := some (Move.fresh .moveTo (some q) legs (some i) false) }).modBus rob.bus
            fun b => { b with queueA := b.queueA ++ [site] }).modLens i fun _ =>
              .client { c with claim := .claiming, deadline := none }).modLink n fun u =>
                { u with
                  transmit := u.transmit ++
                    [⟨s.sectorNumber, u.sendSeq, .border .claim (s.lensName n i)⟩]
                  sendSeq := (u.sendSeq + 1) % 256 })

/-- A MOVE_TO whose claim is denied ends DENIED at once with its reason and an outcome record, and the
robot stays IDLE: PINNED for a pinned lens; TAKEN for a lens a local robot holds RESERVED, or OCCUPIED
with no move or with a move to that same lens; LINK_DOWN for a CLIENT lens whose link is not UP. -/
def Obligations.MoveToIsDeniedAHeldLens : Prop :=
  ∀ (s : State) (r : Req) (site : Nat) (x : Site) (rob : Robot) (p q : Pos) (i : Nat) (l : Lens)
    (reason : DenyReason), sentTo .sequencer r →
    s.Holds site x rob → s.mode = .opened → rob.enabled = true → rob.state = .idle →
    rob.move = none → rob.believed = some p → x.allows q.alpha q.beta = true → s.NoDenialWaits →
    q ≠ p → s.planTarget site x (planLegs s.params.stowAngle x p q) q = some i →
    s.lenses[i]? = some l → l.partyOf site ≠ none → s.outcomes.length < 128 →
    ((∃ d, l.body = .decided d ∧ d.state = .pinned ∧ reason = .pinned) ∨
      (∃ d kind j y me, l.body = .decided d ∧ l.partyOf site = some me ∧
        d.holder = some (me.other, kind) ∧ l.side me.other = .site j ∧ s.robots[j]? = some y ∧
        (kind = .reserved ∨ ∀ m, y.move = some m → m.targetLens = some i) ∧ reason = .taken) ∨
      ∃ c n k, l.body = .client c ∧ c.claim ≠ .heldOccupied ∧ l.link = some n ∧
        s.links[n]? = some k ∧ k.state ≠ .up ∧ reason = .linkDown) →
    exec (.moveTo r site q.alpha q.beta) s =
      .next (s.answered r 10 .ok (.ended .denied (some reason)) fun t =>
        { t.modRobot site fun y => { y with lastOutcome := some .denied } with
          outcomes := t.outcomes ++
            [⟨site, .moveTo, .denied, some p, rob.epoch, false, some reason⟩] })

/-- PARK takes the robot's beta to the lowest of the park beta, the stow angle and the site's beta
maximum with one STOW leg and no claim, or ends DONE where beta is there already. HOME of an enabled
robot with no move that is IDLE, FAULTED or LOST(POWER), in OPEN: no belief, no fault code, a move of
the legs FOLD and SEEK, and the robot QUEUED in its bus's class A queue. In any other state it is
refused: NOT_READY when disabled, then BUSY with a move, then NOT_READY. -/
def Obligations.ParkAndHomeMoveFromTheirStates : Prop :=
  (∀ (s : State) (r : Req) (site : Nat) (x : Site) (rob : Robot) (p : Pos), sentTo .sequencer r →
     s.Holds site x rob → s.mode = .opened → rob.enabled = true → rob.state = .idle →
     rob.move = none → rob.believed = some p → s.NoDenialWaits →
     let beta := min (min s.params.parkBeta s.params.stowAngle) x.betaMax
     extended s.params.stowAngle beta = false ∧
     (beta ≠ p.beta → exec (.park r site) s = .next (s.answered r 11 .ok (.admitted 1) fun t =>
       (t.modRobot site fun y =>
         { y with state := .queued, pollTime := none,
                  move := some (Move.fresh .park (some ⟨p.alpha, beta⟩) [⟨.stow, none, some beta⟩] none
                    false) }).modBus rob.bus fun b => { b with queueA := b.queueA ++ [site] })) ∧
     (beta = p.beta → s.outcomes.length < 128 →
       exec (.park r site) s = .next (s.answered r 11 .ok (.ended .done none) fun t =>
         { t.modRobot site fun y => { y with lastOutcome := some .done } with
           outcomes := t.outcomes ++ [⟨site, .park, .done, some p, rob.epoch, false, none⟩] }))) ∧
  ∀ (s : State) (r : Req) (site : Nat) (x : Site) (rob : Robot), sentTo .sequencer r →
    s.Holds site x rob → s.mode = .opened →
    (rob.enabled = true → rob.move = none →
      (rob.state = .idle ∨ rob.state = .faulted ∨ rob.state = .lost .power) →
      exec (.home r site) s = .next (s.answered r 12 .ok (.admitted 2) fun t =>
        (t.modRobot site fun y =>
          { y with alpha := none, beta := none, fault := none, state := .queued, pollTime := none,
                   move := some (Move.fresh .home none [⟨.fold, none, none⟩, ⟨.seek, none, none⟩] none
                     false) }).modBus rob.bus fun b => { b with queueA := b.queueA ++ [site] })) ∧
    (rob.enabled = false → exec (.home r site) s = .next (s.answered r 12 .notReady .none id)) ∧
    (rob.enabled = true → rob.move ≠ none →
      exec (.home r site) s = .next (s.answered r 12 .busy .none id)) ∧
    (rob.enabled = true → rob.move = none → rob.state ≠ .idle → rob.state ≠ .faulted →
      rob.state ≠ .lost .power → exec (.home r site) s = .next (s.answered r 12 .notReady .none id))

/-- MOVE_TO, PARK and CONFIGURE are refused with FROZEN in FROZEN and with WRONG_MODE in INIT and
HALTED, and HOME likewise; in OPEN a MOVE_TO or PARK of a disabled robot, or of one with no move that is
not IDLE, is refused with NOT_READY, and of an enabled one with a move with BUSY. -/
def Obligations.MovesAreRefusedByModeAndRobot : Prop :=
  ∀ (s : State) (r : Req) (site number : Nat) (x : Site) (rob : Robot) (q : Pos) (c : Instr)
    (code : Byte), sentTo .sequencer r → s.Holds site x rob → x.allows q.alpha q.beta = true →
    1 ≤ number →
    ((c, code) ∈ [(.moveTo r site q.alpha q.beta, 10), (.park r site, 11), (.home r site, 12),
        (.configure r number, (23 : Byte))] →
      (∀ cause, s.mode = .frozen cause → exec c s = .next (s.answered r code .frozen .none id)) ∧
      (s.mode = .init ∨ s.mode = .halted →
        exec c s = .next (s.answered r code .wrongMode .none id))) ∧
    ((c, code) ∈ [(.moveTo r site q.alpha q.beta, 10), (.park r site, (11 : Byte))] → s.mode = .opened →
      (rob.enabled = false ∨ (rob.move = none ∧ rob.state ≠ .idle) →
        exec c s = .next (s.answered r code .notReady .none id)) ∧
      (rob.enabled = true → rob.move ≠ none →
        exec c s = .next (s.answered r code .busy .none id)))

/-- ABORT by the robot's state: QUEUED or WAIT_LENS, the move ends ABORTED at once, with its record among
those of the event, which is alone where the robot has no part in a lens; IN_LEG, an addressed
HALT is queued once and the robot is HALTING with cause ABORT; HALTING, no effect; no move, NO_MOVE.
ABORT_FIELD treats every FIELD move as ABORT does and answers how many it ended at once and how many
robots it sent into HALTING; with no FIELD move it is refused with NO_MOVE. A robot in a leg of another
kind of move stays in its leg, and robots that are HALTING or have no move keep their records. -/
def Obligations.AbortsActByTheRobotsState : Prop :=
  (∀ (s : State) (r : Req) (site : Nat) (x : Site) (rob : Robot), sentTo .sequencer r →
     s.Holds site x rob → s.NoDenialWaits →
     (rob.move = none → exec (.abort r site) s = .next (s.answered r 13 .noMove .none id)) ∧
     (∀ m, rob.move = some m →
       (rob.state = .halting → exec (.abort r site) s = .next (s.answered r 13 .ok .none id)) ∧
       (rob.state = .inLeg → exec (.abort r site) s = .next (s.answered r 13 .ok .none fun t =>
         (t.modBus rob.bus fun b =>
           if b.haltAddressed.contains site then b
           else { b with haltAddressed := b.haltAddressed ++ [site] }).modRobot site fun y =>
             { y with
               state := .halting
               move := some { m with
                 haltCause := some .abort, haltTime := some s.now, dispatch := none } })) ∧
       (rob.atRest = true → s.Takes r 13 → ∃ t, exec (.abort r site) s = .next t ∧
         t = s.answered r 13 .ok .none (·.engine t) ∧
         (∃ y, t.robots[site]? = some y ∧ rob.EndedAtRest y .aborted) ∧
         (t.outcomes.length < 128 → ∃ final,
           ⟨site, m.kind, .aborted, final, rob.epoch, m.limited, none⟩ ∈
             t.outcomes.drop s.outcomes.length) ∧
         (s.outcomes.length < 128 → s.Partless site → ∃ final, t.outcomes =
           s.outcomes ++ [⟨site, m.kind, .aborted, final, rob.epoch, m.limited, none⟩])))) ∧
  ∀ (s : State) (r : Req), sentTo .sequencer r → s.MovesSound → s.NoDenialWaits →
    let inField (x : Robot) := x.move.any fun m => m.kind == .field
    ((∀ x ∈ s.robots, inField x = false) →
      exec (.abortField r) s = .next (s.answered r 14 .noMove .none id)) ∧
    ((∃ x ∈ s.robots, inField x = true) → s.Takes r 14 → ∃ t, exec (.abortField r) s = .next t ∧
      t = s.answered r 14 .ok
        (.stopped (s.robots.countP fun x => inField x && x.atRest)
          (s.robots.countP fun x => inField x && x.state == .inLeg)) (·.engine t) ∧
      ∀ (i : Nat) (x : Robot), s.robots[i]? = some x → ∃ x', t.robots[i]? = some x' ∧
        (inField x = true → x.atRest = true → x.EndedAtRest x' .aborted) ∧
        (inField x = true → x.state = .inLeg → x.HaltedFrom x' .abort s.now ∧
          ∀ b, s.buses[x.bus]? = some b → ∃ b', t.buses[x.bus]? = some b' ∧ i ∈ b'.haltAddressed) ∧
        (x.state = .halting ∨ x.move = none → x' = x) ∧
        (inField x = false → x.state = .inLeg → x'.state = .inLeg))

/-- READ_OUTCOMES with a count of 1 to 16 removes that many records from the head of the queue, or all
it holds, and answers them oldest first with the number left and the overflow latch; a queue left empty
clears the latch and the notice OUTCOME_OVERFLOW. An empty queue is answered EMPTY and clears them too.
A count of 0 or above 16 is refused with BAD_ARG. -/
def Obligations.ReadOutcomesDrainsTheQueue : Prop :=
  ∀ (s : State) (r : Req) (count : Nat), sentTo .sequencer r →
    let clear (t : State) : State :=
      { t with overflow := false, notices := { t.notices with outcomeOverflow := false } }
    (count = 0 ∨ 16 < count →
      exec (.readOutcomes r count) s = .next (s.answered r 15 .badArg .none id)) ∧
    (1 ≤ count → count ≤ 16 →
      (s.outcomes = [] → exec (.readOutcomes r count) s =
        .next (s.answered r 15 .empty (.outcomes [] 0 s.overflow) clear)) ∧
      (s.outcomes ≠ [] → s.outcomes.length ≤ count → exec (.readOutcomes r count) s =
        .next (s.answered r 15 .ok (.outcomes s.outcomes 0 s.overflow)
          fun t => clear { t with outcomes := [] })) ∧
      (count < s.outcomes.length → exec (.readOutcomes r count) s =
        .next (s.answered r 15 .ok
          (.outcomes (s.outcomes.take count) (s.outcomes.length - count) s.overflow)
          fun t => { t with outcomes := t.outcomes.drop count })))

/-! ### Sector modes and fields -/

/-- The four mode requests, row by row: OPEN from INIT with a map and the shutter closed, FREEZE from
OPEN with no move, THAW from FROZEN and RESUME from HALTED, each to its mode with MODE_CHANGE latched
and nothing else changed; the request for the mode it finds is OK with no change; every other row
refuses. -/
def Obligations.ModeRequestsFollowTheirTables : Prop :=
  ∀ (s : State) (r : Req), sentTo .sequencer r →
    let goes (c : Instr) (code : Byte) (m : Mode) := exec c s =
      .next (s.answered r code .ok .none fun t =>
        { t with mode := m, notices := { t.notices with modeChange := true } })
    let stays (c : Instr) (code : Byte) (st : Status) :=
      exec c s = .next (s.answered r code st .none id)
    (s.mode = .opened → stays (.openSector r) 16 .ok) ∧
    ((∃ c, s.mode = .frozen c) ∨ s.mode = .halted → stays (.openSector r) 16 .wrongMode) ∧
    (s.mode = .init → s.map = none → stays (.openSector r) 16 .noMap) ∧
    (s.mode = .init → s.map ≠ none → s.inputs.shutterOpen = true →
      stays (.openSector r) 16 .shutter) ∧
    (s.mode = .init → s.map ≠ none → s.inputs.shutterOpen = false →
      goes (.openSector r) 16 .opened) ∧
    (s.mode = .opened → (∃ x ∈ s.robots, x.move ≠ none) → stays (.freeze r) 17 .busy) ∧
    (s.mode = .opened → (∀ x ∈ s.robots, x.move = none) → goes (.freeze r) 17 (.frozen .freeze)) ∧
    ((∃ c, s.mode = .frozen c) → stays (.freeze r) 17 .ok) ∧
    (s.mode = .init ∨ s.mode = .halted → stays (.freeze r) 17 .wrongMode) ∧
    ((∃ c, s.mode = .frozen c) → s.inputs.shutterOpen = true → stays (.thaw r) 18 .shutter) ∧
    ((∃ c, s.mode = .frozen c) → s.inputs.shutterOpen = false → goes (.thaw r) 18 .opened) ∧
    (s.mode = .opened → stays (.thaw r) 18 .ok) ∧
    (s.mode = .init ∨ s.mode = .halted → stays (.thaw r) 18 .wrongMode) ∧
    (s.mode ≠ .halted → stays (.resume r) 19 .wrongMode) ∧
    (s.mode = .halted → s.inputs.stopAsserted = true → stays (.resume r) 19 .notReady) ∧
    (s.mode = .halted → s.inputs.stopAsserted = false → s.map = none → stays (.resume r) 19 .noMap) ∧
    (s.mode = .halted → s.inputs.stopAsserted = false → s.map ≠ none →
      s.inputs.shutterOpen = true → stays (.resume r) 19 .shutter) ∧
    (s.mode = .halted → s.inputs.stopAsserted = false → s.map ≠ none →
      s.inputs.shutterOpen = false → goes (.resume r) 19 .opened)

/-- RESTART ends every QUEUED or waiting move with no outcome, sends every robot in a leg into HALTING
for RESTART with a broadcast HALT on its bus, keeps those HALTING with that cause, empties the dispatch
queues, outcome queue, field record, timer, inquiry slot and loader, sets the credits, the reset cause
and the mode, and answers the two counts. Map, targets, inputs, parameters and latched notices are kept.
-/
def Obligations.RestartAbandonsWhatWasInHand : Prop :=
  ∀ (s : State) (r : Req), sentTo .sequencer r → s.MovesSound → s.NoDenialWaits → s.Takes r 20 →
    ∃ t, exec (.restart r) s = .next t ∧
      t = (s.answered r 20 .ok
        (.stopped (s.robots.countP Robot.atRest)
          (s.robots.countP fun x => x.state == .inLeg || x.state == .halting)) fun u =>
        { u with
          robots := t.robots, lenses := t.lenses, links := t.links, buses := t.buses
          outcomes := [], overflow := false, field := .reset, timer := .reset, inquiry := .empty
          loader := none, resetCause := .restart
          mode := if s.inputs.stopAsserted then .halted else .init
          notices := { u.notices with
            peerChange := t.notices.peerChange
            modeChange := u.notices.modeChange ||
              !(s.mode == if s.inputs.stopAsserted then .halted else .init) } }) ∧
      (∀ (n : Nat) (b : Bus), s.buses[n]? = some b → ∃ b', t.buses[n]? = some b' ∧
        b'.queueA = [] ∧ b'.queueB = [] ∧ b'.credit = (s.params.share.credit).getD b.credit ∧
        b'.switch = b.switch ∧ b'.protocol = b.protocol ∧ b'.addresses = b.addresses ∧
        b'.census = b.census ∧ b'.stats = b.stats) ∧
      ∀ (i : Nat) (x : Robot), s.robots[i]? = some x → ∃ x', t.robots[i]? = some x' ∧
        x'.lastOutcome = x.lastOutcome ∧ x'.epoch = x.epoch ∧ x'.enabled = x.enabled ∧
        (x.atRest = true → x'.move = none ∧
          if x.move.any Move.isHome then ∃ cause, x'.state = .lost cause else x'.state = .idle) ∧
        (x.state = .inLeg → x.HaltedFrom x' .restart s.now ∧
          ∀ b, s.buses[x.bus]? = some b → ∃ b', t.buses[x.bus]? = some b' ∧ b'.haltBroadcast = true) ∧
        (x.state = .halting → x'.state = .halting ∧ ∃ m', x'.move = some m' ∧
          m'.haltCause = some .restart ∧ m'.haltTime = x.move.bind (·.haltTime)) ∧
        (x.move = none → x' = x)

/-- LOAD_TARGETS of 1 to 64 entries writes each entry whose site is on the map and whose target lies
within the site's limits, the later of two for one site standing, and returns those sites' iteration
counts to 0; it answers each entry's status and the number written. No entry, or more than 64, is
refused. -/
def Obligations.LoadTargetsWritesTheGoodEntries : Prop :=
  ∀ (s : State) (r : Req) (entries : List TargetArg), sentTo .sequencer r → s.map ≠ none →
    s.targets.length = s.siteCount →
    let good (e : TargetArg) := ∃ x, s.site? e.site = some x ∧ x.allows e.alpha e.beta = true
    (entries = [] ∨ 64 < entries.length →
      exec (.loadTargets r entries) s = .next (s.answered r 21 .badArg .none id)) ∧
    (entries ≠ [] → entries.length ≤ 64 → s.Takes r 21 → ∃ t statuses, exec (.loadTargets r entries) s = .next t ∧
      t = (s.answered r 21 .ok (.targets statuses (statuses.countP (· == .ok))) fun u =>
        { u with targets := t.targets, robots := t.robots }) ∧
      statuses.length = entries.length ∧
      (∀ (k : Nat) (e : TargetArg), entries[k]? = some e →
        (good e → statuses[k]? = some .ok) ∧ (¬ good e → statuses[k]? = some .badArg)) ∧
      (∀ (i : Nat), (∀ e ∈ entries, e.site = i → ¬ good e) →
        t.targets[i]? = s.targets[i]? ∧ t.robots[i]? = s.robots[i]?) ∧
      (∀ earlier e later, entries = earlier ++ e :: later → good e →
        (∀ x ∈ later, x.site = e.site → ¬ good x) →
        t.targets[e.site]? = some (some ⟨e.alpha, e.beta⟩) ∧
        t.robots[e.site]? = (s.robots[e.site]?).map fun x =>
          { x with iterations := 0, converged := false, notConverged := false }))

/-- CLEAR_TARGETS makes every site's entry absent and answers the number that were present, touching
nothing else; with no map it is refused with NO_MAP. A CONFIGURE taken after it counts every site
not-attempted and admits none. -/
def Obligations.ClearTargetsEmptiesTheTable : Prop :=
  ∀ (s : State) (r : Req), sentTo .sequencer r →
    (s.map = none → exec (.clearTargets r) s = .next (s.answered r 22 .noMap .none id)) ∧
    (s.map ≠ none → s.Takes r 22 → ∃ t, exec (.clearTargets r) s = .next t ∧
      t = (s.answered r 22 .ok (.count (s.targets.countP Option.isSome)) fun u =>
        { u with targets := List.replicate s.targets.length none }) ∧
      ∀ number, 1 ≤ number → s.mode = .opened → (∀ x ∈ s.robots, x.move = none) → t.Takes r 23 →
        ∃ u, exec (.configure r number) t = .next u ∧ u.field.number = number ∧
          u.field.admitted = 0 ∧ u.field.already = 0 ∧ u.field.notAttempted = s.robots.length)

/-- CONFIGURE in OPEN with no move: the field takes the number; its three counts are those of the sites
already at their target, of the sites not attempted by R113's rows, and of the rest, which are admitted;
they sum to the site count. The timer runs from the preset, or is HELD with elapsed 0 where no move is
in progress, and the field is then ENDED. Field number 0 is refused with BAD_ARG, a move with BUSY. -/
def Obligations.ConfigureCountsEverySite : Prop :=
  ∀ (s : State) (r : Req) (number : Nat) (m : PlateMap), sentTo .sequencer r → s.map = some m →
    s.robots.length = m.sites.length → s.mode = .opened →
    (number = 0 → exec (.configure r number) s = .next (s.answered r 23 .badArg .none id)) ∧
    (1 ≤ number → (∃ x ∈ s.robots, x.move ≠ none) →
      exec (.configure r number) s = .next (s.answered r 23 .busy .none id)) ∧
    (1 ≤ number → (∀ x ∈ s.robots, x.move = none) → s.Takes r 23 →
      let at_ (i : Nat) := ∃ x q, s.robots[i]? = some x ∧ x.enabled = true ∧
        s.targets[i]? = some (some q) ∧ x.believed = some q
      let tried (i : Nat) := ∃ x q p, s.robots[i]? = some x ∧ x.enabled = true ∧
        s.targets[i]? = some (some q) ∧ x.believed = some p ∧ p ≠ q ∧ x.state = .idle
      ∃ t denied, exec (.configure r number) s = .next t ∧
        t = s.answered r 23 .ok (.configured number t.field.admitted t.field.already
          t.field.notAttempted denied t.field.state) (·.engine t) ∧
        t.field.number = number ∧
        (∃ l : List Nat, l.Nodup ∧ l.length = t.field.already ∧ ∀ i, i ∈ l ↔ at_ i) ∧
        (∃ l : List Nat, l.Nodup ∧ l.length = t.field.admitted ∧ ∀ i, i ∈ l ↔ tried i) ∧
        t.field.admitted + t.field.already + t.field.notAttempted = m.sites.length ∧
        denied ≤ t.field.counts.denied ∧ t.field.counts.total = t.field.counts.denied ∧
        t.field.deadlinePassed = false ∧ t.field.cut = false ∧
        (t.field.counts.denied < t.field.admitted → t.field.state = .running ∧
          t.timer = ⟨s.params.deadlinePreset, s.params.deadlinePreset, 0, .down, 0⟩) ∧
        (t.field.admitted ≤ t.field.counts.denied → t.field.state = .ended ∧ t.timer.phase = .held ∧
          t.timer.elapsed = 0 ∧ t.notices.fieldEnded = true))

/-! ### Corrections and the lens table -/

/-- Scaling: the magnitude is multiplied by the gain, 128 is added, and the sum is divided by 256 with
the remainder discarded; the sign is kept. The result is the nearest integer to d·g/256, an exact half
going away from zero; equal and opposite offsets scale to equal and opposite results; gain 256 returns
the offset and gain 0 returns 0. What the correction stages give from a position within the site's
limits: a target lies within those limits, differs from the position, and is at most the maximum
correction and the axis's backlash away; a NULL comes from two zero offsets after scaling, without
LIMITED, or from a limit of the site, with it. -/
def Obligations.ScalingRoundsAndStagesStayInBounds : Prop :=
  (∀ (g : Nat) (d : Int), g ≤ 256 → -2048 ≤ d → d ≤ 2047 →
     let q := scaleOffset g d
     q.natAbs = (d.natAbs * g + 128) / 256 ∧ (0 ≤ d → 0 ≤ q) ∧ (d ≤ 0 → q ≤ 0) ∧
       (256 * q - d * g).natAbs ≤ 128 ∧
       ((256 * q - d * g).natAbs = 128 → (d * g).natAbs < (256 * q).natAbs) ∧
       scaleOffset g (-d) = -q ∧ scaleOffset 256 d = d ∧ scaleOffset 0 d = 0 ∧ q.natAbs ≤ 2048) ∧
  ∀ (prm : Params) (x : Site) (p : Pos) (dirA dirB : Option Sign) (dA dB : Int),
    x.allows p.alpha p.beta = true → 1 ≤ prm.maxCorrection →
    (∀ q limited, correctionStages prm x p dirA dirB dA dB = .target q limited →
      x.allows q.alpha q.beta = true ∧ q ≠ p ∧
      ((q.alpha : Int) - p.alpha).natAbs ≤ prm.maxCorrection + x.backlashAlpha ∧
      ((q.beta : Int) - p.beta).natAbs ≤ prm.maxCorrection + x.backlashBeta) ∧
    (correctionStages prm x p dirA dirB dA dB = .null false ↔
      scaleOffset prm.gain dA = 0 ∧ scaleOffset prm.gain dB = 0)

/-- Claims are decided by R53's table: FREE grants; PINNED denies PINNED; a remote holder queues; a
RESERVED lens denies TAKEN; an OCCUPIED lens queues behind a holder whose move leaves it, and otherwise
denies TAKEN. A report is consistent in exactly three cases: its beta is stowed; its facing direction
has no lens; or the robot holds its facing lens, which is the lens its facing sector points to while its
beta is above the stow angle. Reconciliation of a consistent report leaves the robot
no pin and no holding but its facing lens, OCCUPIED, and its move's target lens, RESERVED. -/
def Obligations.LensTableDecidesAndReconciles : Prop :=
  (∀ (d : Decided) (remote leaving : Bool),
     (d.state = .free → decideClaim d remote leaving = .grant) ∧
     (d.state = .pinned → decideClaim d remote leaving = .deny .pinned) ∧
     (d.state = .reserved ∨ d.state = .occupied → remote = true →
       decideClaim d remote leaving = .queue) ∧
     (d.state = .reserved → remote = false → decideClaim d remote leaving = .deny .taken) ∧
     (d.state = .occupied → remote = false →
       decideClaim d remote leaving = if leaving then .queue else .deny .taken)) ∧
  (∀ (s : State) (site : Nat) (x : Site) (p : Pos), s.site? site = some x →
     (s.consistent site p = true ↔
       p.beta ≤ s.params.stowAngle ∨ s.lensToward site (x.sector p.alpha) = none ∨
       ∃ (i : Nat) (l : Lens), s.lensToward site (x.sector p.alpha) = some i ∧ s.lenses[i]? = some l ∧
         ((∃ c, l.body = .client c ∧
             (c.claim = .heldReserved ∨ c.claim = .heldOccupied ∨ c.claim = .pinned)) ∨
           ∃ d me, l.body = .decided d ∧ l.partyOf site = some me ∧
             (d.heldBy me = true ∨
               (d.pinned me = true ∧ d.pinned me.other = false ∧ d.heldBy me.other = false))))) ∧
  (∀ (s : State) (site : Nat) (x : Site) (p : Pos), s.site? site = some x →
     s.facingLens site p =
       if s.params.stowAngle < p.beta then s.lensToward site (x.sector p.alpha) else none) ∧
  ∀ (s : State) (site : Nat) (p : Pos) (i : Nat) (l : Lens) (d : Decided) (me : Party),
    s.LensesSound → s.consistent site p = true →
    (s.applyConsistent site p).lenses[i]? = some l → l.body = .decided d → l.partyOf site = some me →
    d.heldBy me = true ∨ d.pinned me = true →
    (s.facingLens site p = some i ∧ d.holder = some (me, .occupied) ∧ d.pinned me = false) ∨
      (s.facingLens site p ≠ some i ∧ s.targetLensOf site = some i ∧
        d.holder = some (me, .reserved) ∧ d.pinned me = false)

/-- CORRECT of 1 to 32 reports answers one result per report in order and one count per outcome that sum
to the reports; none or more is BAD_ARG. R121's checks stand in order: BAD_ARG, FROZEN outside OPEN,
NOT_READY, BUSY, STALE, and a report that fails one changes nothing. One that passes: a residual within
tolerance is CONVERGED; at the iteration limit it is LIMIT; stages that come to nothing are NULL and
spend an iteration; otherwise the target goes to the move engine as a CORRECTION move. With no target
lens, or one it holds OCCUPIED already, or one it is granted, it is ADMITTED, an iteration spent and the
robot QUEUED in its bus's class B queue; behind a holder that leaves, or with CLAIM sent, it is ADMITTED
too and its claim waits, in WAIT_LENS where its plan begins with the DEPLOY. A denied claim makes it
DENIED with its reason, leaves an outcome record, and spends nothing. -/
def Obligations.CorrectionReportsComeToTheirOutcome : Prop :=
  (∀ (s : State) (r : Req) (reports : List CorrectionReport), sentTo .metrology r → s.map ≠ none →
     (reports = [] ∨ 32 < reports.length →
       exec (.correct r reports) s = .next (s.answered r 26 .badArg .none id)) ∧
     (reports ≠ [] → reports.length ≤ 32 → s.Takes r 26 → ∃ t results counts, exec (.correct r reports) s = .next t ∧
       t = s.answered r 26 .ok (.corrected results counts) (·.engine t) ∧
       results.map (·.site) = reports.map (·.site) ∧ counts.length = 10 ∧
       counts.sum = reports.length) ∧
     ∀ (c : CorrectionReport) (o : ReportOutcome), reports = [c] → reportBar s c = some o →
       ∃ counts, exec (.correct r reports) s = .next (s.answered r 26 .ok
         (.corrected [⟨c.site, o, false, none, none, none, none⟩] counts) id)) ∧
  (∀ (s : State) (c : CorrectionReport),
     (s.robots.length ≤ c.site ∨ 60000 < c.residual ∨ c.dAlpha < -2048 ∨ 2047 < c.dAlpha ∨
       c.dBeta < -2048 ∨ 2047 < c.dBeta → reportBar s c = some .badArg) ∧
     ∀ x, s.robots[c.site]? = some x → c.residual ≤ 60000 → -2048 ≤ c.dAlpha → c.dAlpha ≤ 2047 →
       -2048 ≤ c.dBeta → c.dBeta ≤ 2047 →
       (s.mode ≠ .opened → reportBar s c = some .frozen) ∧
       (s.mode = .opened → x.enabled = false ∨ (x.move = none ∧ x.state ≠ .idle) →
         reportBar s c = some .notReady) ∧
       (s.mode = .opened → x.enabled = true → x.move ≠ none → reportBar s c = some .busy) ∧
       (s.mode = .opened → x.enabled = true → x.move = none → x.state = .idle →
         (c.epochSeen ≠ x.epoch → reportBar s c = some .stale) ∧
         (c.epochSeen = x.epoch → reportBar s c = none))) ∧
  ∀ (s : State) (r : Req) (c : CorrectionReport) (x : Site) (rob : Robot) (p : Pos),
    sentTo .metrology r → s.Holds c.site x rob → reportBar s c = none → rob.believed = some p →
    s.NoDenialWaits →
    let spent := if rob.iterations < 15 then rob.iterations + 1 else rob.iterations
    let stages := correctionStages s.params x p rob.dirAlpha rob.dirBeta c.dAlpha c.dBeta
    let comesTo (o : ReportOutcome) (limited : Bool) (target : Option Pos) (legs : Option Nat)
      (iterations : Nat) (f : State → State) := ∃ counts, exec (.correct r [c]) s =
        .next (s.answered r 26 .ok
          (.corrected [⟨c.site, o, limited, none, target, legs, some iterations⟩] counts) f)
    let denied (limited : Bool) (target : Pos) (reason : DenyReason) := ∃ counts,
      exec (.correct r [c]) s = .next (s.answered r 26 .ok
        (.corrected [⟨c.site, .denied, limited, some reason, some target, none, some rob.iterations⟩]
          counts) fun t =>
        { t.modRobot c.site fun y => { y with lastOutcome := some .denied } with
          outcomes := t.outcomes ++
            [⟨c.site, .correction, .denied, some p, rob.epoch, limited, some reason⟩] })
    (c.residual ≤ s.params.tolerance →
      comesTo .converged false none none rob.iterations
        fun t => t.modRobot c.site fun y => { y with converged := true }) ∧
    (s.params.tolerance < c.residual → s.params.iterationLimit ≤ rob.iterations →
      comesTo .limit false none none rob.iterations
        fun t => t.modRobot c.site fun y => { y with notConverged := true }) ∧
    (s.params.tolerance < c.residual → rob.iterations < s.params.iterationLimit →
      (∀ limited, stages = .null limited →
        comesTo .null limited none none spent
          fun t => t.modRobot c.site fun y => { y with iterations := spent, converged := false }) ∧
      ∀ q limited, stages = .target q limited → q ≠ p →
        let legs := planLegs s.params.stowAngle x p q
        let moving (st : RobotState) (lens : Option Nat) (t : State) : State :=
          t.modRobot c.site fun y =>
            { y with
              state := st, pollTime := none, iterations := spent, converged := false
              move := some (Move.fresh .correction (some q) legs lens limited) }
        let queued (lens : Option Nat) (t : State) : State :=
          (moving .queued lens t).modBus rob.bus fun b => { b with queueB := b.queueB ++ [c.site] }
        let admitted (f : State → State) := comesTo .admitted limited (some q) (some legs.length) spent f
        let deploys := (legs.head?).map (·.kind) = some .deploy
        (s.planTarget c.site x legs q = none → admitted (queued none)) ∧
        ∀ i l me, s.planTarget c.site x legs q = some i → s.lenses[i]? = some l →
          l.partyOf c.site = some me →
          (s.occupiedLens c.site = some i → ¬ deploys → admitted (queued (some i))) ∧
          (∀ d, l.body = .decided d →
            (d.state = .free → admitted fun t => (queued (some i) t).modLens i fun _ =>
              .decided { Decided.empty with holder := some (me, .reserved) }) ∧
            (d.state = .pinned → s.outcomes.length < 128 → denied limited q .pinned) ∧
            ∀ kind, d.holder = some (me.other, kind) →
              let leaves := (l.side me.other).link.isSome = true ∨ (kind = .occupied ∧ ∃ j y m,
                l.side me.other = .site j ∧ s.robots[j]? = some y ∧ y.move = some m ∧
                  m.targetLens ≠ some i)
              (leaves → ¬ deploys → admitted fun t => (queued (some i) t).modLens i fun _ =>
                .decided { d with waiter := some me, deadline := none }) ∧
              (leaves → deploys → admitted fun t => (moving .waitLens (some i) t).modLens i fun _ =>
                .decided { d with
                  waiter := some me, deadline := some (s.now + 1000 * s.params.lensWaitLimit) }) ∧
              (¬ leaves → (∃ j y, l.side me.other = .site j ∧ s.robots[j]? = some y) →
                s.outcomes.length < 128 → denied limited q .taken)) ∧
          ∀ u n k, l.body = .client u → u.claim ≠ .heldOccupied → l.link = some n →
            s.links[n]? = some k →
            (k.state ≠ .up → s.outcomes.length < 128 → denied limited q .linkDown) ∧
            (k.state = .up → u.claim = .pinned → s.outcomes.length < 128 → denied limited q .pinned) ∧
            (k.state = .up → u.claim = .none → k.transmit.length < 64 →
              let claims (t : State) (deadline : Option Nat) := (t.modLens i fun _ =>
                .client { u with claim := .claiming, deadline := deadline }).withMessage n i .claim
              (¬ deploys → admitted fun t => claims (queued (some i) t) none) ∧
              (deploys → admitted fun t => claims (moving .waitLens (some i) t)
                (some (s.now + 1000 * s.params.lensWaitLimit)))))

/-- RE_ANCHOR of a LOST(POWER) robot to a position within its site's limits that passes the
reconciliation test: the robot is ANCHORING with that anchor position, a SET_COUNTS waits on its bus,
and the epoch is answered. Outside the limits it is BAD_ARG, of a robot in another state NOT_READY, and
inconsistent with the robot's lens parts INCONSISTENT with the facing sector and lens. -/
def Obligations.ReAnchorQueuesSetCounts : Prop :=
  ∀ (s : State) (r : Req) (site : Nat) (x : Site) (rob : Robot) (p : Pos), sentTo .metrology r →
    s.Holds site x rob →
    (x.allows p.alpha p.beta = false →
      exec (.reAnchor r site p.alpha p.beta) s = .next (s.answered r 27 .badArg .none id)) ∧
    (x.allows p.alpha p.beta = true → rob.state ≠ .lost .power →
      exec (.reAnchor r site p.alpha p.beta) s = .next (s.answered r 27 .notReady .none id)) ∧
    (x.allows p.alpha p.beta = true → rob.state = .lost .power → s.consistent site p = false →
      exec (.reAnchor r site p.alpha p.beta) s = .next (s.answered r 27 .inconsistent
        (.inconsistent (x.sector p.alpha) ((s.lensToward site (x.sector p.alpha)).bind s.lensView))
        id)) ∧
    (x.allows p.alpha p.beta = true → rob.state = .lost .power → s.consistent site p = true →
      exec (.reAnchor r site p.alpha p.beta) s = .next (s.answered r 27 .ok (.reAnchoring rob.epoch)
        fun t => (t.modRobot site fun y => { y with state := .anchoring, anchor := some p }).modBus
          rob.bus fun b => { b with pendingOps := b.pendingOps ++ [.setCounts site p] }))

/-! ### Peer links -/

/-- PEER_CONTROL by action and link state: ENABLE takes a DISABLED link to PROBING and changes no other;
DISABLE takes every other state to DISABLED with its queue and last IDENT gone; RESET takes every state
but DISABLED, where it is refused with NOT_READY, to PROBING; from UP the last two are departures. -/
def Obligations.PeerControlActsByState : Prop :=
  ∀ (s : State) (r : Req) (n : Nat) (l : Link), sentTo .sequencer r → s.map ≠ none → n < 6 →
    s.links[n]? = some l → s.NoDenialWaits →
    (l.state = .disabled → s.Takes r 28 → ∃ t, exec (.peerControlEnable r n) s = .next t ∧ t.ProbingAt n ∧
      t = (s.answered r 28 .ok (.linkState .probing) fun u =>
        { u with links := t.links, notices := { u.notices with peerChange := true } }) ∧
      ∀ k, k ≠ n → t.links[k]? = s.links[k]?) ∧
    (l.state ≠ .disabled →
      exec (.peerControlEnable r n) s = .next (s.answered r 28 .ok (.linkState l.state) id)) ∧
    (l.state = .disabled →
      exec (.peerControlDisable r n) s = .next (s.answered r 28 .ok (.linkState .disabled) id) ∧
      exec (.peerControlReset r n) s = .next (s.answered r 28 .notReady .none id)) ∧
    (l.state ≠ .disabled → s.Takes r 28 → ∃ t l', exec (.peerControlDisable r n) s = .next t ∧
      t = s.answered r 28 .ok (.linkState .disabled) (·.engine t) ∧ t.links[n]? = some l' ∧
      l'.state = .disabled ∧ l'.transmit = [] ∧ l'.lastIdent = none ∧ l'.errors = l.errors ∧
      t.notices.peerChange = true ∧ (l.state = .up → s.DepartedAt t n)) ∧
    (l.state ≠ .disabled → s.Takes r 28 → ∃ t, exec (.peerControlReset r n) s = .next t ∧
      t = s.answered r 28 .ok (.linkState .probing) (·.engine t) ∧ t.ProbingAt n ∧
      (l.state = .up → s.DepartedAt t n))

/-- An IDENT taken in PROBING becomes the last IDENT. It matches where the link has a neighbour number
and both sectors and the digest are right; a match after one of the same level adds one, any other match
counts one, and a mismatch counts 0 with its cause. That an IDENT of a link without a neighbour number
leaves the cause SECTOR is the model's choice (log entry 35). At a count of 3 the unit enters MATCHED and sends an
IDENT with ack. An IDENT outside PROBING: in MATCHED a mismatch enters PROBING with its cause latched, a
match without ack changes no state, and a match with ack enters SYNCING with both sequences restarted
and the SUMMARY queued; in SYNCING anything but a match with ack enters PROBING; in UP it is a departure
and counts as the first IDENT of PROBING; in DISABLED it is discarded. That the time
between IDENTs runs from when one joins the queue is the model's choice (log entry 30). -/
def Obligations.IdentsActByLinkState : Prop :=
  (∀ (s : State) (n : Nat) (l : Link) (f : Ident), s.links[n]? = some l → l.state = .probing →
     let sectors := s.neighbourNumber n ≠ 0 ∧ f.sector = s.neighbourNumber n ∧ f.expected = s.sectorNumber
     let counted (c : Nat) (m : Mismatch) := s.modLink n fun x =>
       { x with lastIdent := some f, mismatch := m, matchCount := c, takenAt := s.now }
     let count := if (l.lastIdent.any fun x => x.level == f.level) then l.matchCount + 1 else 1
     (¬ sectors → exec (.ident n f) s = .next (counted 0 .sector)) ∧
     (sectors → f.digest ≠ s.digest n → exec (.ident n f) s = .next (counted 0 .digest)) ∧
     (sectors → f.digest = s.digest n →
       (count < 3 → exec (.ident n f) s = .next (counted count l.mismatch)) ∧
       (3 ≤ count → l.transmit.length < 64 → exec (.ident n f) s = .next
         { s.modLink n fun x =>
             { x with
               state := .matched, since := s.now, takenAt := s.now, identAt := s.now
               lastIdent := some f, matchCount := count, partnerAck := false
               transmit := x.transmit ++ [⟨s.sectorNumber, 0,
                 .ident ⟨s.sectorNumber, s.neighbourNumber n, 1, s.digest n, true⟩⟩] } with
           notices := { s.notices with peerChange := true } }))) ∧
  ∀ (s : State) (n : Nat) (l : Link) (f : Ident), s.links[n]? = some l → s.NoDenialWaits →
    let sectors := s.neighbourNumber n ≠ 0 ∧ f.sector = s.neighbourNumber n ∧ f.expected = s.sectorNumber
    let good := sectors ∧ f.digest = s.digest n
    ∃ t l', exec (.ident n f) s = .next t ∧ t = s.engine t ∧ t.links[n]? = some l' ∧
      (l.state = .disabled → t = s) ∧
      (l.state = .matched ∨ l.state = .syncing → ¬ good → t.ProbingAt n ∧
        l'.mismatch = if s.neighbourNumber n = 0 ∨ f.sector ≠ s.neighbourNumber n ∨
          f.expected ≠ s.sectorNumber then .sector else .digest) ∧
      (l.state = .matched → good → f.ack = false → l'.state = .matched ∧ l'.transmit = l.transmit) ∧
      (l.state = .matched → good → f.ack = true → l.transmit.length < 64 → l'.state = .syncing ∧
        l'.recvSeq = 0 ∧ l'.sendSeq = 1 ∧ l'.sentSummary = s.summaryEntries n ∧
        l'.transmit = l.transmit ++ [⟨s.sectorNumber, 0, .summary (s.summaryEntries n)⟩]) ∧
      (l.state = .syncing → good → f.ack = true → l'.state = .syncing ∧ l'.transmit = l.transmit) ∧
      (l.state = .syncing → good → f.ack = false → t.ProbingAt n) ∧
      (l.state = .up → s.DepartedAt t n ∧ l'.state = .probing ∧
        l'.matchCount = (if s.neighbourNumber n ≠ 0 ∧ f.sector = s.neighbourNumber n ∧
          f.expected = s.sectorNumber ∧ f.digest = s.digest n then 1 else 0) ∧ l'.lastIdent = some f) ∧
      (l.state = .fault → l'.state = .fault ∧ t.lenses = s.lenses)

/-- A SUMMARY in SYNCING. The arbiter side adopts it, lens by lens, and enters UP with last dispute 0, or
FAULT with the dispute latch where a lens is disputed, noting their number and the first; no other lens
changes. The client side changes no record, enters UP, and queues the messages its table gives, row by row
(R142), for what changed since its own SUMMARY. Adoption of one lens, row by row (R141): what a HELD
entry, a PINNED entry and no entry make of the record, that HELD against a local holder or pin is what is
disputed, and that a local waiter is granted at a released holding and denied PINNED at a remote pin. A
SUMMARY in another state: discarded in DISABLED; in PROBING and FAULT it restarts the silence time alone;
in UP it advances the receive sequence; in MATCHED the unit enters SYNCING first and takes it there. One
with a wrong sender, a wrong sequence or contents that do not fit the link is a frame error. A
SUMMARY_CLIENT is the same frame and is taken the same way. That one taken in UP advances the receive
sequence and that the sequence number of one taken in MATCHED is not compared (log entry 18), that either
command acts by the link's role (log entry 19), and that the client sends nothing for a pair that is no row
of R142's table (log entry 20), are the model's choices. -/
def Obligations.SummariesEndTheBringUp : Prop :=
  (∀ (s : State) (i : Nat) (l : Lens) (d : Decided) (p : Party), s.lenses[i]? = some l →
     l.body = .decided d → l.remoteParty = some p → d.wf = true → d.waiter = none →
     let becomes (e : Option SummaryState) (d' : Decided) :=
       s.adoptLens i l d p e = s.modLens i fun _ => .decided d'
     (∀ kind, d.holder = some (p, kind) →
       becomes (some .held) { d with holder := some (p, .occupied) } ∧
       becomes (some .pinned) { (d.setPin p true) with holder := none } ∧
       becomes none { d with holder := none }) ∧
     (d.holder = none → d.pinned p.other = false →
       becomes (some .held) { (d.setPin p false) with holder := some (p, .occupied) }) ∧
     (d.holder = none → d.pinned p.other = true → becomes (some .held) (d.setPin p true)) ∧
     (d.holder = none → becomes (some .pinned) (d.setPin p true) ∧ becomes none (d.setPin p false)) ∧
     (∀ kind, d.holder = some (p.other, kind) → ∀ e, becomes e d) ∧
     ∀ e, d.disputed p e = true ↔ e = some .held ∧ (d.heldBy p.other = true ∨ d.pinned p.other = true)) ∧
  (let sends (sent : Option SummaryState) (now : ClaimState) (m : Option BorderMessage) :=
     changeMessage sent now = m
   sends (some .held) .pinned (some .pin) ∧ sends (some .held) .none (some .release) ∧
     sends (some .pinned) .none (some .release) ∧ sends (some .pinned) .heldOccupied (some .hold) ∧
     sends none .pinned (some .pin) ∧ sends (some .held) .heldReserved none ∧
     sends (some .held) .heldOccupied none ∧ sends (some .pinned) .pinned none ∧
     sends none .none none) ∧
  (∀ (s : State) (h : PeerHeader) (count : Nat) (entries : List SummaryEntry) (l : Link),
    s.links[h.link]? = some l → s.NoDenialWaits →
    let good := s.summaryGood h.link count entries = true ∧ h.sender = s.neighbourNumber h.link ∧
      (l.state = .syncing ∨ l.state = .up → h.seq = l.recvSeq)
    ∀ c ∈ [Instr.summary h count entries, .summaryClient h count entries],
      (l.state = .disabled → exec c s = .next s) ∧
      (l.state ≠ .disabled → ¬ good → exec c s = exec (.peerFrameError h.link) s) ∧
      (l.state = .probing ∨ l.state = .fault → good →
        exec c s = .next (s.modLink h.link fun x => { x with takenAt := s.now })) ∧
      (l.state = .up → good → exec c s = .next (s.frameTaken h.link)) ∧
      (l.state = .matched → good → l.transmit.length < 64 →
        exec c s = exec (.summary { h with seq := 0 } count entries)
          { s.modLink h.link fun x =>
              { x with
                state := .syncing, since := s.now, takenAt := s.now, sendSeq := 1, recvSeq := 0
                sentSummary := s.summaryEntries h.link
                transmit := x.transmit ++
                  [⟨s.sectorNumber, 0, .summary (s.summaryEntries h.link)⟩] } with
            notices := { s.notices with peerChange := true } }) ∧
      exec c s = exec (.summary h count entries) s) ∧
  (∀ (s : State) (n i j pos count : Nat) (entries : List SummaryEntry) (k : Link) (l : Lens)
    (d : Decided) (p : Party) (y : Robot), s.links[n]? = some k → k.state = .syncing →
    s.isArbiter n = true → s.summaryGood n count entries = true → s.NoDenialWaits →
    (i, pos) ∈ (s.borderList n).zipIdx → s.lenses[i]? = some l → l.body = .decided d →
    l.remoteParty = some p → d.wf = true → d.waiter = some p.other → l.side p.other = .site j →
    s.robots[j]? = some y →
    (∀ (e : Nat) (z : Lens), e ≠ i → s.lenses[e]? = some z → z.link = some n →
      ∃ d', z.body = .decided d' ∧ d'.waiter = none) →
    ∃ t y', exec (.summary ⟨n, s.neighbourNumber n, k.recvSeq⟩ count entries) s = .next t ∧
      t = s.engine t ∧ t.robots[j]? = some y' ∧
      let becomes (d' : Decided) := t.lenses[i]? = some { l with body := .decided d' }
      (entryFor entries pos = some .held → becomes { d with holder := some (p, .occupied) } ∧ y' = y) ∧
      (entryFor entries pos = none →
        becomes { d with holder := some (p.other, .reserved), waiter := none, deadline := none } ∧
        (y.state = .waitLens → y' = { y with state := .queued }) ∧ (y.state ≠ .waitLens → y' = y)) ∧
      (entryFor entries pos = some .pinned →
        becomes { (d.setPin p true) with holder := none, waiter := none, deadline := none } ∧
        (y.atRest = true → y.move ≠ none → y.EndedAtRest y' .denied) ∧
        ∀ m, y.state = .inLeg → y.move = some m →
          y' = { y with move := some { m with pendingDenial := some .pinned } })) ∧
  ∀ (s : State) (h : PeerHeader) (count : Nat) (entries : List SummaryEntry) (l : Link),
    s.links[h.link]? = some l → l.state = .syncing → h.sender = s.neighbourNumber h.link →
    h.seq = l.recvSeq → s.summaryGood h.link count entries = true → s.NoDenialWaits →
    (s.isArbiter h.link = true →
      (∀ y ∈ s.lenses, y.link = some h.link → ∃ d, y.body = .decided d ∧ d.waiter = none) → ∃ t l', exec (.summary h count entries) s = .next t ∧
      t = s.engine t ∧ t.links[h.link]? = some l' ∧ l'.recvSeq = 1 ∧
      let disputes := ((s.borderList h.link).zipIdx.filter fun x =>
        s.lenses[x.1]?.any fun y => match y.remoteParty, y.body with
          | some p, .decided d => d.disputed p (entryFor entries x.2)
          | _, _ => false).map (·.1)
      l'.lastDisputeCount = disputes.length ∧ l'.lastDisputeLens = disputes.head? ∧
      l'.state = (if disputes = [] then .up else .fault) ∧
      l'.dispute = (l.dispute || !disputes.isEmpty) ∧
      (∀ x ∈ (s.borderList h.link).zipIdx, ∃ y d p, s.lenses[x.1]? = some y ∧ y.body = .decided d ∧
        y.remoteParty = some p ∧
        t.lenses[x.1]? = (s.adoptLens x.1 y d p (entryFor entries x.2)).lenses[x.1]?) ∧
      ∀ i, i ∉ s.borderList h.link → t.lenses[i]? = s.lenses[i]?) ∧
    (s.isArbiter h.link = false → l.transmit.length + (s.borderList h.link).length ≤ 64 →
      ∃ t l', exec (.summaryClient h count entries) s = .next t ∧ t = s.engine t ∧
        t.lenses = s.lenses ∧ t.robots = s.robots ∧ t.links[h.link]? = some l' ∧
        l'.state = .up ∧ l'.recvSeq = 1 ∧
        l'.transmit.map (·.body) = l.transmit.map (·.body) ++
          ((s.borderList h.link).zipIdx.filterMap fun x => (s.lenses[x.1]?).bind fun y =>
            match y.body with
            | .client c => (changeMessage ((l.sentSummary.find? fun z => z.1 == x.2).map (·.2))
                c.claim).map fun m => .border m (s.lensName h.link x.1)
            | .decided _ => none))

/-- A KEEPALIVE in UP advances the receive sequence and restarts the silence time; in PROBING, MATCHED,
SYNCING with the right sequence, and FAULT it restarts the time alone; in DISABLED it changes nothing.
What a link unit sends in time: IDENT_SEND queues an IDENT without ack in PROBING and with ack in
MATCHED, and notes when; KEEPALIVE_SEND in UP queues a KEEPALIVE with the send sequence; PEER_FRAME_SENT
takes the head of the queue, and notes the time of sending. That a KEEPALIVE outside UP leaves the receive
sequence as it is, and that the time between IDENTs runs from when one joins the queue and the time of
sending from when a frame leaves it, are the model's choices (log entries 18 and 30). -/
def Obligations.LinkUnitsKeepAliveAndSend : Prop :=
  (∀ (s : State) (h : PeerHeader) (k : Link), s.links[h.link]? = some k → s.NoDenialWaits →
     (k.state = .disabled → exec (.keepalive h) s = .next s) ∧
     (s.InOrder h k → exec (.keepalive h) s = .next (s.frameTaken h.link)) ∧
     (k.state = .probing ∨ k.state = .matched ∨ k.state = .fault →
       h.sender = s.neighbourNumber h.link →
       exec (.keepalive h) s = .next (s.modLink h.link fun l => { l with takenAt := s.now })) ∧
     (k.state = .syncing → h.sender = s.neighbourNumber h.link → h.seq = k.recvSeq →
       exec (.keepalive h) s = .next (s.modLink h.link fun l => { l with takenAt := s.now }))) ∧
  ∀ (s : State) (n : Nat) (l : Link), s.links[n]? = some l → s.NoDenialWaits →
    (∀ ack, (l.state = .probing ∧ ack = false) ∨ (l.state = .matched ∧ ack = true) →
      l.transmit.length < 64 → exec (.identSend n) s = .next (s.modLink n fun x =>
        { x with
          identAt := s.now
          transmit := x.transmit ++ [⟨s.sectorNumber, 0,
            .ident ⟨s.sectorNumber, s.neighbourNumber n, 1, s.digest n, ack⟩⟩] })) ∧
    (l.state = .up → l.transmit.length < 64 → exec (.keepaliveSend n) s = .next (s.modLink n fun x =>
      { x with
        transmit := x.transmit ++ [⟨s.sectorNumber, x.sendSeq, .keepalive⟩]
        sendSeq := (x.sendSeq + 1) % 256 })) ∧
    (∀ f rest, l.transmit = f :: rest → exec (.peerFrameSent n) s = .next (s.modLink n fun x =>
      { x with transmit := rest, sentAt := s.now }))

/-- A CLAIM taken by the arbiter side in UP: a FREE lens is granted to the remote side and GRANT queued;
a lens it holds already is answered GRANT again; PINNED is refused PINNED; RESERVED, or OCCUPIED by a
robot that stays, is refused TAKEN; OCCUPIED by a robot whose move leaves it makes the remote side the
waiter, with no deadline and no message. -/
def Obligations.ClaimMessagesAreDecided : Prop :=
  ∀ (s : State) (h : PeerHeader) (k : Link) (name : LensName) (i : Nat) (l : Lens) (d : Decided)
    (p : Party), s.InOrder h k → s.isArbiter h.link = true → s.Names h.link name i l →
    l.body = .decided d → l.remoteParty = some p → d.wf = true → k.transmit.length < 64 →
    s.NoDenialWaits →
    let u := s.frameTaken h.link
    (d.state = .free → exec (.claim h name) s = .next ((u.modLens i fun _ =>
      .decided { Decided.empty with holder := some (p, .reserved) }).withMessage h.link i .grant)) ∧
    (∀ kind, d.holder = some (p, kind) →
      exec (.claim h name) s = .next (u.withMessage h.link i .grant)) ∧
    (d.state = .pinned → d.waiter = none →
      exec (.claim h name) s = .next (u.withMessage h.link i (.refuse .pinned))) ∧
    (∀ kind j y, d.holder = some (p.other, kind) → d.waiter = none → l.side p.other = .site j →
      s.robots[j]? = some y →
      (kind = .reserved ∨ (∀ m, y.move = some m → m.targetLens = some i) →
        exec (.claim h name) s = .next (u.withMessage h.link i (.refuse .taken))) ∧
      (kind = .occupied → (∃ m, y.move = some m ∧ m.targetLens ≠ some i) →
        exec (.claim h name) s = .next (u.modLens i fun _ =>
          .decided { d with waiter := some p, deadline := none })))

/-- WITHDRAW, RELEASE, PIN and HOLD taken by the arbiter side in UP, by the record: a remote waiter
goes; a remote holding is released, or becomes a remote pin, or OCCUPIED; a remote pin goes, or is kept
or added where there is no holder, or becomes an OCCUPIED holding where no local pin stands; otherwise
the record is unchanged. Where a local robot waits behind the remote holder: a RELEASE or WITHDRAW makes
its side the holder, RESERVED, with no waiter and no deadline, and a robot in WAIT_LENS enters QUEUED with
its DEPLOY at the tail of the queue of its move's class; a PIN denies it PINNED, which ends a QUEUED or
waiting robot's move DENIED, stays pending in a leg and leaves a HALTING robot as it is; a HOLD makes the
holder OCCUPIED and it waits on. A HOLD that meets a local holder, with or without a move, leaves that
holding and the local robots as they are, and takes the link down with its remote waiter. -/
def Obligations.BorderMessagesChangeTheRecord : Prop :=
  (∀ (s : State) (h : PeerHeader) (k : Link) (name : LensName) (i : Nat) (l : Lens) (d : Decided)
     (p : Party), s.InOrder h k → s.isArbiter h.link = true → s.Names h.link name i l →
     l.body = .decided d → l.remoteParty = some p → d.wf = true → d.waiter ≠ some p.other →
     s.NoDenialWaits →
     let u := s.frameTaken h.link
     let becomes (c : Instr) (d' : Decided) := exec c s = .next (u.modLens i fun _ => .decided d')
     let unchanged (c : Instr) := exec c s = .next u
     (d.waiter = some p → becomes (.withdraw h name) { d with waiter := none, deadline := none }) ∧
     (∀ kind, d.holder = some (p, kind) →
       becomes (.withdraw h name) { d with holder := none, deadline := none } ∧
       becomes (.release h name) { d with holder := none, deadline := none } ∧
       becomes (.pin h name)
         { (d.setPin p true) with holder := none, waiter := none, deadline := none } ∧
       becomes (.hold h name) { d with holder := some (p, .occupied) }) ∧
     (d.holder = none → d.pinned p = true → becomes (.release h name) (d.setPin p false)) ∧
     (d.holder = none → becomes (.pin h name) (d.setPin p true)) ∧
     (d.holder = none → d.pinned p = true → d.pinned p.other = false →
       becomes (.hold h name) { (d.setPin p false) with holder := some (p, .occupied) }) ∧
     (d.holder = none → d.pinned p = false ∨ d.pinned p.other = true → unchanged (.hold h name)) ∧
     (d.heldBy p = false → d.waiter = none → unchanged (.withdraw h name)) ∧
     (d.heldBy p = false → d.pinned p = false → unchanged (.release h name)) ∧
     (d.heldBy p.other = true → becomes (.pin h name) d)) ∧
  ∀ (s : State) (h : PeerHeader) (k : Link) (name : LensName) (i j : Nat) (l : Lens) (d : Decided)
    (p : Party) (y : Robot), s.InOrder h k → s.isArbiter h.link = true →
    s.Names h.link name i l → l.body = .decided d → l.remoteParty = some p → d.wf = true →
    l.side p.other = .site j → s.robots[j]? = some y → s.NoDenialWaits →
    let u := s.frameTaken h.link
    let granted := u.modLens i fun _ =>
      .decided { d with holder := some (p.other, .reserved), waiter := none, deadline := none }
    (∀ kind, d.holder = some (p, kind) → d.waiter = some p.other →
      (∀ c ∈ [Instr.release h name, .withdraw h name],
        (y.state ≠ .waitLens → exec c s = .next granted) ∧
        ∀ m, y.state = .waitLens → y.move = some m →
          exec c s = .next (State.queuedAgain granted j y.bus m)) ∧
      exec (.hold h name) s = .next (u.modLens i fun _ => .decided { d with holder := some (p, .occupied) }) ∧
      ∃ t y', exec (.pin h name) s = .next t ∧ t = s.engine t ∧ t.robots[j]? = some y' ∧
        t.lenses[i]? = some { l with
          body := .decided { (d.setPin p true) with holder := none, waiter := none, deadline := none } } ∧
        (∀ m, y.atRest = true → y.move = some m → y.EndedAtRest y' .denied ∧
          (t.outcomes.length < 128 → ∃ final,
            ⟨j, m.kind, .denied, final, y.epoch, m.limited, some .pinned⟩ ∈
              t.outcomes.drop s.outcomes.length)) ∧
        (∀ m, y.state = .inLeg → y.move = some m →
          y' = { y with move := some { m with pendingDenial := some .pinned } }) ∧
        (y.state = .halting → y' = y)) ∧
    (d.heldBy p.other = true → ∃ t d', exec (.hold h name) s = .next t ∧ t = s.engine t ∧
      t.ProbingAt h.link ∧ s.DepartedAt t h.link ∧
      t.lenses[i]? = some { l with body := .decided d' } ∧ d'.holder = d.holder ∧ d'.pinA = d.pinA ∧
      d'.pinB = d.pinB ∧ d'.waiter = none ∧
      ((∀ z ∈ s.lenses, z.link = some h.link → ∃ e, z.body = .decided e) → t.robots = s.robots))

/-- GRANT and REFUSE taken by the client side in UP. A claim that is granted becomes HELD_RESERVED with
no deadline, and its robot, where it waits, enters QUEUED at the tail of the queue of its move's class; a
late GRANT at a record in NONE is answered RELEASE. A claim that is refused becomes NONE with no deadline
and the reason kept, and the move of its robot, QUEUED or waiting, ends DENIED with an outcome record of
reason REFUSED; one in a leg carries the denial to its boundary, and a HALTING one is not affected. In
other claim states nothing changes. -/
def Obligations.GrantsAndRefusalsReachTheClient : Prop :=
  ∀ (s : State) (h : PeerHeader) (k : Link) (name : LensName) (i j : Nat) (l : Lens) (c : Client)
    (y : Robot) (reason : RefuseReason), s.InOrder h k → s.isClient h.link = true →
    s.Names h.link name i l → l.body = .client c → l.b = .site j → s.robots[j]? = some y →
    s.NoDenialWaits →
    let u := s.frameTaken h.link
    let held := u.modLens i fun _ => .client { c with claim := .heldReserved, deadline := none }
    let refused := u.modLens i fun _ =>
      .client { claim := .none, deadline := none, lastRefusal := some reason }
    (c.claim = .claiming → y.state ≠ .waitLens → exec (.grant h name) s = .next held) ∧
    (∀ m, c.claim = .claiming → y.state = .waitLens → y.move = some m →
      exec (.grant h name) s = .next (State.queuedAgain held j y.bus m)) ∧
    (c.claim = .none → k.transmit.length < 64 →
      exec (.grant h name) s = .next (u.withMessage h.link i .release)) ∧
    (c.claim ≠ .claiming → c.claim ≠ .none → exec (.grant h name) s = .next u) ∧
    (c.claim ≠ .claiming → exec (.refuse h name reason) s = .next u) ∧
    (∀ m, c.claim = .claiming → y.state = .inLeg → y.move = some m →
      exec (.refuse h name reason) s = .next (refused.modRobot j fun x =>
        { x with move := some { m with pendingDenial := some .refused } })) ∧
    (c.claim = .claiming → y.state ∉ [.queued, .waitLens, .inLeg] →
      exec (.refuse h name reason) s = .next refused) ∧
    (∀ m, c.claim = .claiming → y.atRest = true → y.move = some m →
      ∃ t y', exec (.refuse h name reason) s = .next t ∧ t = s.engine t ∧ t.robots[j]? = some y' ∧
        y.EndedAtRest y' .denied ∧ t.lenses[i]? = some { l with
          body := .client { claim := .none, deadline := none, lastRefusal := some reason } } ∧
        (t.outcomes.length < 128 → ∃ final,
          ⟨j, m.kind, .denied, final, y.epoch, m.limited, some .refused⟩ ∈
            t.outcomes.drop s.outcomes.length))

/-- A frame error by link state: DISABLED, not counted; PROBING and FAULT, counted only; MATCHED and
SYNCING, the unit enters PROBING; UP, a departure and then PROBING. The counter saturates at 65,535. A
frame with a wrong sender, a wrong sequence in UP, or no lens of the link is such an error. The silence
limit in UP is a departure and takes the unit to PROBING; 100 ms in MATCHED and 200 ms in SYNCING take
it to PROBING, changing nothing but the link and PEER_CHANGE. That a command which says a time limit has
passed is believed is the model's choice (log entry 12). -/
def Obligations.FrameErrorsAndTimeLimitsTakeLinksDown : Prop :=
  (∀ (s : State) (n : Nat) (l : Link), s.links[n]? = some l → s.NoDenialWaits →
     (l.state = .disabled → exec (.peerFrameError n) s = .next s) ∧
     (l.state = .probing ∨ l.state = .fault → exec (.peerFrameError n) s = .next (s.modLink n fun x =>
       { x with errors := if x.errors < 65535 then x.errors + 1 else x.errors })) ∧
     (l.state = .matched ∨ l.state = .syncing ∨ l.state = .up → ∃ t l',
       exec (.peerFrameError n) s = .next t ∧ t = s.engine t ∧ t.ProbingAt n ∧
       t.links[n]? = some l' ∧ (l'.errors = if l.errors < 65535 then l.errors + 1 else l.errors) ∧
       (l.state = .up → s.DepartedAt t n)) ∧
     ∀ (h : PeerHeader) (name : LensName), h.link = n → l.state ≠ .disabled →
       (h.sender ≠ s.neighbourNumber n ∨ s.lensNamed n name = none ∨ (l.state = .up ∧ h.seq ≠ l.recvSeq) →
         exec (.claim h name) s = exec (.peerFrameError n) s ∧
         exec (.grant h name) s = exec (.peerFrameError n) s) ∧
       (s.isArbiter n = false → exec (.hold h name) s = exec (.peerFrameError n) s) ∧
       (s.isClient n = false → exec (.refuse h name .taken) s = exec (.peerFrameError n) s)) ∧
  ∀ (s : State) (n : Nat) (l : Link), s.links[n]? = some l →
    (l.state = .up → ∃ t, exec (.silenceLimit n) s = .next t ∧ t = s.engine t ∧ t.ProbingAt n ∧
      s.DepartedAt t n ∧ t.notices.peerChange = true) ∧
    (∀ c, (l.state = .matched ∧ c = .matchedTimeout n) ∨
        (l.state = .syncing ∧ c = .syncingTimeout n) →
      ∃ t, exec c s = .next t ∧ t.ProbingAt n ∧
        t = { s with links := t.links, notices := { s.notices with peerChange := true } } ∧
        ∀ k, k ≠ n → t.links[k]? = s.links[k]?)

/-- A peer frame this part can send reads back as the command it stands for: the header and every field
of an IDENT, of a KEEPALIVE and of each border message survive the layout of R181. -/
def Obligations.PeerFramesReadBack : Prop :=
  ∀ (link : Nat) (f : PeerFrame), f.sender < 256 → f.seq < 256 →
    let h : PeerHeader := ⟨link, f.sender, f.seq⟩
    (∀ x, f.body = .ident x → x.sector < 256 → x.expected < 256 → x.level < 256 →
      readPeerFrame link f.bytes = .ident link x) ∧
    (f.body = .keepalive → readPeerFrame link f.bytes = .keepalive h) ∧
    (∀ l, f.body = .summary l → l.length ≤ 384 → (∀ x ∈ l, x.1 < 65536) →
      readPeerFrame link f.bytes = .summary h l.length
        (l.map fun x => ⟨x.1, if x.2 = .held then 1 else 2⟩)) ∧
    ∀ m (n : LensName), f.body = .border m n → n.position < 65536 → n.arbiterSite < 256 →
      n.clientSite < 256 → readPeerFrame link f.bytes = match m with
        | .claim => .claim h n
        | .grant => .grant h n
        | .refuse reason => .refuse h n reason
        | .withdraw => .withdraw h n
        | .release => .release h n
        | .pin => .pin h n
        | .hold => .hold h n

/-! ### Parameters -/

/-- SET_PARAM sets a parameter to any value of its range, answers the value now in force and changes
nothing else, and refuses any other value with BAD_ARG. The stow angle is set in INIT only, and while no
robot of the map is placed; the park beta goes up to the stow angle in force; a bus's concurrency limit
is set while its count is 0; a share ratio other than the one in force gives every bus its credit; a
statistics selection starts its counter from 0. A bus above 7 is refused. That STRICT_A and the ratio
already in force leave every credit as it is are the model's choices (log entry 28). -/
def Obligations.ParametersFollowTheirTable : Prop :=
  ∀ (s : State) (r : Req) (v n : Nat), sentTo .sequencer r →
    let sets (c : Instr) (value : ParamValue) (f : State → State) := exec c s =
      .next (s.answered r 36 .ok (.param value) f)
    let bars (c : Instr) (st : Status) := exec c s = .next (s.answered r 36 st .none id)
    let part (c : Instr) (lo hi : Nat) (p : Params) :=
      (lo ≤ v → v ≤ hi → sets c (.number v) fun t => { t with params := p }) ∧
      (v < lo ∨ hi < v → bars c .badArg)
    let perBus (c : Instr) (lo hi : Nat) (f : Bus → Bus) :=
      (n ≤ 7 → lo ≤ v → v ≤ hi → sets c (.number v) fun t => t.modBus n f) ∧
      (7 < n ∨ v < lo ∨ hi < v → bars c .badArg)
    let placed := ∃ x ∈ s.robots, x.state ≠ .offline ∧ ∀ cause, x.state ≠ .lost cause
    (v < 1920 ∨ 7680 < v → bars (.setParamStowAngle r v) .badArg) ∧
    (1920 ≤ v → v ≤ 7680 →
      (s.mode ≠ .init → bars (.setParamStowAngle r v) .wrongMode) ∧
      (s.mode = .init → s.map ≠ none → placed → bars (.setParamStowAngle r v) .busy) ∧
      (s.mode = .init → (s.map = none ∨ ¬ placed) → sets (.setParamStowAngle r v) (.number v)
        fun t => { t with params := { s.params with stowAngle := v } })) ∧
    part (.setParamParkBeta r v) 0 s.params.stowAngle { s.params with parkBeta := v } ∧
    part (.setParamGain r v) 0 256 { s.params with gain := v } ∧
    part (.setParamMaximumCorrection r v) 1 2047 { s.params with maxCorrection := v } ∧
    part (.setParamTolerance r v) 1 1000 { s.params with tolerance := v } ∧
    part (.setParamIterationLimit r v) 1 15 { s.params with iterationLimit := v } ∧
    part (.setParamDeadlinePreset r v) 1 65535 { s.params with deadlinePreset := v } ∧
    part (.setParamLensWaitLimit r v) 1 600 { s.params with lensWaitLimit := v } ∧
    part (.setParamLegTimeLimit r v) 1 120 { s.params with legTimeLimit := v } ∧
    part (.setParamAttemptLimit r v) 1 4 { s.params with attemptLimit := v } ∧
    part (.setParamFailureLimit r v) 1 8 { s.params with failureLimit := v } ∧
    part (.setParamPollInterval r v) 10 1000 { s.params with pollInterval := v } ∧
    part (.setParamKeepaliveInterval r v) 50 5000 { s.params with keepaliveInterval := v } ∧
    (∀ (x : ShareRatio) (value : ShareArg), (value, x) ∈
        [(ShareArg.ratio 1, ShareRatio.one), (.ratio 3, .three), (.ratio 7, .seven),
          (.strictA, .strictA)] →
      sets (.setParamShareRatio r value) (.share x) fun t =>
        { t with
          params := { s.params with share := x }
          buses := s.buses.map fun b => { b with credit := if x = s.params.share then b.credit else match x with
            | .one => 1
            | .three => 3
            | .seven => 7
            | .strictA => b.credit } }) ∧
    (v ∉ [1, 3, 7] → bars (.setParamShareRatio r (.ratio v)) .badArg) ∧
    (∀ a, sets (.setParamDeadlineAction r (some a)) (.action a)
      fun t => { t with params := { s.params with deadlineAction := a } }) ∧
    bars (.setParamDeadlineAction r none) .badArg ∧
    (7 < n ∨ v < 1 ∨ 12 < v → bars (.setParamConcurrencyLimit r n v) .badArg) ∧
    (n ≤ 7 → 1 ≤ v → v ≤ 12 →
      (0 < s.concurrency n → bars (.setParamConcurrencyLimit r n v) .busy) ∧
      (s.concurrency n = 0 → sets (.setParamConcurrencyLimit r n v) (.number v)
        fun t => t.modBus n fun b => { b with concurrencyLimit := v })) ∧
    perBus (.setParamThreshold r n v) 100 4000 (fun b => { b with threshold := v }) ∧
    perBus (.setParamTripCount r n v) 1 15 (fun b => { b with tripCount := v }) ∧
    (∀ o, n ≤ 7 → v ≤ 3 → sets (.setParamStatisticsSelection r n v (some o)) (.object o)
      fun t => t.modBus n fun b => { b with stats := b.stats.set v ⟨o, 0⟩ }) ∧
    (∀ o, 7 < n ∨ 3 < v ∨ o = none → bars (.setParamStatisticsSelection r n v o) .badArg)

/-! ### Robot buses -/

/-- INQUIRE of a robot that is not OFFLINE, with an item to 15 and no inquiry in the way, makes the slot
PENDING and queues its transaction at its bus; otherwise it is refused with BAD_ARG, BUSY or NOT_READY
in that order. READ_INQUIRY returns a DONE or FAILED result and empties the slot, and is answered EMPTY
or NOT_READY in the other two states. -/
def Obligations.InquiriesUseOneSlot : Prop :=
  ∀ (s : State) (r : Req), sentTo .sequencer r →
    (∀ (site item : Nat) (x : Site) (rob : Robot), s.Holds site x rob →
      let busy := (∃ i k, s.inquiry = .pending i k) ∨
        ∃ b ∈ s.buses, ∃ t k, b.txn = some t ∧ t.kind = .inquire k true
      (15 < item → exec (.inquire r site item) s = .next (s.answered r 30 .badArg .none id)) ∧
      (item ≤ 15 → busy →
        exec (.inquire r site item) s = .next (s.answered r 30 .busy .none id)) ∧
      (item ≤ 15 → ¬ busy → rob.state = .offline →
        exec (.inquire r site item) s = .next (s.answered r 30 .notReady .none id)) ∧
      (item ≤ 15 → ¬ busy → rob.state ≠ .offline →
        exec (.inquire r site item) s = .next (s.answered r 30 .ok .none fun t =>
          { t with inquiry := .pending site item }.modBus rob.bus fun b =>
            { b with pendingOps := b.pendingOps ++ [PendingOp.inquire site item] }))) ∧
    (s.inquiry = .empty → exec (.readInquiry r) s = .next (s.answered r 31 .empty .none id)) ∧
    (∀ site item, s.inquiry = .pending site item →
      exec (.readInquiry r) s = .next (s.answered r 31 .notReady .none id)) ∧
    ∀ (slot : Inquiry) (site item : Nat), s.inquiry = slot →
      ((∃ v, slot = .done site item v) ∨ ∃ why, slot = .failed site item why) →
      exec (.readInquiry r) s =
        .next (s.answered r 31 .ok (.inquiry slot) fun t => { t with inquiry := .empty })

/-- BUS_POWER on needs a map and a mode other than HALTED; it leaves a switch that is ON as it is, and
puts one that is OFF or TRIPPED ON in blanking. BUS_POWER off leaves OFF as it is, takes TRIPPED to OFF
with its cause kept, is refused with BUSY while a robot of the bus is in a leg or HALTING, and otherwise
takes ON to OFF with cause REQUEST and the bus's power is lost. That an off's OK carries the switch state is
the model's choice (log entry 41). -/
def Obligations.BusPowerActsByTheSwitch : Prop :=
  ∀ (s : State) (r : Req) (n : Nat) (b : Bus), sentTo .sequencer r → n ≤ 7 → s.buses[n]? = some b →
    let ends (c : Instr) (st : Status) (body : Body) (f : State → State) := exec c s =
      .next (s.answered r 32 st body f)
    (s.map = none → ends (.busPowerOn r n) .noMap .none id) ∧
    (s.map ≠ none → s.mode = .halted → ends (.busPowerOn r n) .wrongMode .none id) ∧
    (s.map ≠ none → s.mode ≠ .halted →
      (b.switch = .on → ends (.busPowerOn r n) .ok (.switch .on) id) ∧
      (b.switch ≠ .on → ends (.busPowerOn r n) .ok (.switch .on) fun t => t.modBus n fun x =>
        { x with switch := .on, blanking := true, switchedOn := s.now, overCount := 0 })) ∧
    (b.switch = .off → ends (.busPowerOff r n) .ok (.switch .off) id) ∧
    (b.switch = .tripped → ends (.busPowerOff r n) .ok (.switch .off) fun t => t.modBus n fun x =>
      { x with switch := .off, overCount := 0 }) ∧
    (b.switch = .on → 0 < s.concurrency n → ends (.busPowerOff r n) .busy .none id) ∧
    (b.switch = .on → s.concurrency n = 0 → s.Takes r 32 → ∃ t b', exec (.busPowerOff r n) s = .next t ∧
      t = s.answered r 32 .ok (.switch .off) (·.engine t) ∧ s.PowerLost t n ∧
      t.buses[n]? = some b' ∧ b'.switch = .off ∧ b'.lastOff = .request ∧ b'.blanking = false ∧
      b'.overCount = 0 ∧ b'.tripCurrent = b.tripCurrent ∧ b'.tripJabber = b.tripJabber ∧
      t.notices.busTrip = s.notices.busTrip)

/-- A sample of the channel whose turn it is replaces the latest and raises the peak. While the switch is
ON past blanking, one at or below H sets the count to 0, and one above adds one to it, up to 15; a count
that reaches K trips the bus for CURRENT. A sample of another channel, or a second one of the same
millisecond, is none of the converter's and changes nothing. A jabber on a bus that is ON trips it for
JABBER. A trip puts the switch TRIPPED with its latch set and the bus's power lost, and latches BUS_TRIP.
Which channel is converted in which millisecond, and that another sample changes nothing, are the model's
choices (log entries 8 and 10). -/
def Obligations.SamplesAndJabberTripBuses : Prop :=
  ∀ (s : State) (n milliamps : Nat) (b : Bus), s.buses[n]? = some b →
    let v := min milliamps 4095
    let count := if b.overCount < 15 then b.overCount + 1 else b.overCount
    let sampled (c : Nat) : State :=
      { s.modBus n fun x => { x with latest := v, peak := max b.peak v, overCount := c } with
        conversionDue := false }
    let turn := n = s.converter ∧ s.conversionDue = true
    let trips (t : State) := s.PowerLost t n ∧ t.notices.busTrip = true ∧
      ∃ b', t.buses[n]? = some b' ∧ b'.switch = .tripped ∧ b'.lastOff = .trip ∧
        b'.blanking = false ∧ b'.overCount = 0
    (¬ turn → exec (.currentSample n milliamps) s = .next s) ∧
    (turn → b.switch ≠ .on ∨ b.blanking = true →
      exec (.currentSample n milliamps) s = .next (sampled b.overCount)) ∧
    (turn → b.switch = .on → b.blanking = false →
      (v ≤ b.threshold → exec (.currentSample n milliamps) s = .next (sampled 0)) ∧
      (b.threshold < v → count < b.tripCount →
        exec (.currentSample n milliamps) s = .next (sampled count)) ∧
      (b.threshold < v → b.tripCount ≤ count → ∃ t b', exec (.currentSample n milliamps) s = .next t ∧
        t = { s.engine t with conversionDue := false } ∧ trips t ∧ t.buses[n]? = some b' ∧
        b'.latest = v ∧ b'.peak = max b.peak v ∧ b'.tripCurrent = true ∧
        b'.tripJabber = b.tripJabber)) ∧
    (b.switch = .on → ∃ t b', exec (.jabber n) s = .next t ∧ t = s.engine t ∧ trips t ∧
      t.buses[n]? = some b' ∧ b'.tripJabber = true ∧ b'.tripCurrent = b.tripCurrent) ∧
    (b.switch ≠ .on → exec (.jabber n) s = .next s)

/-- The end of blanking begins a census with window 4. A ROLLCALL opens a round and each slot that is
judged is noted, a GARBLED one as a collision. At the last slot the CLEAN serials are handled in slot
order and a GARBLED slot doubles the window, up to 32. A round of EMPTY slots ends the census COMPLETE in
RUNNING, and the tenth round ends it INCOMPLETE where a slot was not EMPTY; then each OFFLINE site with an
address on the bus is LOST(POWER), one with no history pins its lenses, and every other OFFLINE site and
every other pin stays so. That a round is counted as its ROLLCALL is broadcast is the model's choice (log
entry 25). -/
def Obligations.CensusRunsInRounds : Prop :=
  ∀ (s : State) (n : Nat) (b : Bus), s.buses[n]? = some b →
    (b.switch = .on → b.blanking = true → exec (.blankingEnd n) s = .next (s.modBus n fun x =>
      { x with
        blanking := false, protocol := .census, round := none, nextWindow := 4
        census := ⟨.inProgress, 0, 4, 0, 0, [], [], false⟩ })) ∧
    (b.protocol = .census → b.round = none → exec (.rollcall n) s = .next (s.modBus n fun x =>
      { x with
        census := { x.census with rounds := x.census.rounds + 1, window := x.nextWindow }
        round := some [], stats := countedIn [.framesSent] x.stats
        lastFrames := [⟨none, .rollcall x.nextWindow⟩] })) ∧
    ∀ (slots : List SlotJudgement) (slot : SlotJudgement), b.round = some slots →
      let counted (x : Bus) := if slot = .garbled then countedIn [.collisions] x.stats else x.stats
      (slots.length + 1 < b.census.window →
        exec (.rollcallSlotEnd n slot) s = .next (s.modBus n fun x =>
          { x with round := some (slots ++ [slot]), stats := counted x })) ∧
      (b.census.window ≤ slots.length + 1 → .garbled ∈ slots ++ [slot] →
        (∀ serial, .clean serial ∉ slots ++ [slot]) → b.census.rounds < 10 →
        exec (.rollcallSlotEnd n slot) s = .next (s.modBus n fun x =>
          { x with
            round := none, lastFrames := [], nextWindow := min 32 (2 * x.nextWindow)
            stats := counted x })) ∧
      (b.census.window ≤ slots.length + 1 → (∀ y ∈ slots ++ [slot], y = .empty) →
        ∃ t b', exec (.rollcallSlotEnd n slot) s = .next t ∧ t = s.engine t ∧
          t.buses[n]? = some b' ∧ b'.protocol = .running ∧
          b'.census = { b.census with result := .complete } ∧ b'.keepaliveTime = some s.now ∧
          b'.lastPolled = none ∧ b'.lastKeepalive = none ∧ b'.addresses = b.addresses ∧
          ∀ (i : Nat) (r : Robot), s.robots[i]? = some r → r.state = .offline →
            let known := ∃ e, some e ∈ b.addresses ∧ e.site = some i
            (known → t.robots[i]? = some { r with state := .lost .power }) ∧
            (¬ known → t.robots[i]? = some r)) ∧
      (b.census.window ≤ slots.length + 1 →
        let judged := slots ++ [slot]
        let serials := judged.filterMap fun y => match y with
          | .clean serial => some serial
          | .empty => none
          | .garbled => none
        let handled := serials.foldl (fun u serial => u.cleanSerial n serial)
          (s.modBus n fun x => { x with round := none, lastFrames := [], stats := counted x })
        let u := handled.modBus n fun x =>
          { x with nextWindow := if .garbled ∈ judged then min 32 (2 * x.nextWindow) else x.nextWindow }
        let empty := ∀ y ∈ judged, y = .empty
        (¬ empty → b.census.rounds < 10 → exec (.rollcallSlotEnd n slot) s = .next u) ∧
        (empty ∨ 10 ≤ b.census.rounds →
          ∃ t c b', exec (.rollcallSlotEnd n slot) s = .next t ∧ t = s.engine t ∧
            u.buses[n]? = some c ∧ t.buses[n]? = some b' ∧ b'.protocol = .running ∧
            (empty → b'.census = { c.census with result := .complete }) ∧
            (¬ empty → b'.census = { c.census with result := .incomplete }) ∧
            b'.keepaliveTime = some s.now ∧ b'.lastPolled = none ∧ b'.lastKeepalive = none ∧
            b'.addresses = c.addresses ∧ b'.stats = c.stats ∧ b'.lastFrames = c.lastFrames ∧
            let found (i : Nat) (r : Robot) := s.robots[i]? = some r ∧ r.state = .offline ∧
              ∃ e, some e ∈ c.addresses ∧ e.site = some i
            (∀ (i : Nat) (r : Robot), s.robots[i]? = some r → r.state = .offline →
              (found i r → t.robots[i]? = some { r with state := .lost .power }) ∧
              (¬ found i r → t.robots[i]? = some r)) ∧
            (∀ (i : Nat) (r : Robot), found i r → r.history = .none → s.DiscoveryPinned t i) ∧
            ∀ (i : Nat) (l : Lens) (d : Decided) (p : Party), s.NoDenialWaits → s.QueuesRoomy →
              s.lenses[i]? = some l → l.body = .decided d →
              (∀ j r, l.side p = .site j → found j r → r.history ≠ .none) →
              ∃ d', (t.lenses[i]?).map (·.body) = some (.decided d') ∧ d'.pinned p = d.pinned p))

/-- A CLEAN serial is handled by the first row of R160's table that applies: a serial of the learned
table is sent its broadcast again; one of the wiring set or the overflow list is muted again; a site of
another bus is muted, noted and latched as WIRING; with no address free the serial is muted and listed;
otherwise the lowest free address goes to it, with ASSIGN for a site of this bus and MUTE for a stray.
That the wiring set is kept in the order found is the model's choice (log entry 36). -/
def Obligations.SerialsAreHandledByTheTable : Prop :=
  ∀ (s : State) (n : Nat) (b : Bus) (serial : Serial), s.buses[n]? = some b →
    let site := s.map.bind fun m => m.sites.findIdx? fun x => x.serial == serial
    let sends (body : BusBody) (f : Bus → Bus) : State := s.modBus n fun x =>
      { f x with
        stats := countedIn [.framesSent] x.stats, lastFrames := x.lastFrames ++ [⟨none, body⟩] }
    let entered := ∃ e, some e ∈ b.addresses ∧ e.serial = serial
    let noted := (∃ i, site = some i ∧ i ∈ b.census.wiring) ∨ serial ∈ b.census.overflow
    let stray := if b.census.strays < 255 then b.census.strays + 1 else b.census.strays
    (∀ a e, b.addresses[a]? = some (some e) → e.serial = serial →
      (∀ a' e', a' < a → b.addresses[a']? = some (some e') → e'.serial ≠ serial) →
      s.cleanSerial n serial =
        sends (if e.site = none then .mute serial else .assign serial a) id) ∧
    (¬ entered → noted → s.cleanSerial n serial = sends (.mute serial) id) ∧
    (¬ entered → ¬ noted →
      (∀ i, site = some i → s.busOf i ≠ n → s.cleanSerial n serial =
        { sends (.mute serial) fun x =>
            { x with census := { x.census with wiring := x.census.wiring ++ [i] } } with
          notices := { s.notices with wiring := true } }) ∧
      ((∀ i, site = some i → s.busOf i = n) →
        (none ∉ b.addresses → s.cleanSerial n serial = sends (.mute serial) fun x =>
          { x with census := { x.census with
              overfull := true
              strays := if site = none then stray else x.census.strays
              overflow := if x.census.overflow.length < 16 then x.census.overflow ++ [serial]
                else x.census.overflow } }) ∧
        ∀ a, b.addresses[a]? = some none → (∀ a', a' < a → b.addresses[a']? ≠ some none) →
          (∀ i, site = some i → s.cleanSerial n serial = sends (.assign serial a) fun x =>
            { x with
              addresses := x.addresses.set a (some ⟨serial, some i⟩)
              census := { x.census with assigned := x.census.assigned + 1 } }) ∧
          (site = none → s.cleanSerial n serial = sends (.mute serial) fun x =>
            { x with
              addresses := x.addresses.set a (some ⟨serial, none⟩)
              census := { x.census with strays := stray } })))

/-- On a free bus in RUNNING the places of R157 come in order. A broadcast HALT is sent before any
addressed one, and the oldest addressed one first; with no leg to dispatch, the next due robot above the
last is polled; with none due, no poll begins, and the oldest SET_COUNTS or INQUIRE does; with none
pending, and the keepalive interval run, the next robot at rest above the last is polled to keep alive,
and before that interval has run none is. While a HALT waits, no later place begins anything. That a
command whose place has nothing to send, or whose time has not come, changes nothing is the model's choice
(log entries 10 and 12). -/
def Obligations.ArbitersServeTheirPlacesInOrder : Prop :=
  ∀ (s : State) (n : Nat) (b : Bus), s.buses[n]? = some b → b.protocol = .running → b.txn = none →
    (b.haltBroadcast = true → exec (.haltBroadcast n) s = .next (s.modBus n fun x =>
      { x with
        haltBroadcast := false, stats := countedIn [.framesSent, .haltsSent] x.stats
        lastFrames := [⟨none, .halt⟩] })) ∧
    (∀ site rest, b.haltBroadcast = false → b.haltAddressed = site :: rest →
      exec (.haltAddressed n) s =
        .next ((s.modBus n fun x => { x with haltAddressed := rest }).begun n .halt site)) ∧
    (b.haltBroadcast = true ∨ b.haltAddressed ≠ [] → ∀ c : Instr,
      c ∈ [.legDispatch n, .poll n, .setCounts n, .inquireTransaction n, .keepalivePoll n] →
      exec c s = .next s) ∧
    (b.haltBroadcast = false → b.haltAddressed = [] →
      (s.mode ≠ .opened ∨ (b.queueA = [] ∧ b.queueB = []) ∨
        b.concurrencyLimit ≤ s.concurrency n) →
      (∀ site, NextAbove (s.pollDue n) b.lastPolled site →
        exec (.poll n) s = .next
          (((s.modRobot site fun r => { r with pollTime := some s.now }).modBus n fun x =>
            { x with lastPolled := some site }).begun n .poll site)) ∧
      ((∀ i, ¬ s.pollDue n i) → exec (.poll n) s = .next s ∧
        (∀ site anchor rest, b.pendingOps = .setCounts site anchor :: rest →
          exec (.setCounts n) s = .next
            ((s.modBus n fun x => { x with pendingOps := rest }).begun n (.setCounts anchor) site)) ∧
        (∀ site item rest, b.pendingOps = .inquire site item :: rest →
          exec (.inquireTransaction n) s = .next
            ((s.modBus n fun x => { x with pendingOps := rest }).begun n (.inquire item false) site)) ∧
        (∀ k, b.keepaliveTime = some k → s.now < k + s.params.keepaliveInterval →
          exec (.keepalivePoll n) s = .next s) ∧
        (∀ site k, b.pendingOps = [] → b.keepaliveTime = some k →
          k + s.params.keepaliveInterval ≤ s.now → NextAbove (s.keptAlive n) b.lastKeepalive site →
          exec (.keepalivePoll n) s = .next
            ((s.modBus n fun x =>
              { x with keepaliveTime := some s.now, lastKeepalive := some site }).begun n .poll site))))

/-- The share serves class A while the credit is above 0, each time spending one, and class B at 0,
which restores it; with one queue empty the other is served. The dispatch takes the head of the queue
served, gives its leg the tag after the tag memory, puts the robot IN_LEG and begins the MOVE. A
DEPLOY's target lens becomes OCCUPIED with it, and a CLIENT lens sends HOLD. -/
def Obligations.LegsAreDispatchedByTheShare : Prop :=
  (∀ (share : ShareRatio) (b : Bus) (ratio : Nat),
    let a := b.queueA ≠ []
    let bb := b.queueB ≠ []
    (share.credit = some ratio →
      (a → bb → 0 < b.credit → chooseQueue share b = (true, b.credit - 1)) ∧
      (a → bb → b.credit = 0 → chooseQueue share b = (false, ratio)) ∧
      (a → ¬ bb → chooseQueue share b = (true, b.credit)) ∧
      (¬ a → bb → chooseQueue share b = (false, ratio))) ∧
    (share = .strictA → (a → chooseQueue share b = (true, b.credit)) ∧
      (¬ a → bb → chooseQueue share b = (false, b.credit)))) ∧
  ∀ (s : State) (n : Nat) (b : Bus) (site : Nat) (rest : List Nat) (r : Robot) (m : Move) (leg : Leg),
    s.buses[n]? = some b → b.protocol = .running → b.txn = none → b.haltBroadcast = false →
    b.haltAddressed = [] → s.mode = .opened → s.concurrency n < b.concurrencyLimit →
    let chosen := chooseQueue s.params.share b
    (if chosen.1 then b.queueA else b.queueB) = site :: rest →
    s.robots[site]? = some r → r.move = some m → m.leg = some leg → s.NoDenialWaits →
    let tag := (r.tagMemory + 1) % 256
    let sent := ((s.modBus n fun x =>
      { x with
        queueA := if chosen.1 then rest else x.queueA
        queueB := if chosen.1 then x.queueB else rest
        credit := chosen.2 }).modRobot site fun y =>
          { y with
            state := .inLeg, pollTime := none
            move := some { m with tag := some tag, dispatch := none } }).begun n (.move leg tag) site
    (leg.kind ≠ .deploy ∨ m.targetLens = none → exec (.legDispatch n) s = .next sent) ∧
    ∀ i l, leg.kind = .deploy → m.targetLens = some i → s.lenses[i]? = some l →
      (∀ d p, l.body = .decided d → l.partyOf site = some p → d.heldBy p = true →
        exec (.legDispatch n) s = .next (sent.modLens i fun _ =>
          .decided { d with holder := some (p, .occupied) })) ∧
      (∀ c p k u, l.body = .client c → l.partyOf site = some p → c.claim = .heldReserved →
        l.link = some k → s.links[k]? = some u → u.state = .up → u.transmit.length < 64 →
        exec (.legDispatch n) s = .next ((sent.modLens i fun _ =>
          .client { c with claim := .heldOccupied, deadline := none }).withMessage k i .hold))

/-- A missing reply and a check error count and fail the attempt. Below the limit the same frame is sent
again and the retry counted; but a MOVE whose mode has left OPEN, or whose robot is no longer IN_LEG, is
dropped. At the limit the transaction fails: one failure more for the robot, and at the failure limit it
is LOST(SILENT); short of that a MOVE's robot in its leg is LOST(UNCERTAIN), a re-anchor ends LOST(POWER), and an
inquiry is FAILED with NO_REPLY. A robot that is lost has its lens parts converted. That a HOME's robot is
LOST(UNCERTAIN) so too is the model's choice (log entry 22). -/
def Obligations.FailedAttemptsAreRetriedThenFail : Prop :=
  ∀ (s : State) (n : Nat) (b : Bus) (x : Txn) (r : Robot) (c : Instr) (o : StatObject),
    s.buses[n]? = some b → b.txn = some x → s.robots[x.site]? = some r → s.NoDenialWaits →
    (c, o) ∈ [(.robotReplyMissing n, .replyTimeouts),
      (.robotReplyCheckError n, StatObject.checkErrors)] →
    let isMove := ∃ leg tag, x.kind = .move leg tag
    let goesOn := s.mode = .opened ∧ r.state = .inLeg
    (x.attempts < x.limit → ¬ isMove ∨ goesOn → exec c s = .next (s.modBus n fun y =>
      { y with
        txn := some { x with attempts := x.attempts + 1 }
        stats := countedIn (o :: .retries :: frameObjects x.kind) y.stats
        lastFrames := [⟨s.addressOf x.site, x.kind.body⟩] })) ∧
    (x.attempts < x.limit → isMove → ¬ goesOn → exec c s = .next (s.txnEnded n [o])) ∧
    (x.limit ≤ x.attempts →
      let failures := if r.failures < 8 then r.failures + 1 else r.failures
      let silent := s.params.failureLimit ≤ failures ∧ r.state ≠ .lost .silent ∧ r.state ≠ .offline
      ∃ t b' r', exec c s = .next t ∧ t = s.engine t ∧ t.buses[n]? = some b' ∧ b'.txn = none ∧
        b'.stats = countedIn [o, .failedTransactions] b.stats ∧ t.robots[x.site]? = some r' ∧
        r'.failures = failures ∧
        (silent → r'.state = .lost .silent ∧ r'.alpha = none ∧ r'.beta = none ∧ r'.move = none ∧
          r'.anchor = none ∧ s.LossConverted t x.site none) ∧
        (¬ silent → isMove → r.state = .inLeg →
          r'.state = .lost .uncertain ∧ r'.alpha = none ∧ r'.beta = none ∧ r'.move = none ∧
          s.LossConverted t x.site none) ∧
        (¬ silent → (∃ p, x.kind = .setCounts p) → r.state = .anchoring →
          r' = { r with failures := failures, state := .lost .power, anchor := none }) ∧
        (¬ silent → x.kind = .poll ∨ x.kind = .halt → t = (s.txnEnded n
          [o, .failedTransactions]).modRobot x.site fun y => { y with failures := failures }) ∧
        (∀ item site k, x.kind = .inquire item false → s.inquiry = .pending site k →
          t.inquiry = .failed site k .noReply ∧ t.notices.inquiryDone = true))

/-- A good reply ends its transaction, is counted, and leaves its robot no failures. One with a MOVE's
tag accepts the leg, of a robot that is HALTING by then too: its dispatch time, time limit and poll
schedule start. One with another tag fails its attempt: the next is sent, or the transaction is dropped
where the mode has left OPEN or the robot its leg; at the limit it fails, with one failure counted, the
robot LOST(SILENT) where that is the failure limit, and otherwise LOST(UNCERTAIN) in its leg, where a
HOME's robot so lost is the model's choice (log entry 22), and not lost when HALTING, which is the model's
choice (log entry 40). An acknowledged HALT does nothing more. An item enters the inquiry slot as DONE, or
FAILED where it is unsupported, unless the inquiry was withdrawn. A SET_COUNTS reply with other counts, or
none valid, ends the re-anchor LOST(POWER); the right counts end it at the anchor position where they are
consistent with the lenses, and LOST(UNCERTAIN) with fault code INCONSISTENT and R67's pins where they are
not. That an item reply's item number is not compared with the one asked for is the model's choice (log
entry 32). -/
def Obligations.GoodRepliesEndTheirTransactions : Prop :=
  ∀ (s : State) (n : Nat) (b : Bus) (x : Txn) (r : Robot) (rep : StatusReply),
    s.buses[n]? = some b → b.txn = some x → s.robots[x.site]? = some r → s.NoDenialWaits →
    let ended (f : Robot → Robot) : State := (s.txnEnded n [.goodReplies]).modRobot x.site f
    let answer := exec (.robotReplyGood n (.status rep)) s
    (∀ leg tag m, x.kind = .move leg tag → rep.tag = tag → r.state = .inLeg ∨ r.state = .halting →
      r.move = some m → answer = .next (ended fun y =>
        { y.reported rep with
          pollTime := some s.now
          move := some { m with dispatch := some s.now, legLimit := s.params.legTimeLimit } })) ∧
    (∀ leg tag, x.kind = .move leg tag → rep.tag ≠ tag → x.attempts < x.limit → s.mode = .opened →
      r.state = .inLeg → answer = .next ((s.modBus n fun y =>
        { y with
          txn := some { x with attempts := x.attempts + 1 }
          stats := countedIn [.goodReplies, .retries, .framesSent] y.stats
          lastFrames := [⟨s.addressOf x.site, x.kind.body⟩] }).modRobot x.site fun y =>
            y.reported rep)) ∧
    (∀ leg tag, x.kind = .move leg tag → rep.tag ≠ tag → x.attempts < x.limit →
      s.mode ≠ .opened ∨ r.state ≠ .inLeg → answer = .next (ended fun y => y.reported rep)) ∧
    (∀ leg tag, x.kind = .move leg tag → rep.tag ≠ tag → x.limit ≤ x.attempts →
      let silent := s.params.failureLimit ≤ 1 ∧ r.state ≠ .lost .silent ∧ r.state ≠ .offline
      ∃ t r' b', answer = .next t ∧ t = s.engine t ∧ t.robots[x.site]? = some r' ∧
        t.buses[n]? = some b' ∧ b'.txn = none ∧
        b'.stats = countedIn [.goodReplies, .failedTransactions] b.stats ∧
        r'.last = some rep ∧ r'.tagMemory = rep.tag ∧ r'.failures = 1 ∧
        (silent ∨ r.state = .inLeg →
          r'.state = .lost (if s.params.failureLimit ≤ 1 then .silent else .uncertain) ∧
          r'.alpha = none ∧ r'.beta = none ∧ r'.move = none ∧ s.LossConverted t x.site none) ∧
        (¬ silent → r.state ≠ .inLeg → t = (s.txnEnded n [.goodReplies, .failedTransactions]).modRobot
          x.site fun y => { y.reported rep with failures := 1 })) ∧
    (x.kind = .halt → exec (.robotReplyGood n .acknowledge) s =
      .next (ended fun y => { y with failures := 0 })) ∧
    (∀ item withdrawn number value, x.kind = .inquire item withdrawn →
      (withdrawn = true → exec (.robotReplyGood n (.item number value)) s =
        .next (ended fun y => { y with failures := 0 })) ∧
      (∀ site k, withdrawn = false → s.inquiry = .pending site k →
        exec (.robotReplyGood n (.item number value)) s = .next
          { ended fun y => { y with failures := 0 } with
            inquiry := match value with
              | some v => .done site k v
              | none => .failed site k .unsupported
            notices := { s.notices with inquiryDone := true } })) ∧
    (∀ p q, x.kind = .setCounts q → r.state = .anchoring → r.anchor = some p →
      (rep.countsValid = false ∨ rep.alpha ≠ p.alpha ∨ rep.beta ≠ p.beta →
        answer = .next (ended fun y =>
          { y.reported rep with state := .lost .power, anchor := none })) ∧
      (rep.countsValid = true → rep.alpha = p.alpha → rep.beta = p.beta →
        s.consistent x.site p = true →
        ∃ t r', answer = .next t ∧ t = s.engine t ∧ t.robots[x.site]? = some r' ∧
          r' = { r.reported rep with
            alpha := some p.alpha, beta := some p.beta, history := .frozen, anchor := none
            epoch := (if r.epoch < 4294967295 then r.epoch + 1 else r.epoch), converged := false
            state := if r.fault = none then .idle else .faulted } ∧ t.posChanged = true) ∧
      (rep.countsValid = true → rep.alpha = p.alpha → rep.beta = p.beta →
        s.consistent x.site p = false →
        ∃ t r', answer = .next t ∧ t = s.engine t ∧ t.robots[x.site]? = some r' ∧
          r'.last = some rep ∧ r'.tagMemory = rep.tag ∧ r'.failures = 0 ∧
          r'.state = .lost .uncertain ∧ r'.fault = some .inconsistent ∧ r'.anchor = none ∧
          r'.alpha = none ∧ r'.beta = none ∧ r'.epoch = r.epoch ∧ t.posChanged = s.posChanged ∧
          s.ReportPinned t x.site p))

/-- A poll reply of a robot in a leg, by the first row of R85 that holds: counts not valid, LOST(POWER);
FAULT, FAULTED at the reported position with the reply's code; another tag, LOST(UNCERTAIN), halted if
it moves; MOVING, the leg goes on; STILL, the leg is complete: off target STALLED, DONE after the last
leg with its facing lens OCCUPIED, an end at the boundary, or the next leg. A report that is inconsistent
loses the robot and pins its facing lens; a robot that is lost has its lens parts converted. At a boundary
with beta stowed every lens part is given up but the target lens, which a robot that holds it keeps
RESERVED; the next leg joins its queue, but a DEPLOY whose target lens the robot does not hold waits for
it until a deadline. That a FAULT reply with fault code none leaves the record no code (log entry 23), and
that counts outside the axes' ranges are taken as they stand (log entry 38), are the model's choices. -/
def Obligations.LegPollsFollowTheirTable : Prop :=
  ∀ (s : State) (n : Nat) (b : Bus) (x : Txn) (r : Robot) (m : Move) (leg : Leg) (rep : StatusReply),
    s.buses[n]? = some b → b.txn = some x → x.kind = .poll → s.robots[x.site]? = some r →
    r.state = .inLeg → r.move = some m → m.leg = some leg → m.kind ≠ .home → leg.kind ≠ .fold →
    leg.kind ≠ .seek → m.haltCause = none → s.NoDenialWaits →
    let p : Pos := ⟨rep.alpha, rep.beta⟩
    let epoch := if r.epoch < 4294967295 then r.epoch + 1 else r.epoch
    let onTarget := (∀ a, leg.alpha = some a → a = rep.alpha) ∧ ∀ c, leg.beta = some c → c = rep.beta
    let tagged := m.tag = some rep.tag
    ∃ t r', exec (.robotReplyGood n (.status rep)) s = .next t ∧ t = s.engine t ∧
      t.robots[x.site]? = some r' ∧ r'.last = some rep ∧ r'.tagMemory = rep.tag ∧ r'.failures = 0 ∧
      let ends (st : RobotState) (o : MoveOutcome) :=
        r'.state = st ∧ r'.move = none ∧ r'.lastOutcome = some o
      let accepted := r'.alpha = some rep.alpha ∧ r'.beta = some rep.beta ∧ r'.epoch = epoch ∧
        t.posChanged = true
      (rep.countsValid = false → ends (.lost .power) .lost ∧ r'.alpha = none ∧ r'.beta = none ∧
        s.LossConverted t x.site none) ∧
      (rep.countsValid = true → rep.motion = .fault → s.consistent x.site p = true →
        ends .faulted .fault ∧ accepted ∧ r'.fault = rep.fault.map FaultCode.ofReply ∧
        r'.dirAlpha = r.dirAlpha ∧ r'.dirBeta = r.dirBeta) ∧
      (rep.countsValid = true → rep.motion = .fault ∨ (rep.motion = .still ∧ tagged) →
        s.consistent x.site p = false →
        ends (.lost .uncertain) .lost ∧ r'.fault = some .inconsistent ∧ r'.epoch = r.epoch ∧
          s.ReportPinned t x.site p) ∧
      (rep.countsValid = true → rep.motion ≠ .fault → ¬ tagged →
        ends (.lost .uncertain) .lost ∧ s.LossConverted t x.site none ∧ (rep.motion = .moving → ∀ y, s.buses[r.bus]? = some y →
          ∃ y', t.buses[r.bus]? = some y' ∧ x.site ∈ y'.haltAddressed)) ∧
      (rep.countsValid = true → rep.motion = .moving → tagged →
        t = (s.txnEnded n [.goodReplies]).modRobot x.site fun y => y.reported rep) ∧
      (rep.countsValid = true → rep.motion = .still → tagged → s.consistent x.site p = true →
        accepted ∧ (¬ onTarget → ends .faulted .stalled ∧ r'.fault = some .stall) ∧
        (onTarget → m.legs.length ≤ m.index + 1 → ends .idle .done ∧
          ∀ i l d me, s.facingLens x.site p = some i → s.lenses[i]? = some l → l.body = .decided d →
            l.partyOf x.site = some me → d.wf = true → d.heldBy me = true →
            ∃ d', (t.lenses[i]?).map (·.body) = some (.decided d') ∧
              d'.holder = some (me, .occupied)) ∧
        (onTarget → m.index + 1 < m.legs.length →
          (m.pendingDenial ≠ none → ends .idle .denied) ∧
          (m.pendingDenial = none → s.Partless x.site ∨ s.QueuesRoomy →
            (r.enabled = false → ends .idle .disabled) ∧
            (r.enabled = true → m.kind = .field → s.field.cut = true → ends .idle .cut) ∧
            (r.enabled = true → m.kind ≠ .field ∨ s.field.cut = false →
              let goesOn := r'.move = some { m with index := m.index + 1, dispatch := none }
              let joins := r'.state = .queued ∧ ∀ y, s.buses[r.bus]? = some y →
                ∃ y' before, t.buses[r.bus]? = some y' ∧
                  (if m.kind.classA then y'.queueA = before ++ [x.site]
                    else y'.queueB = before ++ [x.site]) ∧
                  (s.Partless x.site → before = if m.kind.classA then y.queueA else y.queueB)
              let deploys := (m.legs[m.index + 1]?).map (·.kind) = some .deploy
              goesOn ∧ (¬ deploys ∨ m.targetLens = none → joins) ∧
              (rep.beta ≤ s.params.stowAngle → s.Vacated t x.site m.targetLens ∧
                ∀ i l me, m.targetLens = some i → s.lenses[i]? = some l →
                  l.partyOf x.site = some me →
                  let deadline := some (s.now + 1000 * s.params.lensWaitLimit)
                  let becomes (b : LensBody) := t.lenses[i]? = some { l with body := b }
                  (∀ d, l.body = .decided d →
                    (d.heldBy me = true → joins ∧
                      becomes (.decided { d with holder := some (me, .reserved) })) ∧
                    (d.heldBy me = false → ¬ deploys → becomes (.decided (d.setPin me false))) ∧
                    (d.heldBy me = false → deploys → r'.state = .waitLens ∧
                      becomes (.decided { d.setPin me false with
                        deadline := if d.waiter = some me then deadline else d.deadline }))) ∧
                  ∀ c, l.body = .client c →
                    (c.claim = .heldReserved ∨ c.claim = .heldOccupied → joins ∧
                      becomes (.client { c with claim := .heldReserved })) ∧
                    (c.claim = .claiming → ¬ deploys → becomes (.client c)) ∧
                    (c.claim = .claiming → deploys → r'.state = .waitLens ∧
                      becomes (.client { c with deadline := deadline })))))))

/-- A HOME's legs and a poll reply of a HALTING robot. FOLD takes beta, gives up every holding and pin of
the robot, and queues the SEEK; SEEK takes alpha and ends DONE. A robot that halts is polled on while it
moves; where it is still and consistent it ends at the reported position with its halt cause's outcome,
none for RESTART; where its report is inconsistent, its counts are not valid, or it was homing, it is LOST
and its lens parts are converted. That counts outside the axes' ranges are taken as they stand (log entry
38), and that of two rows of R90 that hold the first is taken (log entry 43), are the model's choices. -/
def Obligations.HomeLegsAndHaltsComeToTheirEnds : Prop :=
  ∀ (s : State) (n : Nat) (b : Bus) (x : Txn) (r : Robot) (m : Move) (leg : Leg) (rep : StatusReply),
    s.buses[n]? = some b → b.txn = some x → x.kind = .poll → s.robots[x.site]? = some r →
    r.move = some m → m.leg = some leg → s.NoDenialWaits →
    let p : Pos := ⟨rep.alpha, rep.beta⟩
    let epoch := if r.epoch < 4294967295 then r.epoch + 1 else r.epoch
    ∃ t r', exec (.robotReplyGood n (.status rep)) s = .next t ∧ t = s.engine t ∧
      t.robots[x.site]? = some r' ∧ r'.last = some rep ∧ r'.tagMemory = rep.tag ∧ r'.failures = 0 ∧
      (r.state = .inLeg → m.kind = .home → m.haltCause = none → rep.motion = .still →
        m.tag = some rep.tag →
        (leg.kind = .fold → m.index + 1 < m.legs.length → m.pendingDenial = none →
          r.enabled = true → ((m.legs[m.index + 1]?).map (·.kind)) = some .seek →
          s.Partless x.site ∨ s.QueuesRoomy →
          s.Vacated t x.site none ∧ r'.state = .queued ∧ r'.beta = some rep.beta ∧ r'.alpha = r.alpha ∧ r'.epoch = epoch ∧
          r'.move = some { m with index := m.index + 1, dispatch := none }) ∧
        (leg.kind = .seek → s.consistent x.site p = true →
          r'.state = .idle ∧ r'.move = none ∧ r'.lastOutcome = some .done ∧
          r'.alpha = some rep.alpha ∧ r'.beta = r.beta ∧ r'.dirAlpha = none ∧ r'.dirBeta = none ∧
          r'.history = .frozen ∧ r'.epoch = epoch ∧ r'.iterations = 0)) ∧
      (r.state = .halting → ∀ cause, m.haltCause = some cause →
        (rep.motion = .moving → m.kind = .home ∨ rep.countsValid = true →
          t = (s.txnEnded n [.goodReplies]).modRobot x.site fun y => y.reported rep) ∧
        (m.kind ≠ .home → rep.countsValid = false → r'.state = .lost .power ∧ r'.move = none ∧
          s.LossConverted t x.site none) ∧
        (m.kind = .home → rep.motion ≠ .moving → r'.move = none ∧ s.LossConverted t x.site none ∧
          ∃ why, r'.state = .lost why) ∧
        (m.kind ≠ .home → rep.countsValid = true → rep.motion = .still →
          (s.consistent x.site p = false → r'.state = .lost .uncertain ∧
            r'.fault = some .inconsistent ∧ r'.move = none ∧ s.ReportPinned t x.site p) ∧
          (s.consistent x.site p = true → r'.move = none ∧ r'.alpha = some rep.alpha ∧
            r'.beta = some rep.beta ∧ r'.epoch = epoch ∧ t.posChanged = true ∧
            (cause = .abort → r'.state = .idle ∧ r'.lastOutcome = some .aborted) ∧
            (cause = .stall → r'.state = .faulted ∧ r'.fault = some .stall ∧
              r'.lastOutcome = some .stalled) ∧
            (cause = .shutter → r'.state = .idle ∧ r'.lastOutcome = some .halted) ∧
            (cause = .restart → r'.state = .idle ∧ r'.lastOutcome = r.lastOutcome))))

/-- A keepalive reply. An IDLE or FAULTED robot stays as it is only where it is still, with valid
counts, at its believed position; otherwise it is LOST, with cause POWER where its counts are not valid,
and its lens parts are converted. A robot LOST with cause POWER stays so; one of another cause recovers
where its report is consistent, to FAULTED where a fault code is held or reported and else to IDLE, at the
reported position, and pins its facing lens where it is not. That a FAULT reply with fault code none leaves
the record no code (log entry 23), that counts outside the axes' ranges are taken as they stand (log entry
38), and that of two rows of R23 or R24 that hold the first is taken (log entry 43), are the model's choices.
-/
def Obligations.KeepaliveRepliesTestTheRecord : Prop :=
  ∀ (s : State) (n : Nat) (b : Bus) (x : Txn) (r : Robot) (rep : StatusReply),
    s.buses[n]? = some b → b.txn = some x → x.kind = .poll → s.robots[x.site]? = some r →
    s.NoDenialWaits →
    let p : Pos := ⟨rep.alpha, rep.beta⟩
    let told (f : Robot → Robot) : State := (s.txnEnded n [.goodReplies]).modRobot x.site fun y =>
      f (y.reported rep)
    let halted (t : State) : Prop := ∀ y, s.buses[r.bus]? = some y →
      ∃ y', t.buses[r.bus]? = some y' ∧ x.site ∈ y'.haltAddressed
    ∃ t r', exec (.robotReplyGood n (.status rep)) s = .next t ∧ t = s.engine t ∧
      t.robots[x.site]? = some r' ∧
      (r.state = .idle ∨ r.state = .faulted →
        (rep.countsValid = false ∨ rep.motion = .moving ∨ r.believed ≠ some p →
          s.LossConverted t x.site none) ∧
        (rep.countsValid = false → r'.state = .lost .power ∧ r'.alpha = none ∧ r'.beta = none) ∧
        (rep.countsValid = true → rep.motion = .moving → r'.state = .lost .uncertain ∧ halted t) ∧
        (rep.countsValid = true → rep.motion ≠ .moving → r.believed = some p → t = told id) ∧
        (rep.countsValid = true → rep.motion ≠ .moving → r.believed ≠ some p →
          r'.state = .lost .uncertain ∧ r'.alpha = none ∧ r'.beta = none)) ∧
      (r.state = .queued ∨ r.state = .waitLens ∨ r.state = .anchoring ∨ r.state = .lost .power →
        t = told id) ∧
      (r.state = .lost .silent ∨ r.state = .lost .uncertain →
        (rep.countsValid = false → t = told fun y => { y with state := .lost .power }) ∧
        (rep.countsValid = true → rep.motion = .moving →
          r'.state = .lost .uncertain ∧ halted t) ∧
        (rep.countsValid = true → rep.motion ≠ .moving → s.consistent x.site p = true →
          let fault := if r.fault = none ∧ rep.motion = .fault then rep.fault.map FaultCode.ofReply
            else r.fault
          r' = { r.reported rep with
            alpha := some rep.alpha, beta := some rep.beta, history := .frozen, fault := fault
            epoch := (if r.epoch < 4294967295 then r.epoch + 1 else r.epoch), converged := false
            state := if fault = none then .idle else .faulted } ∧ t.posChanged = true) ∧
        (rep.countsValid = true → rep.motion ≠ .moving → s.consistent x.site p = false →
          r'.state = .lost .uncertain ∧ r'.fault = some .inconsistent ∧ r'.epoch = r.epoch ∧
          s.ReportPinned t x.site p))

/-! ### Limits of time -/

/-- A wait deadline that passes ends the waiting robot's move TIMEOUT, its side no longer a waiter. A
leg's time limit queues an addressed HALT, once, and puts the robot HALTING with cause STALL; the halt
time limit leaves a HALTING robot LOST(UNCERTAIN) with no move, its lens parts converted and an
addressed HALT queued; that it does so in a HOME too is the model's choice (log entry 22). The deadline
expiry of a running field under CONTINUE puts the timer in OVER with both counts 0, latches
DEADLINE and marks the record, and changes nothing else. Under CUT it also sets the cut flag and ends
every QUEUED or waiting FIELD move CUT; a FIELD move in a leg or HALTING, and a robot with no move, goes
on. That a command which says a time limit has passed is believed is the model's choice (log entry 12). -/
def Obligations.TimeLimitsEndMovesAndFields : Prop :=
  (∀ (s : State) (site : Nat) (r : Robot) (m : Move), s.robots[site]? = some r → r.move = some m →
     let listed (l : List Nat) := if site ∈ l then l else l ++ [site]
     (r.state = .waitLens → ∃ t r', exec (.waitDeadlinePasses site) s = .next t ∧ t = s.engine t ∧
       t.robots[site]? = some r' ∧ r.EndedAtRest r' .timeout ∧
       ∀ i l p, m.targetLens = some i → s.lenses[i]? = some l → l.partyOf site = some p →
         ∃ l', t.lenses[i]? = some l' ∧ (∀ d, l'.body = .decided d → d.waiter ≠ some p) ∧
           ∀ c, l'.body = .client c → c.claim ≠ .claiming) ∧
     (∀ started, r.state = .inLeg → m.dispatch = some started → exec (.legTimeout site) s = .next
       ((s.modBus r.bus fun b => { b with haltAddressed := listed b.haltAddressed }).modRobot site
         fun y =>
           { y with
             state := .halting
             move := some { m with
               haltCause := some .stall, haltTime := some s.now, dispatch := none } })) ∧
     (r.state = .halting → ∃ t r', exec (.haltTimeLimit site) s = .next t ∧ t = s.engine t ∧
       t.robots[site]? = some r' ∧ r'.state = .lost .uncertain ∧ r'.alpha = none ∧ r'.beta = none ∧
       r'.move = none ∧ s.LossConverted t site none ∧
       (m.haltCause = some .restart → r'.lastOutcome = r.lastOutcome) ∧
       (m.haltCause ≠ some .restart → r'.lastOutcome = some .lost) ∧
       ∀ b, s.buses[r.bus]? = some b → ∃ b', t.buses[r.bus]? = some b' ∧
         b'.haltAddressed = listed b.haltAddressed)) ∧
  ∀ s : State, s.timer.phase = .down → s.field.state = .running → s.MovesSound →
    (s.params.deadlineAction = .runOn → exec .deadlineExpiry s = .next
      { s with
        timer := ⟨s.timer.loaded, 0, 0, .overtime, 0⟩
        field := { s.field with deadlinePassed := true }
        notices := { s.notices with deadline := true } }) ∧
    (s.params.deadlineAction = .cut → ∃ t, exec .deadlineExpiry s = .next t ∧ t = s.engine t ∧
      t.field.deadlinePassed = true ∧ t.field.cut = true ∧ t.notices.deadline = true ∧
      t.timer.remaining = 0 ∧ t.timer.overtime = 0 ∧
      ∀ (i : Nat) (x : Robot), s.robots[i]? = some x → ∃ x', t.robots[i]? = some x' ∧
        (x.atRest = true → (x.move.any fun m => m.kind == .field) = true → x.EndedAtRest x' .cut) ∧
        (x.state = .inLeg → x'.state = .inLeg ∧ x'.move.map (·.kind) = x.move.map (·.kind)) ∧
        (x.state = .halting ∨ x.move = none → x' = x))

/-! ### What every step keeps -/

/-- Every step keeps every lens record within R49: no holder beside a pin, a waiter only behind the
other side's holding, and a wait deadline only with a waiter. -/
def Obligations.EveryStepKeepsTheLensBounds : Prop :=
  ∀ s t : State, s.LensesSound → step s = .next t → t.LensesSound

/-- Every step keeps the capacities of the queues, the sizes of the fixed tables, the tops of the
saturating counts, and the parameters within the ranges of R179. -/
def Obligations.EveryStepKeepsCapacitiesAndRanges : Prop :=
  ∀ s t : State, step s = .next t →
    (s.QueuesSound → t.QueuesSound) ∧ (s.ShapeSound → t.ShapeSound) ∧
    (s.CountsSound → t.CountsSound) ∧ (s.params.inRange = true → t.params.inRange = true)

/-- Every step keeps the robots that have a move exactly those QUEUED, IN_LEG, WAIT_LENS or HALTING, and
leaves no QUEUED or waiting robot with a move that a denial has ended. -/
def Obligations.EveryStepKeepsMovesInTheirStates : Prop :=
  ∀ s t : State, step s = .next t →
    (s.MovesSound → t.MovesSound) ∧ (s.NoDenialWaits → t.NoDenialWaits)

/-- The reset state meets every bound that the steps keep. -/
def Obligations.ResetMeetsTheInvariants : Prop :=
  State.reset.LensesSound ∧ State.reset.QueuesSound ∧ State.reset.ShapeSound ∧
    State.reset.CountsSound ∧ State.reset.params.inRange = true ∧ State.reset.MovesSound ∧
    State.reset.NoDenialWaits
end

