-- ==== Sys2Proof/Laws/LensRecords.lean ====
section
/-! SUPPORT. What each change of a decided record keeps: the bounds of R49 (`Decided.wf`). -/

namespace Sys2Proof.Machine

theorem Decided.wf_empty : Decided.empty.wf = true := by decide

/-- The bounds of R49 as three facts. -/
theorem Decided.wf_iff (d : Decided) :
    d.wf = true ↔ (d.holder = none ∨ (d.pinA = false ∧ d.pinB = false)) ∧
      (d.waiter = none → d.deadline = none) ∧ ∀ w, d.waiter = some w → d.heldBy w.other = true := by
  rcases d with ⟨h, pa, pb, w, t⟩
  cases h <;> cases w <;> simp [Decided.wf, Decided.heldBy]

/-- A waiter stands only behind a holder. -/
theorem Decided.waiter_none {d : Decided} (hd : d.wf = true) (hh : d.holder = none) :
    d.waiter = none := by
  rcases d with ⟨h, pa, pb, w, t⟩
  cases hh
  cases w <;> simp_all [Decided.wf, Decided.heldBy]

theorem Decided.wf_dropWaiter {d : Decided} (hd : d.wf = true) : d.dropWaiter.wf = true := by
  rcases d with ⟨h, pa, pb, w, t⟩
  cases h <;> cases w <;> simp_all [Decided.wf, Decided.dropWaiter]

theorem Decided.wf_release {d : Decided} (hd : d.wf = true) : d.release.wf = true := by
  rcases d with ⟨_ | ⟨p, k⟩, pa, pb, _ | w, t⟩ <;> (try cases w) <;> (try cases p) <;>
    simp_all [Decided.wf, Decided.release, Decided.heldBy, Party.other]

theorem Decided.wf_toPin {d : Decided} (p : Party) : (d.toPin p).wf = true := by
  rcases d with ⟨h, pa, pb, w, t⟩
  cases p <;> simp [Decided.wf, Decided.toPin, Decided.setPin]

theorem Decided.wf_addPin {d : Decided} (p : Party) (hd : d.wf = true) : (d.addPin p).wf = true := by
  rcases d with ⟨_ | ⟨q, k⟩, pa, pb, _ | w, t⟩ <;> cases p <;> (try cases w) <;>
    simp_all [Decided.wf, Decided.addPin, Decided.setPin, Decided.heldBy, Party.other]

theorem Decided.wf_removePin {d : Decided} (p : Party) (hd : d.wf = true) :
    (d.removePin p).wf = true := by
  rcases d with ⟨_ | ⟨q, k⟩, pa, pb, _ | w, t⟩ <;> cases p <;> (try cases w) <;>
    simp_all [Decided.wf, Decided.removePin, Decided.setPin, Decided.heldBy, Party.other]

theorem Decided.wf_setKind {d : Decided} (p : Party) (k : HoldKind) (hd : d.wf = true) :
    (d.setKind p k).wf = true := by
  rcases d with ⟨_ | ⟨q, j⟩, pa, pb, _ | w, t⟩ <;> cases p <;> (try cases w) <;> (try cases q) <;>
    simp_all [Decided.wf, Decided.setKind, Decided.heldBy, Party.other]

theorem Decided.wf_occupyBy {d : Decided} (p : Party) (hd : d.wf = true) :
    (d.occupyBy p).wf = true := by
  rcases d with ⟨_ | ⟨q, j⟩, pa, pb, _ | w, t⟩ <;> cases p <;> (try cases w) <;> (try cases q) <;>
    cases pa <;> cases pb <;>
    simp_all [Decided.wf, Decided.occupyBy, Decided.removePin, Decided.setPin, Decided.pinned,
      Decided.heldBy, Party.other]

theorem Decided.wf_grantTo {d : Decided} (p : Party) : (d.grantTo p).wf = true := by
  simp [Decided.wf, Decided.grantTo]

theorem Decided.wf_queueFor {d : Decided} (p : Party) (hd : d.wf = true) :
    (d.queueFor p).wf = true := by
  rcases d with ⟨_ | ⟨q, j⟩, pa, pb, w, t⟩ <;> cases p <;> (try cases q) <;> cases pa <;> cases pb <;>
    simp_all [Decided.wf, Decided.queueFor, Decided.heldBy, Party.other]

theorem Decided.wf_setDeadline {d : Decided} (p : Party) (t : Nat) (hd : d.wf = true) :
    (d.setDeadline p t).wf = true := by
  rcases d with ⟨h, pa, pb, _ | w, u⟩ <;> cases p <;> (try cases w) <;>
    simp_all [Decided.wf, Decided.setDeadline, Decided.heldBy]

theorem Decided.wf_applyClaim {d : Decided} (p : Party) (r : ClaimResult) (hd : d.wf = true) :
    (applyClaim d p r).wf = true := by
  cases r with
  | grant => exact wf_grantTo (d := d) p
  | queue => exact wf_queueFor p hd
  | deny _ => exact hd

/-! ### What a claim comes to (R53) -/

/-- Row 1 of R53: a FREE lens is granted. -/
theorem decideClaim_free {d : Decided} {a b : Bool} (h : d.state = .free) :
    decideClaim d a b = .grant := by
  rcases d with ⟨_ | ⟨q, _ | _⟩, _ | _, _ | _, w, t⟩ <;> simp_all [Decided.state, decideClaim]

/-- Row 2 of R53: a PINNED lens is denied. -/
theorem decideClaim_pinned {d : Decided} {a b : Bool} (h : d.state = .pinned) :
    decideClaim d a b = .deny .pinned := by
  rcases d with ⟨_ | ⟨q, _ | _⟩, _ | _, _ | _, w, t⟩ <;> simp_all [Decided.state, decideClaim]

end Sys2Proof.Machine
end

