-- ==== Sys2Proof/Laws/Acts.lean ====
section
/-! SUPPORT. `Acts s t`: t comes from s by changes of robot records, buses, link units, lens records, the
outcome queue, the field, the timer, the notices, the inquiry slot and the positions-changed flag, each
within its bounds. Every operation of the lens table, the link units, the move engine and the bus
controllers acts so; what such a change can and cannot do is then proved once. -/

namespace Sys2Proof.Machine

/-- The bounds of one link unit. -/
def Link.Bounded (l : Link) : Prop :=
  l.transmit.length ≤ Config.transmitDepth ∧ l.errors ≤ Config.top16 ∧ l.drops ≤ Config.top8

/-- The shape of one bus. -/
def Bus.Shaped (b : Bus) : Prop := b.addresses.length = Config.robotsPerBus ∧ b.stats.length = 4

/-- A chain of changes, each of which keeps the bounds of Safety. -/
inductive Acts : State → State → Prop
  | refl (s) : Acts s s
  | trans {s t u} : Acts s t → Acts t u → Acts s u
  | robot (s i f) : Acts s (s.modRobot i f)
  | bus (s b f) (h : ∀ x : Bus, x.Shaped → (f x).Shaped) : Acts s (s.modBus b f)
  | link (s n f) (h : ∀ l : Link, s.links[n]? = some l → l.Bounded → (f l).Bounded) :
      Acts s (s.modLink n f)
  | decided (s i d) (h : s.LensesSound → d.wf = true) : Acts s (s.setDecided i d)
  | client (s i c) : Acts s (s.setClient i c)
  | rest (s outcomes overflow field timer notices inquiry posChanged) :
      Acts s { s with outcomes, overflow, field, timer, notices, inquiry, posChanged }

namespace Acts

/-- What a chain of changes leaves alone. -/
structure Keeps (s t : State) : Prop where
  pending : t.pending = s.pending
  now : t.now = s.now
  map : t.map = s.map
  loader : t.loader = s.loader
  siteLens : t.siteLens = s.siteLens
  digests : t.digests = s.digests
  targets : t.targets = s.targets
  mode : t.mode = s.mode
  inputs : t.inputs = s.inputs
  params : t.params = s.params
  converter : t.converter = s.converter
  conversionDue : t.conversionDue = s.conversionDue
  sequencer : t.sequencer = s.sequencer
  metrology : t.metrology = s.metrology
  resetCause : t.resetCause = s.resetCause
  robots : t.robots.length = s.robots.length
  links : t.links.length = s.links.length
  buses : t.buses.length = s.buses.length
  sides : (t.lenses.map fun l => (l.a, l.b)) = s.lenses.map fun l => (l.a, l.b)

theorem map_modify {α β : Type} (l : List α) (i : Nat) (f : α → α) (g : α → β)
    (h : ∀ x, g (f x) = g x) : (l.modify i f).map g = l.map g := by
  apply List.ext_getElem?
  intro j
  simp only [List.getElem?_map, List.getElem?_modify]
  cases l[j]? with
  | none => rfl
  | some x => by_cases hj : i = j <;> simp [hj, h]

/-- What a chain of changes leaves alone (the frame of every shared operation). -/
theorem keeps {s t : State} (h : Acts s t) : Keeps s t := by
  induction h with
  | refl s => constructor <;> rfl
  | trans _ _ h1 h2 =>
    constructor
    · exact h2.pending.trans h1.pending
    · exact h2.now.trans h1.now
    · exact h2.map.trans h1.map
    · exact h2.loader.trans h1.loader
    · exact h2.siteLens.trans h1.siteLens
    · exact h2.digests.trans h1.digests
    · exact h2.targets.trans h1.targets
    · exact h2.mode.trans h1.mode
    · exact h2.inputs.trans h1.inputs
    · exact h2.params.trans h1.params
    · exact h2.converter.trans h1.converter
    · exact h2.conversionDue.trans h1.conversionDue
    · exact h2.sequencer.trans h1.sequencer
    · exact h2.metrology.trans h1.metrology
    · exact h2.resetCause.trans h1.resetCause
    · exact h2.robots.trans h1.robots
    · exact h2.links.trans h1.links
    · exact h2.buses.trans h1.buses
    · exact h2.sides.trans h1.sides
  | robot s i f => constructor <;> first | rfl | simp [State.modRobot]
  | bus s b f _ => constructor <;> first | rfl | simp [State.modBus]
  | link s n f _ => constructor <;> first | rfl | simp [State.modLink]
  | decided s i d _ =>
    constructor <;> first | rfl | exact map_modify _ _ _ _ fun _ => rfl
  | client s i c =>
    constructor <;> first | rfl | exact map_modify _ _ _ _ fun _ => rfl
  | rest s _ _ _ _ _ _ _ => constructor <;> rfl

/-- A member of a modified list is a member of the list, or the change of one. -/
theorem mem_modify {α : Type} {l : List α} {i : Nat} {f : α → α} {y : α} (h : y ∈ l.modify i f) :
    y ∈ l ∨ ∃ x, l[i]? = some x ∧ y = f x := by
  obtain ⟨j, hj⟩ := List.mem_iff_getElem?.mp h
  rw [List.getElem?_modify] at hj
  by_cases hij : i = j
  · subst hij
    cases hx : l[i]? with
    | none => simp [hx] at hj
    | some x => exact .inr ⟨x, rfl, by simpa [hx] using hj.symm⟩
  · exact .inl (List.mem_iff_getElem?.mpr ⟨j, by simpa [hij] using hj⟩)

/-- The lens records keep the bounds of R49. -/
theorem lensesSound {s t : State} (h : Acts s t) (hs : s.LensesSound) : t.LensesSound := by
  induction h with
  | refl => exact hs
  | trans _ _ h1 h2 => exact h2 (h1 hs)
  | robot => exact hs
  | bus => exact hs
  | link => exact hs
  | decided s i d hd =>
    intro l hl d' hb
    rcases mem_modify hl with hm | ⟨x, _, rfl⟩
    · exact hs l hm d' hb
    · cases hb
      exact hd hs
  | client s i c =>
    intro l hl d' hb
    rcases mem_modify hl with hm | ⟨x, _, rfl⟩
    · exact hs l hm d' hb
    · cases hb
  | rest => exact hs

/-- The link units keep their bounds (R133, R135, R136). -/
theorem linksBounded {s t : State} (h : Acts s t) (hs : ∀ l ∈ s.links, l.Bounded) :
    ∀ l ∈ t.links, l.Bounded := by
  induction h with
  | trans _ _ h1 h2 => exact h2 (h1 hs)
  | link s n f h =>
    intro l hl
    rcases mem_modify hl with hm | ⟨x, hx, rfl⟩
    · exact hs l hm
    · exact h x hx (hs x (List.mem_of_getElem? hx))
  | _ => exact hs

/-- The buses keep their shape (R162, R163). -/
theorem busesShaped {s t : State} (h : Acts s t) (hs : ∀ b ∈ s.buses, b.Shaped) :
    ∀ b ∈ t.buses, b.Shaped := by
  induction h with
  | trans _ _ h1 h2 => exact h2 (h1 hs)
  | bus s b f h =>
    intro y hy
    rcases mem_modify hy with hm | ⟨x, hx, rfl⟩
    · exact hs y hm
    · exact h x (hs x (List.mem_of_getElem? hx))
  | _ => exact hs

/-- The body of a lens of a sound table keeps the bounds. -/
theorem wf_of {s : State} {i : Nat} {l : Lens} {d : Decided} (hs : s.LensesSound)
    (hl : s.lenses[i]? = some l) (hb : l.body = .decided d) : d.wf = true :=
  hs l (List.mem_of_getElem? hl) d hb

/-- Actions in a row. -/
theorem foldl {α : Type} {f : State → α → State} (h : ∀ s x, Acts s (f s x)) (l : List α) (s : State) :
    Acts s (l.foldl f s) := by
  induction l generalizing s with
  | nil => exact .refl s
  | cons x l ih => exact (h s x).trans (ih (f s x))

theorem forSites {f : Nat → State → State} (h : ∀ s i, Acts s (f i s)) (s : State) :
    Acts s (s.forSites f) := foldl (fun s i => h s i) _ s

theorem forLenses {f : Nat → State → State} (h : ∀ s i, Acts s (f i s)) (s : State) :
    Acts s (s.forLenses f) := foldl (fun s i => h s i) _ s

theorem modMove (s : State) (i : Nat) (f : Move → Move) : Acts s (s.modMove i f) := .robot s i _

theorem notices (s : State) (n : Notices) : Acts s { s with notices := n } :=
  .rest s s.outcomes s.overflow s.field s.timer n s.inquiry s.posChanged

end Acts

end Sys2Proof.Machine
end

