-- ==== Sys2Proof/Laws/ActsLinks.lean ====
section
/-! SUPPORT. The link units' operations act within their bounds (`Acts`). -/

namespace Sys2Proof.Machine

namespace Acts

theorem satInc_le {top n : Nat} (h : n ≤ top) : satInc top n ≤ top := by
  unfold satInc; split <;> omega

/-- A change of a link unit that leaves its queue and counts alone. -/
theorem linkSame (s : State) (n : Nat) (f : Link → Link)
    (h : ∀ l : Link, (f l).transmit = l.transmit ∧ (f l).errors = l.errors ∧ (f l).drops = l.drops) :
    Acts s (s.modLink n f) :=
  .link s n f fun l _ hl => by obtain ⟨h1, h2, h3⟩ := h l; simpa [Link.Bounded, h1, h2, h3] using hl

theorem denyRobot (s : State) (i : Nat) (r : DenyReason) : Acts s (s.denyRobot i r) := by
  unfold State.denyRobot
  split
  · exact .refl s
  · split
    · exact modMove s _ _
    · exact .refl s

theorem enterLink (s : State) (n : Nat) (st : LinkState) (f : Link → Link)
    (h : ∀ l : Link, l.Bounded → (f l).Bounded) : Acts s (s.enterLink n st f) := by
  unfold State.enterLink
  split
  · exact .refl s
  · have h1 : Acts s (s.modLink n fun x => { f x with state := st, since := s.now, takenAt := s.now }) :=
      .link s n _ fun l _ hl => h l hl
    simp only
    split
    · exact h1
    · exact h1.trans (notices _ _)

theorem enterProbing (s : State) (n : Nat) : Acts s (s.enterProbing n) :=
  enterLink s n _ _ fun l hl => ⟨by simp [Config.transmitDepth], hl.2⟩

theorem enterDisabled (s : State) (n : Nat) : Acts s (s.enterDisabled n) :=
  enterLink s n _ _ fun l hl => ⟨by simp, hl.2⟩

theorem enterFault (s : State) (n : Nat) : Acts s (s.enterFault n) :=
  enterLink s n _ _ fun l hl => ⟨by simp, hl.2⟩

theorem enterUp (s : State) (n : Nat) : Acts s (s.enterUp n) := enterLink s n _ _ fun _ hl => hl

theorem departLens (s : State) (n i : Nat) : Acts s (s.departLens n i) := by
  unfold State.departLens
  split
  · exact .refl s
  · rename_i l hl
    split
    · split
      · rename_i d hb
        split
        · exact .decided s i _ fun hs => Decided.wf_dropWaiter (wf_of hs hl hb)
        · exact .refl s
      · split
        · exact (Acts.client s i _).trans (denyRobot _ _ _)
        · exact .refl s
    · exact .refl s

theorem depart (s : State) (n : Nat) : Acts s (s.depart n) := by
  unfold State.depart
  refine .trans ?_ (forLenses (fun s i => departLens s n i) _)
  exact .link s n _ fun _ _ hl => ⟨by simp, hl.2.1, satInc_le hl.2.2⟩

theorem takeDown (s : State) (n : Nat) : Acts s (s.takeDown n) := by
  unfold State.takeDown
  split
  · exact .refl s
  · split
    · exact (depart s n).trans (enterProbing _ n)
    · exact enterProbing s n

theorem joinTransmit (s : State) (n : Nat) (f : PeerFrame) : Acts s (s.joinTransmit n f) := by
  unfold State.joinTransmit
  split
  · exact .refl s
  · rename_i l hl
    split
    · rename_i hlt
      exact .link s n _ fun x hx hb => by
        rw [hl] at hx
        cases hx
        exact ⟨by simpa using hlt, hb.2⟩
    · exact takeDown s n

theorem sendNumbered (s : State) (n : Nat) (b : PeerBody) : Acts s (s.sendNumbered n b) := by
  unfold State.sendNumbered
  split
  · exact .refl s
  · rename_i l hl
    split
    · rename_i hlt
      exact .link s n _ fun x hx hb => by
        rw [hl] at hx
        cases hx
        exact ⟨by simpa using hlt, hb.2⟩
    · exact takeDown s n

theorem sendBorder (s : State) (n i : Nat) (m : BorderMessage) : Acts s (s.sendBorder n i m) := by
  unfold State.sendBorder
  split
  · exact .refl s
  · split
    · exact sendNumbered s n _
    · exact .refl s

theorem sendIdent (s : State) (n : Nat) (ack : Bool) : Acts s (s.sendIdent n ack) := by
  unfold State.sendIdent
  refine .trans ?_ (joinTransmit _ n _)
  exact linkSame s n _ fun _ => ⟨rfl, rfl, rfl⟩

theorem enterMatched (s : State) (n : Nat) : Acts s (s.enterMatched n) := by
  unfold State.enterMatched
  refine .trans ?_ (sendIdent _ n true)
  exact enterLink s n _ _ fun _ hl => hl

theorem enterSyncing (s : State) (n : Nat) : Acts s (s.enterSyncing n) := by
  unfold State.enterSyncing
  refine .trans ?_ (sendNumbered _ n _)
  exact enterLink s n _ _ fun _ hl => hl

theorem frameError (s : State) (n : Nat) : Acts s (s.frameError n) := by
  have h : Acts s (s.modLink n fun x => { x with errors := satInc Config.top16 x.errors }) :=
    .link s n _ fun _ _ hl => ⟨hl.1, satInc_le hl.2.1, hl.2.2⟩
  unfold State.frameError
  split
  · exact .refl s
  · simp only
    split
    · exact .refl s
    · exact h
    · exact h.trans (takeDown _ n)
    · exact h.trans (takeDown _ n)
    · exact h.trans (takeDown _ n)
    · exact h

end Acts

end Sys2Proof.Machine
end

