-- ==== Sys2Proof/Laws/ActsLenses.lean ====
section
/-! SUPPORT. The lens table's operations act within their bounds (`Acts`). -/

namespace Sys2Proof.Machine

namespace Acts

theorem joinQueue (s : State) (i : Nat) : Acts s (s.joinQueue i) := by
  unfold State.joinQueue
  split
  · exact .refl s
  · split
    · exact .refl s
    · split <;> exact .bus s _ _ fun _ h => h

theorem leaveQueues (s : State) (i : Nat) : Acts s (s.leaveQueues i) := by
  unfold State.leaveQueues
  split
  · exact .refl s
  · exact .bus s _ _ fun _ h => h

theorem grantRobot (s : State) (i : Nat) : Acts s (s.grantRobot i) := by
  unfold State.grantRobot
  split
  · exact .refl s
  · split
    · exact (Acts.robot s i _).trans (joinQueue _ i)
    · exact .refl s

theorem tellGrant (s : State) (i : Nat) (x : LensSide) : Acts s (s.tellGrant i x) := by
  cases x with
  | site j => exact grantRobot s j
  | remote n _ => exact sendBorder s n i _

theorem tellDeny (s : State) (i : Nat) (r : RefuseReason) (x : LensSide) : Acts s (s.tellDeny i r x) := by
  cases x with
  | site j => exact denyRobot s j _
  | remote n _ => exact sendBorder s n i _

theorem releaseDecided {s : State} {i : Nat} {l : Lens} {d : Decided} (hl : s.lenses[i]? = some l)
    (hb : l.body = .decided d) : Acts s (s.releaseDecided i l d) := by
  have h : Acts s (s.setDecided i d.release) :=
    .decided s i _ fun hs => Decided.wf_release (wf_of hs hl hb)
  unfold State.releaseDecided
  simp only
  split
  · exact h.trans (tellGrant _ _ _)
  · exact h

theorem denyWaiter {s : State} {i : Nat} {l : Lens} {d : Decided} (r : RefuseReason)
    (hl : s.lenses[i]? = some l) (hb : l.body = .decided d) : Acts s (s.denyWaiter i l d r) := by
  unfold State.denyWaiter
  split
  · exact .refl s
  · exact (Acts.decided s i _ fun hs => Decided.wf_dropWaiter (wf_of hs hl hb)).trans (tellDeny _ _ _ _)

theorem holdingToPin (s : State) (i : Nat) (l : Lens) (d : Decided) (p : Party) :
    Acts s (s.holdingToPin i l d p) := by
  have h : Acts s (s.setDecided i (d.toPin p)) := .decided s i _ fun _ => Decided.wf_toPin p
  unfold State.holdingToPin
  simp only
  split
  · exact h
  · exact h.trans (tellDeny _ _ _ _)

theorem clientTo (s : State) (i : Nat) (l : Lens) (c : Client) (st : ClaimState) (m : BorderMessage) :
    Acts s (s.clientTo i l c st m) := (Acts.client s i _).trans (sendBorder _ _ _ _)

theorem claimFor (s : State) (site i : Nat) : Acts s (s.claimFor site i).1 := by
  unfold State.claimFor
  split
  · exact .refl s
  · rename_i l hl
    split
    · rename_i d hb
      split
      · exact .refl s
      · exact .decided s i _ fun hs => Decided.wf_applyClaim _ _ (wf_of hs hl hb)
    · split
      · exact .refl s
      · split
        · exact .refl s
        · split
          · split
            · exact clientTo s i l _ _ _
            · exact takeDown s _
          all_goals exact .refl s

theorem setWaitDeadline (s : State) (site i : Nat) : Acts s (s.setWaitDeadline site i) := by
  unfold State.setWaitDeadline
  simp only
  split
  · exact .refl s
  · rename_i l hl
    split
    · rename_i d hb
      split
      · exact .refl s
      · exact .decided s i _ fun hs => Decided.wf_setDeadline _ _ (wf_of hs hl hb)
    · split
      · exact .client s i _
      · exact .refl s

theorem endWait (s : State) (site i : Nat) : Acts s (s.endWait site i) := by
  unfold State.endWait
  split
  · exact .refl s
  · rename_i l hl
    split
    · rename_i d hb
      split
      · exact .decided s i _ fun hs => Decided.wf_dropWaiter (wf_of hs hl hb)
      · exact .refl s
    · split
      · exact clientTo s i l _ _ _
      · exact .refl s

theorem occupyTarget (s : State) (site i : Nat) : Acts s (s.occupyTarget site i) := by
  unfold State.occupyTarget
  split
  · exact .refl s
  · rename_i l hl
    split
    · rename_i d hb
      split
      · exact .refl s
      · exact .decided s i _ fun hs => Decided.wf_setKind _ _ (wf_of hs hl hb)
    · split
      · exact clientTo s i l _ _ _
      · exact .refl s

theorem moveEndLens (s : State) (site i : Nat) : Acts s (s.moveEndLens site i) := by
  unfold State.moveEndLens
  split
  · exact .refl s
  · rename_i l hl
    split
    · exact .refl s
    · split
      · rename_i d hb
        split
        · exact releaseDecided hl hb
        · split
          · exact denyWaiter _ hl hb
          · split
            · exact .decided s i _ fun hs => Decided.wf_dropWaiter (wf_of hs hl hb)
            · exact .refl s
      · split <;> first | exact clientTo s i l _ _ _ | exact .refl s

theorem lossLens (s : State) (site i : Nat) : Acts s (s.lossLens site i) := by
  unfold State.lossLens
  split
  · exact .refl s
  · rename_i l hl
    split
    · exact .refl s
    · split
      · rename_i d hb
        split
        · exact holdingToPin s i l d _
        · split
          · exact releaseDecided hl hb
          · exact .refl s
      · split <;> first | exact clientTo s i l _ _ _ | exact .refl s

theorem discoveryLens (s : State) (site i : Nat) : Acts s (s.discoveryLens site i) := by
  unfold State.discoveryLens
  split
  · exact .refl s
  · rename_i l hl
    split
    · exact .refl s
    · split
      · rename_i d hb
        exact .decided s i _ fun hs => Decided.wf_addPin _ (wf_of hs hl hb)
      · split
        · exact clientTo s i l _ _ _
        · exact .refl s

theorem vacateLens (s : State) (site i : Nat) : Acts s (s.vacateLens site i) := by
  unfold State.vacateLens
  split
  · exact .refl s
  · rename_i l hl
    split
    · exact .refl s
    · split
      · rename_i d hb
        split
        · exact releaseDecided hl hb
        · split
          · exact .decided s i _ fun hs => Decided.wf_removePin _ (wf_of hs hl hb)
          · exact .refl s
      · split <;> first | exact clientTo s i l _ _ _ | exact .refl s

theorem keepTargetLens (s : State) (site i : Nat) : Acts s (s.keepTargetLens site i) := by
  unfold State.keepTargetLens
  split
  · exact .refl s
  · rename_i l hl
    split
    · exact .refl s
    · split
      · rename_i d hb
        split
        · exact .decided s i _ fun hs => Decided.wf_setKind _ _ (wf_of hs hl hb)
        · split
          · exact .decided s i _ fun hs => Decided.wf_removePin _ (wf_of hs hl hb)
          · exact .refl s
      · split <;> first | exact clientTo s i l _ _ _ | exact .client s i _ | exact .refl s

theorem occupyFacing (s : State) (site i : Nat) : Acts s (s.occupyFacing site i) := by
  unfold State.occupyFacing
  split
  · exact .refl s
  · rename_i l hl
    split
    · exact .refl s
    · split
      · rename_i d hb
        exact .decided s i _ fun hs => Decided.wf_occupyBy _ (wf_of hs hl hb)
      · split <;> first | exact clientTo s i l _ _ _ | exact .refl s

theorem pinFacing (s : State) (site i : Nat) : Acts s (s.pinFacing site i) := by
  unfold State.pinFacing
  split
  · exact .refl s
  · rename_i l hl
    split
    · exact .refl s
    · split
      · rename_i d hb
        exact .decided s i _ fun hs => Decided.wf_addPin _ (wf_of hs hl hb)
      · split
        · exact clientTo s i l _ _ _
        · exact ((Acts.client s i _).trans (sendBorder _ _ _ _)).trans (sendBorder _ _ _ _)
        all_goals exact .refl s

theorem moveEndLenses (s : State) (site : Nat) : Acts s (s.moveEndLenses site) :=
  forLenses (fun s i => moveEndLens s site i) s

theorem lossConvert (s : State) (site : Nat) : Acts s (s.lossConvert site) :=
  forLenses (fun s i => lossLens s site i) s

theorem discoveryPins (s : State) (site : Nat) : Acts s (s.discoveryPins site) :=
  forLenses (fun s i => discoveryLens s site i) s

theorem foldRelease (s : State) (site : Nat) : Acts s (s.foldRelease site) :=
  forLenses (fun s i => vacateLens s site i) s

theorem applyConsistent (s : State) (site : Nat) (p : Pos) : Acts s (s.applyConsistent site p) := by
  unfold State.applyConsistent
  refine forLenses (fun t i => ?_) s
  split
  · exact occupyFacing t site i
  · split
    · exact keepTargetLens t site i
    · exact vacateLens t site i

theorem applyInconsistent (s : State) (site : Nat) (p : Pos) : Acts s (s.applyInconsistent site p) := by
  unfold State.applyInconsistent
  refine forLenses (fun t i => ?_) s
  split
  · exact pinFacing t site i
  · exact lossLens t site i

end Acts

end Sys2Proof.Machine
end

