-- ==== Sys2Proof/Laws/ActsMoves.lean ====
section
/-! SUPPORT. The move engine's operations act within their bounds (`Acts`). -/

namespace Sys2Proof.Machine

namespace Acts

theorem appendOutcome (s : State) (o : OutcomeRecord) : Acts s (s.appendOutcome o) := by
  exact .rest s (s.outcomes ++ [o]) s.overflow s.field s.timer s.notices s.inquiry s.posChanged

theorem endField (s : State) : Acts s s.endField := by
  unfold State.endField
  split
  · exact .rest s s.outcomes s.overflow _ _ _ s.inquiry s.posChanged
  · exact .refl s

theorem countFieldEnd (s : State) (o : MoveOutcome) : Acts s (s.countFieldEnd o) := by
  unfold State.countFieldEnd
  refine .trans ?_ (endField _)
  exact .rest s s.outcomes s.overflow _ s.timer s.notices s.inquiry s.posChanged

theorem recordEnd (s : State) (site : Nat) (k : MoveKind) (l : Bool) (o : MoveOutcome)
    (r : Option DenyReason) : Acts s (s.recordEnd site k l o r) := by
  unfold State.recordEnd
  split
  · exact .refl s
  · simp only
    split
    · exact ((appendOutcome s _).trans (.robot _ _ _)).trans (countFieldEnd _ _)
    · exact (appendOutcome s _).trans (.robot _ _ _)

theorem finishMove (s : State) (site : Nat) (st : RobotState)
    (out : Option (MoveOutcome × Option DenyReason)) : Acts s (s.finishMove site st out) := by
  unfold State.finishMove
  split
  · exact .refl s
  · have h := ((moveEndLenses s site).trans (leaveQueues _ site)).trans
      (Acts.robot _ site fun r => { r with state := st, move := none, pollTime := none })
    simp only
    split
    · exact h
    · exact h.trans (recordEnd _ _ _ _ _ _)

theorem loseWith (s : State) (site : Nat) (c : LostCause)
    (out : Option (MoveOutcome × Option DenyReason)) : Acts s (s.loseWith site c out) := by
  have h := (Acts.robot s site fun r => { r.forget with anchor := none }).trans (lossConvert _ site)
  unfold State.loseWith
  simp only
  split
  · exact h.trans (.robot _ _ _)
  · exact h.trans (finishMove _ _ _ _)

theorem lose (s : State) (site : Nat) (c : LostCause) : Acts s (s.lose site c) := loseWith s site c _

theorem endAtRest (s : State) (site : Nat) (out : Option (MoveOutcome × Option DenyReason)) :
    Acts s (s.endAtRest site out) := by
  unfold State.endAtRest
  split
  · exact .refl s
  · split
    · exact .refl s
    · split
      · exact loseWith s site _ out
      · exact finishMove s site _ out

theorem endDenied (s : State) (site : Nat) : Acts s (s.endDenied site) := by
  unfold State.endDenied
  split
  · exact .refl s
  · exact endAtRest s site _

theorem settleDenials (n : Nat) (s : State) : Acts s (s.settleDenials n) := by
  induction n generalizing s with
  | zero => exact .refl s
  | succ n ih =>
    unfold State.settleDenials
    split
    · exact .refl s
    · exact (endDenied s _).trans (ih _)

theorem settle (s : State) : Acts s s.settle := settleDenials _ s

theorem closeEvent (s t : State) : Acts t (s.closeEvent t) := by
  unfold State.closeEvent
  simp only
  split
  · exact .rest t _ t.overflow t.field t.timer t.notices t.inquiry t.posChanged
  · exact .rest t _ true t.field t.timer _ t.inquiry t.posChanged

theorem close {s t : State} (h : Acts s t) : Acts s (s.close t) :=
  (h.trans (settle t)).trans (closeEvent _ _)

theorem sweep (s : State) (act : Nat → State → State) (h : ∀ i t, Acts t (act i t)) :
    Acts s (s.sweep act) := close (forSites (fun t i => h i t) s)

theorem readyLeg (s : State) (site : Nat) : Acts s (s.readyLeg site) := by
  unfold State.readyLeg
  split
  · exact .refl s
  · split
    · exact (Acts.robot s site _).trans (setWaitDeadline _ site _)
    · exact (Acts.robot s site _).trans (joinQueue _ site)

theorem admissionClaim (s : State) (site : Nat) (l : Option Nat) :
    Acts s (s.admissionClaim site l).1 := by
  unfold State.admissionClaim
  split
  · exact .refl s
  · split
    · exact .refl s
    · exact claimFor s site _

theorem startMove (s : State) (site : Nat) (m : Move) : Acts s (s.startMove site m) :=
  (Acts.robot s site _).trans (readyLeg _ site)

theorem tryMove (s : State) (site : Nat) (k : MoveKind) (x : Site) (p q : Pos) (l : Bool) :
    Acts s (s.tryMove site k x p q l).1 := by
  unfold State.tryMove
  split
  · exact recordEnd s site k l _ _
  · simp only
    split
    · exact ((admissionClaim s site _).trans (settle _)).trans (recordEnd _ _ _ _ _ _)
    · exact (admissionClaim s site _).trans (startMove _ _ _)
    · exact (admissionClaim s site _).trans (startMove _ _ _)

theorem admitMove (s : State) (site : Nat) (k : MoveKind) (x : Site) (p q : Pos) (l : Bool) :
    Acts s (s.admitMove site k x p q l).1 := close (tryMove s site k x p q l)

theorem accept (s : State) (site : Nat) (f : Robot → Robot) : Acts s (s.accept site f) :=
  (Acts.robot s site fun r => f r.bumpEpoch).trans (.rest _ _ _ _ _ _ _ true)

theorem inconsistentReport (s : State) (site : Nat) (p : Pos) : Acts s (s.inconsistentReport site p) := by
  unfold State.inconsistentReport
  refine .trans ?_ (lose _ site _)
  exact (applyInconsistent s site p).trans (.robot _ _ _)

theorem queueHalt (s : State) (site : Nat) : Acts s (s.queueHalt site) := by
  unfold State.queueHalt
  refine .bus s _ _ fun b h => ?_
  split
  · exact h
  · exact h

theorem queueBroadcast (s : State) (b : Nat) : Acts s (s.queueBroadcast b) := .bus s _ _ fun _ h => h

theorem enterHalting (s : State) (site : Nat) (c : HaltCause) : Acts s (s.enterHalting site c) :=
  .robot s site _

theorem abortRobot (s : State) (site : Nat) : Acts s (s.abortRobot site) := by
  unfold State.abortRobot
  split
  · exact .refl s
  · split
    · exact endAtRest s site _
    · split
      · exact (queueHalt s site).trans (enterHalting _ site _)
      · exact .refl s

theorem nextLeg (s : State) (site : Nat) : Acts s (s.nextLeg site) :=
  (modMove s site _).trans (readyLeg _ site)

theorem afterLeg (s : State) (site : Nat) (p : Pos) : Acts s (s.afterLeg site p) := by
  unfold State.afterLeg
  split
  · exact .refl s
  · split
    · exact (Acts.robot s site _).trans (finishMove _ _ _ _)
    · split
      · exact finishMove s _ _ _
      · split
        · exact finishMove s _ _ _
        · exact nextLeg s site

theorem clearDispatch (s : State) (site : Nat) : Acts s (s.clearDispatch site) := modMove s site _

theorem legComplete (s : State) (site : Nat) (p : Pos) : Acts s (s.legComplete site p) := by
  unfold State.legComplete
  split
  · exact (((applyConsistent s site p).trans (accept _ _ _)).trans (clearDispatch _ _)).trans
      (afterLeg _ _ _)
  · exact inconsistentReport s site p

theorem foldComplete (s : State) (site : Nat) (p : Pos) : Acts s (s.foldComplete site p) := by
  have h := ((accept s site fun r =>
      { r with dirBeta := axisMemory r.dirBeta r.beta p.beta, beta := some p.beta }).trans
        (clearDispatch _ site)).trans (foldRelease _ site)
  unfold State.foldComplete
  simp only
  split
  · exact h
  · split
    · exact h.trans (endAtRest _ _ _)
    · exact h.trans (nextLeg _ _)

theorem seekComplete (s : State) (site : Nat) (p : Pos) : Acts s (s.seekComplete site p) := by
  unfold State.seekComplete
  split
  · exact ((applyConsistent s site p).trans (accept _ _ _)).trans (finishMove _ _ _ _)
  · exact inconsistentReport s site p

theorem completeLeg (s : State) (site : Nat) (m : Move) (p : Pos) : Acts s (s.completeLeg site m p) := by
  unfold State.completeLeg
  split
  · exact foldComplete s site p
  · split
    · exact seekComplete s site p
    · exact legComplete s site p

theorem faultReply (s : State) (site : Nat) (m : Move) (rep : StatusReply) :
    Acts s (s.faultReply site m rep) := by
  have h : Acts s _ := Acts.robot s site fun r => { r with fault := rep.fault.map FaultCode.ofReply }
  unfold State.faultReply
  simp only
  split
  · exact ((h.trans (applyConsistent _ _ _)).trans (accept _ _ _)).trans (finishMove _ _ _ _)
  · exact h.trans (inconsistentReport _ _ _)

theorem endHome (s : State) (site : Nat) (out : Option (MoveOutcome × Option DenyReason)) :
    Acts s (s.endHome site out) := by
  unfold State.endHome
  split
  · exact .refl s
  · exact loseWith s site _ out

theorem homeFault (s : State) (site : Nat) (m : Move) (rep : StatusReply) :
    Acts s (s.homeFault site m rep) := (Acts.robot s site _).trans (endHome _ site _)

theorem legReply (s : State) (site : Nat) (m : Move) (rep : StatusReply) :
    Acts s (s.legReply site m rep) := by
  unfold State.legReply
  split
  · exact lose s site _
  · split
    · split
      · exact homeFault s site m rep
      · exact faultReply s site m rep
    · split
      · split
        · exact (lose s site _).trans (queueHalt _ site)
        · exact lose s site _
      · split
        · exact .refl s
        · exact completeLeg s site m _

theorem stallFault (s : State) (site : Nat) (m : Move) : Acts s (s.stallFault site m) := by
  unfold State.stallFault
  split
  · exact .robot s site _
  · exact .refl s

theorem haltComplete (s : State) (site : Nat) (m : Move) (p : Pos) : Acts s (s.haltComplete site m p) := by
  unfold State.haltComplete
  split
  · exact (stallFault s site m).trans (endHome _ site _)
  · split
    · exact (((applyConsistent s site p).trans (accept _ _ _)).trans (stallFault _ _ _)).trans
        (finishMove _ _ _ _)
    · exact inconsistentReport s site p

theorem haltReply (s : State) (site : Nat) (m : Move) (rep : StatusReply) :
    Acts s (s.haltReply site m rep) := by
  unfold State.haltReply
  split
  · exact lose s site _
  · split
    · split
      · exact homeFault s site m rep
      · exact faultReply s site m rep
    · exact .refl s
    · exact haltComplete s site m _

theorem recover (s : State) (site : Nat) (rep : StatusReply) : Acts s (s.recover site rep) :=
  (applyConsistent s site _).trans (accept _ _ _)

theorem lostReply (s : State) (site : Nat) (c : LostCause) (rep : StatusReply) :
    Acts s (s.lostReply site c rep) := by
  unfold State.lostReply
  split
  · exact .refl s
  · split
    · exact .robot s site _
    · split
      · exact (Acts.robot s site _).trans (queueHalt _ site)
      · split
        · exact recover s site rep
        · exact inconsistentReport s site _

theorem stillReply (s : State) (site : Nat) (r : Robot) (rep : StatusReply) :
    Acts s (s.stillReply site r rep) := by
  unfold State.stillReply
  split
  · exact lose s site _
  · split
    · exact (lose s site _).trans (queueHalt _ site)
    · split
      · exact .refl s
      · exact lose s site _

theorem goOffline (s : State) (site : Nat) : Acts s (s.goOffline site) := by
  unfold State.goOffline
  simp only
  exact ((Acts.robot s site _).trans (finishMove _ site _ _)).trans (.robot _ site _)

theorem powerDown_shaped {b : Bus} (h : b.Shaped) : b.powerDown.Shaped :=
  ⟨by simp [Bus.powerDown], h.2⟩

theorem failInquiryPower (s : State) (l : List Nat) : Acts s (s.failInquiryPower l) := by
  unfold State.failInquiryPower
  split
  · split
    · exact .rest s s.outcomes s.overflow s.field s.timer _ _ s.posChanged
    · exact .refl s
  all_goals exact .refl s

theorem lossAt (s : State) (l : List Nat) (i : Nat) : Acts s (s.lossAt l i) := by
  refine forSites (fun u site => ?_) s
  split
  · exact lossLens u site i
  · exact .refl u

theorem powerLoss (s : State) (l : List Nat) : Acts s (s.powerLoss l) := by
  unfold State.powerLoss
  simp only
  refine .trans ?_ (sweep _ _ fun i t => ?_)
  · exact ((foldl (fun s b => .bus s b _ fun _ h => powerDown_shaped h) l s).trans
      (failInquiryPower _ l)).trans (forLenses (fun t i => lossAt t l i) _)
  · split
    · exact goOffline t i
    · exact .refl t

end Acts

end Sys2Proof.Machine
end

