-- ==== Sys2Proof/Laws/ActsBuses.lean ====
section
/-! SUPPORT. The bus controllers' operations act within their bounds (`Acts`). -/

namespace Sys2Proof.Machine

namespace Acts

theorem latchWiring (s : State) : Acts s s.latchWiring := notices s _

theorem latchBusTrip (s : State) : Acts s s.latchBusTrip := notices s _

theorem count_shaped {b : Bus} (o : StatObject) (h : b.Shaped) : (b.count o).Shaped :=
  ⟨h.1, by simpa [Bus.count] using h.2⟩

theorem countFrame_shaped {b : Bus} (f : BusBody) (h : b.Shaped) : (b.countFrame f).Shaped := by
  unfold Bus.countFrame
  split
  · exact count_shaped _ (count_shaped _ h)
  · exact count_shaped _ h

theorem send_shaped {b : Bus} (f : BusFrame) (h : b.Shaped) : (b.send f).Shaped :=
  countFrame_shaped f.body h

theorem sendMore_shaped {b : Bus} (f : BusFrame) (h : b.Shaped) : (b.sendMore f).Shaped :=
  countFrame_shaped f.body h

theorem beginTxn (s : State) (bus : Nat) (k : TxnKind) (site : Nat) : Acts s (s.beginTxn bus k site) := by
  unfold State.beginTxn
  refine .bus s bus _ fun b h => ?_
  exact send_shaped _ (b := { b with txn := some ⟨k, site, 1, s.params.attemptLimit⟩ }) h

theorem endTxn (s : State) (bus : Nat) : Acts s (s.endTxn bus) := .bus s bus _ fun _ h => h

theorem retryTxn (s : State) (bus : Nat) (t : Txn) : Acts s (s.retryTxn bus t) := by
  unfold State.retryTxn
  refine .bus s bus _ fun b h => ?_
  exact send_shaped _ (count_shaped _
    (b := { b with txn := some { t with attempts := t.attempts + 1 } }) h)

theorem inquiryEnds (s : State) (f : Nat → Nat → Inquiry) : Acts s (s.inquiryEnds f) := by
  unfold State.inquiryEnds
  split
  · exact .rest s s.outcomes s.overflow s.field s.timer _ _ s.posChanged
  all_goals exact .refl s

theorem withdrawSetCounts (s : State) (site : Nat) : Acts s (s.withdrawSetCounts site) :=
  .bus s _ _ fun _ h => h

theorem silentEvent (s : State) (site : Nat) : Acts s (s.silentEvent site) :=
  (withdrawSetCounts s site).trans (lose _ site _)

theorem anchorFails (s : State) (site : Nat) : Acts s (s.anchorFails site) := .robot s site _

theorem failedTxnEffect (s : State) (t : Txn) : Acts s (s.failedTxnEffect t) := by
  unfold State.failedTxnEffect
  split
  · split
    · exact lose s _ _
    · exact .refl s
  · exact .refl s
  · exact .refl s
  · split
    · exact anchorFails s _
    · exact .refl s
  · split
    · exact .refl s
    · exact inquiryEnds s _

theorem txnFailed (s : State) (bus : Nat) (t : Txn) : Acts s (s.txnFailed bus t) := by
  have h := (((endTxn s bus).trans (Acts.bus _ bus (fun b => b.count .failedTransactions)
    fun _ h => count_shaped _ h)).trans
      (Acts.robot _ t.site fun r => { r with failures := satInc Config.failureTop r.failures })).trans
        (failedTxnEffect _ t)
  unfold State.txnFailed
  simp only
  split
  · exact h.trans (silentEvent _ _)
  · exact h

theorem attemptFailed (s : State) (bus : Nat) (t : Txn) : Acts s (s.attemptFailed bus t) := by
  unfold State.attemptFailed
  split
  · exact txnFailed s bus t
  · split
    · exact endTxn s bus
    · exact retryTxn s bus t

theorem replyTaken (s : State) (bus site : Nat) : Acts s (s.replyTaken bus site) :=
  (Acts.bus s bus _ fun _ h => count_shaped _ h).trans (.robot _ site _)

theorem statusTaken (s : State) (bus site : Nat) (rep : StatusReply) :
    Acts s (s.statusTaken bus site rep) := (replyTaken s bus site).trans (.robot _ site _)

theorem acceptLeg (s : State) (site : Nat) : Acts s (s.acceptLeg site) := .robot s site _

theorem pollReply (s : State) (site : Nat) (rep : StatusReply) : Acts s (s.pollReply site rep) := by
  unfold State.pollReply
  split
  · exact .refl s
  · split
    · split
      · exact legReply s site _ rep
      · exact .refl s
    · split
      · exact haltReply s site _ rep
      · exact .refl s
    · exact stillReply s site _ rep
    · exact stillReply s site _ rep
    · exact lostReply s site _ rep
    all_goals exact .refl s

theorem anchorAccepted (s : State) (site : Nat) (p : Pos) : Acts s (s.anchorAccepted site p) := by
  unfold State.anchorAccepted
  split
  · exact (applyConsistent s site p).trans (accept _ _ _)
  · exact inconsistentReport s site p

theorem setCountsReply (s : State) (site : Nat) (rep : StatusReply) :
    Acts s (s.setCountsReply site rep) := by
  unfold State.setCountsReply
  split
  · exact .refl s
  · split
    · split
      · exact .refl s
      · split
        · exact anchorAccepted s site _
        · exact anchorFails s site
    · exact .refl s

theorem checkError (s : State) (bus : Nat) (t : Txn) : Acts s (s.checkError bus t) :=
  (Acts.bus s bus _ fun _ h => count_shaped _ h).trans (attemptFailed _ bus t)

theorem goodReply (s : State) (bus : Nat) (t : Txn) (reply : BusReply) :
    Acts s (s.goodReply bus t reply) := by
  unfold State.goodReply
  split
  · simp only
    split
    · exact ((statusTaken s bus _ _).trans (endTxn _ bus)).trans (acceptLeg _ _)
    · exact (statusTaken s bus _ _).trans (attemptFailed _ bus t)
  · exact ((statusTaken s bus _ _).trans (endTxn _ bus)).trans (pollReply _ _ _)
  · exact ((statusTaken s bus _ _).trans (endTxn _ bus)).trans (setCountsReply _ _ _)
  · exact (replyTaken s bus _).trans (endTxn _ bus)
  · simp only
    split
    · exact (replyTaken s bus _).trans (endTxn _ bus)
    · exact ((replyTaken s bus _).trans (endTxn _ bus)).trans (inquiryEnds _ _)
  · exact checkError s bus t

theorem overflowSerial_shaped {b : Bus} (x : Serial) (site : Option Nat) (h : b.Shaped) :
    (b.overflowSerial x site).Shaped := sendMore_shaped _ (b := { b with census := _ }) h

theorem enterAddress_shaped {b : Bus} (a : Nat) (e : AddressEntry) (h : b.Shaped) :
    (b.enterAddress a e).Shaped :=
  sendMore_shaped _ (b := { b with addresses := b.addresses.set a (some e), census := _ })
    ⟨by simpa using h.1, h.2⟩

theorem cleanSerial (s : State) (bus : Nat) (x : Serial) : Acts s (s.cleanSerial bus x) := by
  unfold State.cleanSerial
  split
  · exact .refl s
  · simp only
    split
    · exact .bus s bus _ fun _ h => sendMore_shaped _ h
    · split
      · exact .bus s bus _ fun _ h => sendMore_shaped _ h
      · split
        · refine .trans ?_ (latchWiring _)
          exact .bus s bus _ fun b h => sendMore_shaped _ (b := { b with census := _ }) h
        · split
          · exact .bus s bus _ fun _ h => overflowSerial_shaped _ _ h
          · exact .bus s bus _ fun _ h => enterAddress_shaped _ _ h

theorem discover (s : State) (site : Nat) : Acts s (s.discover site) := by
  unfold State.discover
  split
  · exact .refl s
  · split
    · simp only
      split
      · exact (Acts.robot s site _).trans (discoveryPins _ site)
      · exact .robot s site _
    · exact .refl s

theorem endCensus (s : State) (bus : Nat) (r : CensusResult) : Acts s (s.endCensus bus r) := by
  unfold State.endCensus
  simp only
  refine .trans ?_ (sweep _ _ fun i u => ?_)
  · exact .bus s bus _ fun _ h => h
  split
  · exact discover u i
  · exact .refl u

theorem finishRound (s : State) (bus : Nat) (slots : List SlotJudgement) :
    Acts s (s.finishRound bus slots) := by
  have h := ((Acts.bus s bus (fun b => { b with round := none, lastFrames := [] }) fun _ h => h).trans
    (foldl (fun u x => cleanSerial u bus x) (cleanSerials slots) _)).trans
      (Acts.bus _ bus (fun b => { b with nextWindow := windowAfter b.nextWindow slots }) fun _ h => h)
  unfold State.finishRound
  simp only
  split
  · exact h
  · split
    · exact h.trans (endCensus _ bus _)
    · split
      · exact h.trans (endCensus _ bus _)
      · exact h

theorem trip (s : State) (bus : Nat) (c : TripCause) : Acts s (s.trip bus c) := by
  unfold State.trip
  refine .trans ?_ (powerLoss _ _)
  refine .trans ?_ (latchBusTrip _)
  exact .bus s bus _ fun _ h => h

end Acts

end Sys2Proof.Machine
end

