-- ==== Sys2Proof/Laws/Events.lean ====
section
/-! SUPPORT. The close of an event (`State.closeEvent`): the order of its records and the capacity of the
outcome queue. -/

namespace Sys2Proof.Machine

/-- A record that takes its place is added. -/
theorem insertBySite_perm (o : OutcomeRecord) (l : List OutcomeRecord) :
    (insertBySite o l).Perm (o :: l) := by
  induction l with
  | nil => exact .refl _
  | cons x rest ih =>
    unfold insertBySite
    split
    · exact .refl _
    · exact (ih.cons x).trans (.swap o x rest)

/-- Records in ascending site order stay so. -/
theorem insertBySite_sorted (o : OutcomeRecord) {l : List OutcomeRecord}
    (h : l.Pairwise fun a b => a.site ≤ b.site) :
    (insertBySite o l).Pairwise fun a b => a.site ≤ b.site := by
  induction l with
  | nil => simp [insertBySite]
  | cons x rest ih =>
    have hx := List.pairwise_cons.mp h
    unfold insertBySite
    split
    · rename_i hle
      refine List.pairwise_cons.mpr ⟨fun y hy => ?_, h⟩
      rcases List.mem_cons.mp hy with rfl | hy
      · exact hle
      · exact hle.trans (hx.1 y hy)
    · rename_i hle
      refine List.pairwise_cons.mpr ⟨fun y hy => ?_, ih hx.2⟩
      rcases List.mem_cons.mp ((insertBySite_perm o rest).mem_iff.mp hy) with rfl | hy
      · omega
      · exact hx.1 y hy

/-- A merge holds the records of both lists. -/
theorem mergeBySite_perm (l m : List OutcomeRecord) : (mergeBySite l m).Perm (l ++ m) := by
  induction l generalizing m with
  | nil => exact .refl _
  | cons x rest ih =>
    unfold mergeBySite
    refine (List.perm_middle).trans (.cons x ?_)
    refine ((ih _).append_left _).trans ?_
    refine (List.perm_append_comm_assoc _ _ _).trans (.append_left rest ?_)
    rw [List.takeWhile_append_dropWhile]

/-- Two lists in ascending site order merge into one. -/
theorem mergeBySite_sorted {l m : List OutcomeRecord} (hl : l.Pairwise fun a b => a.site ≤ b.site)
    (hm : m.Pairwise fun a b => a.site ≤ b.site) :
    (mergeBySite l m).Pairwise fun a b => a.site ≤ b.site := by
  induction l generalizing m with
  | nil => exact hm
  | cons x rest ih =>
    have hx := List.pairwise_cons.mp hl
    have hdrop : (m.dropWhile (·.site < x.site)).Pairwise fun a b => a.site ≤ b.site :=
      hm.sublist (List.dropWhile_sublist _)
    have hge : ∀ y ∈ m.dropWhile (·.site < x.site), x.site ≤ y.site := by
      intro y hy
      cases hd : m.dropWhile (·.site < x.site) with
      | nil => rw [hd] at hy; cases hy
      | cons z zs =>
        have hz : ¬ z.site < x.site := by
          have := List.head?_dropWhile_not (fun o : OutcomeRecord => decide (o.site < x.site)) m
          rw [hd] at this
          simpa using this
        rw [hd] at hy hdrop
        rcases List.mem_cons.mp hy with rfl | hy
        · omega
        · have := (List.pairwise_cons.mp hdrop).1 y hy
          omega
    have hrest : ∀ y ∈ mergeBySite rest (m.dropWhile (·.site < x.site)), x.site ≤ y.site := by
      intro y hy
      rcases List.mem_append.mp ((mergeBySite_perm _ _).mem_iff.mp hy) with hy | hy
      · exact hx.1 y hy
      · exact hge y hy
    unfold mergeBySite
    refine List.pairwise_append.mpr ⟨hm.sublist (List.takeWhile_sublist _), ?_, ?_⟩
    · exact List.pairwise_cons.mpr ⟨hrest, ih hx.2 hdrop⟩
    · intro a ha b hb
      have hlt : a.site < x.site := by simpa using List.mem_takeWhile_imp ha
      rcases List.mem_cons.mp hb with rfl | hb
      · omega
      · have := hrest b hb
        omega

/-- A merge keeps the order of what it takes from one of its lists. -/
theorem mergeBySite_filter (p : OutcomeRecord → Bool) (l m : List OutcomeRecord)
    (hl : ∀ o ∈ l, p o = true) (hm : ∀ o ∈ m, p o = false) : (mergeBySite l m).filter p = l := by
  induction l generalizing m with
  | nil => exact List.filter_eq_nil_iff.mpr fun o ho => by simp [mergeBySite] at ho; simp [hm o ho]
  | cons x rest ih =>
    have h1 : (m.takeWhile (·.site < x.site)).filter p = [] :=
      List.filter_eq_nil_iff.mpr fun o ho => by
        simp [hm o ((List.takeWhile_sublist _).subset ho)]
    unfold mergeBySite
    rw [List.filter_append, h1, List.nil_append, List.filter_cons_of_pos (hl x (List.mem_cons_self ..)),
      ih _ (fun o ho => hl o (List.mem_cons_of_mem _ ho))
        fun o ho => hm o ((List.dropWhile_sublist _).subset ho)]

/-- A merge keeps the order of what it takes from the other list. -/
theorem mergeBySite_filter_right (p : OutcomeRecord → Bool) (l m : List OutcomeRecord)
    (hl : ∀ o ∈ l, p o = false) : (mergeBySite l m).filter p = m.filter p := by
  induction l generalizing m with
  | nil => rfl
  | cons x rest ih =>
    unfold mergeBySite
    rw [List.filter_append, List.filter_cons_of_neg (by simp [hl x (List.mem_cons_self ..)]),
      ih _ fun o ho => hl o (List.mem_cons_of_mem _ ho), ← List.filter_append,
      List.takeWhile_append_dropWhile]

/-- An event's records all join, each once. -/
theorem eventOrder_perm (departed : OutcomeRecord → Option Nat) (n : Nat) (l : List OutcomeRecord) :
    (eventOrder departed n l).Perm l := by
  induction n generalizing l with
  | zero =>
    unfold eventOrder
    induction l with
    | nil => exact .refl _
    | cons o rest ih => exact (insertBySite_perm o _).trans (ih.cons o)
  | succ n ih =>
    unfold eventOrder
    refine (mergeBySite_perm _ _).trans (((ih _).append_left _).trans ?_)
    simpa [bne] using List.filter_append_perm (fun o => departed o == some n) l

/-- An event's records join in ascending site order where those of each departure's denials are so (R96,
R145); an event with no departure has none. -/
theorem eventOrder_sorted (departed : OutcomeRecord → Option Nat) (n : Nat) (l : List OutcomeRecord)
    (h : ∀ k, (l.filter (departed · == some k)).Pairwise fun a b => a.site ≤ b.site) :
    (eventOrder departed n l).Pairwise fun a b => a.site ≤ b.site := by
  induction n generalizing l with
  | zero =>
    unfold eventOrder
    clear h
    induction l with
    | nil => simp
    | cons o rest ih => exact insertBySite_sorted o ih
  | succ n ih =>
    refine mergeBySite_sorted (h n) (ih _ fun k => ?_)
    refine (h k).sublist ?_
    rw [List.filter_filter]
    exact List.monotone_filter_right _ fun o ho => (Bool.and_eq_true _ _ ▸ ho).1

/-- The records of a link's departure join in the order in which their moves ended, which is ascending
lens index (R145). -/
theorem eventOrder_departed (departed : OutcomeRecord → Option Nat) (n k : Nat) (hk : k < n)
    (l : List OutcomeRecord) :
    (eventOrder departed n l).filter (departed · == some k) = l.filter (departed · == some k) := by
  induction n generalizing l with
  | zero => omega
  | succ n ih =>
    unfold eventOrder
    by_cases h : k = n
    · subst h
      refine mergeBySite_filter _ _ _ (fun o ho => (List.mem_filter.mp ho).2) fun o ho => ?_
      have := (List.mem_filter.mp ((eventOrder_perm _ _ _).mem_iff.mp ho)).2
      simpa [bne] using this
    · have hlt : k < n := by omega
      rw [mergeBySite_filter_right _ _ _ fun o ho => ?_, ih hlt, List.filter_filter]
      · refine List.filter_congr fun o _ => ?_
        by_cases hd : departed o = some k
        · simp [hd, bne, h]
        · simp [hd]
      · have hd : departed o = some n := by simpa using (List.mem_filter.mp ho).2
        simp [hd, Ne.symm h]

/-- An event that makes no record leaves the queue and its overflow latch as they are. -/
theorem closeEvent_none {s t : State} (h : t.outcomes.length = s.outcomes.length) :
    s.closeEvent t = t := by
  have he : eventOrder s.departed s.links.length [] = [] := (eventOrder_perm _ _ []).eq_nil
  simp [State.closeEvent, he, ← h]

/-- An event that makes one record appends it, or loses it with the latch set (R97). -/
theorem closeEvent_one {s t : State} (o : OutcomeRecord) (h : t.outcomes = s.outcomes ++ [o]) :
    s.closeEvent t =
      if s.outcomes.length < Config.outcomeDepth then t
      else if t.overflow then { t with outcomes := s.outcomes }
      else { t with outcomes := s.outcomes, overflow := true }.latchOutcomeOverflow := by
  have ho : eventOrder s.departed s.links.length [o] = [o] :=
    List.perm_singleton.mp (eventOrder_perm _ _ _)
  have hd : t.outcomes.drop s.outcomes.length = [o] := by simp [h]
  have ht : t.outcomes.take s.outcomes.length = s.outcomes := by simp [h]
  unfold State.closeEvent
  simp only [hd, ht, ho, List.length_singleton]
  by_cases hl : s.outcomes.length < Config.outcomeDepth
  · have h1 : 1 ≤ Config.outcomeDepth - s.outcomes.length := by omega
    have h2 : [o].take (Config.outcomeDepth - s.outcomes.length) = [o] :=
      List.take_of_length_le (by simpa using h1)
    simp [hl, h1, h2, ← h]
  · have h0 : Config.outcomeDepth - s.outcomes.length = 0 := by omega
    simp [hl, h0]

/-- The outcome queue keeps its capacity at the close of an event (R97). -/
theorem closeEvent_capacity (s t : State) (h : s.outcomes.length ≤ Config.outcomeDepth) :
    (s.closeEvent t).outcomes.length ≤ Config.outcomeDepth := by
  unfold State.closeEvent
  simp only
  split
  · simp only [List.length_append, List.length_take]
    omega
  · simp only [State.latchOutcomeOverflow, List.length_append, List.length_take]
    omega

/-- With no denial waiting and no record made, an event closes as it stands. -/
theorem close_quiet {s t : State} (h1 : t.firstDenied = none) (h2 : t.outcomes = s.outcomes) :
    s.close t = t := by
  have hs : t.settle = t := by
    unfold State.settle
    cases t.robots.length with
    | zero => rfl
    | succ n => simp [State.settleDenials, h1]
  rw [State.close, hs, closeEvent_none (by rw [h2])]

/-- A site whose move a denial ends at once has such a denial. -/
theorem lowestDenied_some {s : State} {kind : DenyReason → Bool} {site : Nat}
    (h : s.lowestDenied kind = some site) :
    ((s.robots[site]?).bind Robot.deniedAtRest).isSome = true := by
  have := List.find?_some h
  rw [Option.any_eq_true] at this
  obtain ⟨r, hr, -⟩ := this
  rw [hr]
  rfl

theorem deniedLens_some {s : State} {i site : Nat} (h : s.deniedLens i = some site) :
    ((s.robots[site]?).bind Robot.deniedAtRest).isSome = true := by
  have := List.find?_some h
  rw [Option.any_eq_true] at this
  obtain ⟨r, hr, hd⟩ := this
  simp only [Bool.and_eq_true, beq_iff_eq] at hd
  simp [hr, hd.1]

/-- The lower of two sites is one of them. -/
theorem lowerSite_some {a b : Option Nat} {site : Nat} (h : lowerSite a b = some site) :
    a = some site ∨ b = some site := by
  cases a with
  | none => exact .inr h
  | some x =>
    cases b with
    | none => exact .inl h
    | some y =>
      have hm : min x y = site := Option.some.inj h
      rcases Nat.le_total x y with hxy | hxy
      · exact .inl (by rw [← hm, Nat.min_eq_left hxy])
      · exact .inr (by rw [← hm, Nat.min_eq_right hxy])

/-- The next site whose move a denial ends at once has such a denial (R93). -/
theorem firstDenied_some {s : State} {site : Nat} (h : s.firstDenied = some site) :
    ((s.robots[site]?).bind Robot.deniedAtRest).isSome = true := by
  have hfold : ∀ (l : List Nat), (l.map s.deniedOn).foldr lowerSite
      (s.lowestDenied (· != .linkDown)) = some site →
      ((s.robots[site]?).bind Robot.deniedAtRest).isSome = true := by
    intro l
    induction l with
    | nil => exact lowestDenied_some
    | cons k rest ih =>
      intro hk
      rcases lowerSite_some hk with hk | hk
      · obtain ⟨i, -, hi⟩ := List.exists_of_findSome?_eq_some hk
        exact deniedLens_some hi
      · exact ih hk
  rcases Option.or_eq_some_iff.mp h with h | ⟨-, h⟩
  · exact hfold _ h
  · exact lowestDenied_some h

/-- No denial that ends a move is left exactly where no site has one (R93). -/
theorem firstDenied_none (s : State) :
    s.firstDenied = none ↔ s.lowestDenied (fun _ => true) = none := by
  refine ⟨fun h => (Option.or_eq_none_iff.mp h).2, fun h => ?_⟩
  cases hf : s.firstDenied with
  | none => rfl
  | some site =>
    have hs := firstDenied_some hf
    have hlt : site < s.robots.length := by
      by_contra hge
      simp [List.getElem?_eq_none (Nat.le_of_not_lt hge)] at hs
    have := List.find?_eq_none.mp h site (List.mem_range.mpr hlt)
    obtain ⟨x, hx⟩ := Option.isSome_iff_exists.mp hs
    simp [hx] at this

end Sys2Proof.Machine
end

