-- ==== Sys2Proof/Laws/State.lean ====
section
/-! SUPPORT. What each update of the state leaves and changes, one lemma per field per update. -/

namespace Sys2Proof.Machine

variable (s : State)

/-! ### modRobot -/

@[simp] theorem State.modRobot_robots (i : Nat) (f : Robot → Robot) :
    (s.modRobot i f).robots = s.robots.modify i f := rfl
@[simp] theorem State.modRobot_pending (i : Nat) (f : Robot → Robot) :
    (s.modRobot i f).pending = s.pending := rfl
@[simp] theorem State.modRobot_now (i : Nat) (f : Robot → Robot) :
    (s.modRobot i f).now = s.now := rfl
@[simp] theorem State.modRobot_map (i : Nat) (f : Robot → Robot) :
    (s.modRobot i f).map = s.map := rfl
@[simp] theorem State.modRobot_loader (i : Nat) (f : Robot → Robot) :
    (s.modRobot i f).loader = s.loader := rfl
@[simp] theorem State.modRobot_lenses (i : Nat) (f : Robot → Robot) :
    (s.modRobot i f).lenses = s.lenses := rfl
@[simp] theorem State.modRobot_siteLens (i : Nat) (f : Robot → Robot) :
    (s.modRobot i f).siteLens = s.siteLens := rfl
@[simp] theorem State.modRobot_digests (i : Nat) (f : Robot → Robot) :
    (s.modRobot i f).digests = s.digests := rfl
@[simp] theorem State.modRobot_targets (i : Nat) (f : Robot → Robot) :
    (s.modRobot i f).targets = s.targets := rfl
@[simp] theorem State.modRobot_outcomes (i : Nat) (f : Robot → Robot) :
    (s.modRobot i f).outcomes = s.outcomes := rfl
@[simp] theorem State.modRobot_overflow (i : Nat) (f : Robot → Robot) :
    (s.modRobot i f).overflow = s.overflow := rfl
@[simp] theorem State.modRobot_mode (i : Nat) (f : Robot → Robot) :
    (s.modRobot i f).mode = s.mode := rfl
@[simp] theorem State.modRobot_field (i : Nat) (f : Robot → Robot) :
    (s.modRobot i f).field = s.field := rfl
@[simp] theorem State.modRobot_timer (i : Nat) (f : Robot → Robot) :
    (s.modRobot i f).timer = s.timer := rfl
@[simp] theorem State.modRobot_inputs (i : Nat) (f : Robot → Robot) :
    (s.modRobot i f).inputs = s.inputs := rfl
@[simp] theorem State.modRobot_posChanged (i : Nat) (f : Robot → Robot) :
    (s.modRobot i f).posChanged = s.posChanged := rfl
@[simp] theorem State.modRobot_params (i : Nat) (f : Robot → Robot) :
    (s.modRobot i f).params = s.params := rfl
@[simp] theorem State.modRobot_links (i : Nat) (f : Robot → Robot) :
    (s.modRobot i f).links = s.links := rfl
@[simp] theorem State.modRobot_buses (i : Nat) (f : Robot → Robot) :
    (s.modRobot i f).buses = s.buses := rfl
@[simp] theorem State.modRobot_inquiry (i : Nat) (f : Robot → Robot) :
    (s.modRobot i f).inquiry = s.inquiry := rfl
@[simp] theorem State.modRobot_converter (i : Nat) (f : Robot → Robot) :
    (s.modRobot i f).converter = s.converter := rfl
@[simp] theorem State.modRobot_conversionDue (i : Nat) (f : Robot → Robot) :
    (s.modRobot i f).conversionDue = s.conversionDue := rfl
@[simp] theorem State.modRobot_notices (i : Nat) (f : Robot → Robot) :
    (s.modRobot i f).notices = s.notices := rfl
@[simp] theorem State.modRobot_sequencer (i : Nat) (f : Robot → Robot) :
    (s.modRobot i f).sequencer = s.sequencer := rfl
@[simp] theorem State.modRobot_metrology (i : Nat) (f : Robot → Robot) :
    (s.modRobot i f).metrology = s.metrology := rfl
@[simp] theorem State.modRobot_resetCause (i : Nat) (f : Robot → Robot) :
    (s.modRobot i f).resetCause = s.resetCause := rfl

/-! ### modBus -/

@[simp] theorem State.modBus_buses (b : Nat) (f : Bus → Bus) :
    (s.modBus b f).buses = s.buses.modify b f := rfl
@[simp] theorem State.modBus_pending (b : Nat) (f : Bus → Bus) :
    (s.modBus b f).pending = s.pending := rfl
@[simp] theorem State.modBus_now (b : Nat) (f : Bus → Bus) :
    (s.modBus b f).now = s.now := rfl
@[simp] theorem State.modBus_map (b : Nat) (f : Bus → Bus) :
    (s.modBus b f).map = s.map := rfl
@[simp] theorem State.modBus_loader (b : Nat) (f : Bus → Bus) :
    (s.modBus b f).loader = s.loader := rfl
@[simp] theorem State.modBus_lenses (b : Nat) (f : Bus → Bus) :
    (s.modBus b f).lenses = s.lenses := rfl
@[simp] theorem State.modBus_siteLens (b : Nat) (f : Bus → Bus) :
    (s.modBus b f).siteLens = s.siteLens := rfl
@[simp] theorem State.modBus_digests (b : Nat) (f : Bus → Bus) :
    (s.modBus b f).digests = s.digests := rfl
@[simp] theorem State.modBus_robots (b : Nat) (f : Bus → Bus) :
    (s.modBus b f).robots = s.robots := rfl
@[simp] theorem State.modBus_targets (b : Nat) (f : Bus → Bus) :
    (s.modBus b f).targets = s.targets := rfl
@[simp] theorem State.modBus_outcomes (b : Nat) (f : Bus → Bus) :
    (s.modBus b f).outcomes = s.outcomes := rfl
@[simp] theorem State.modBus_overflow (b : Nat) (f : Bus → Bus) :
    (s.modBus b f).overflow = s.overflow := rfl
@[simp] theorem State.modBus_mode (b : Nat) (f : Bus → Bus) :
    (s.modBus b f).mode = s.mode := rfl
@[simp] theorem State.modBus_field (b : Nat) (f : Bus → Bus) :
    (s.modBus b f).field = s.field := rfl
@[simp] theorem State.modBus_timer (b : Nat) (f : Bus → Bus) :
    (s.modBus b f).timer = s.timer := rfl
@[simp] theorem State.modBus_inputs (b : Nat) (f : Bus → Bus) :
    (s.modBus b f).inputs = s.inputs := rfl
@[simp] theorem State.modBus_posChanged (b : Nat) (f : Bus → Bus) :
    (s.modBus b f).posChanged = s.posChanged := rfl
@[simp] theorem State.modBus_params (b : Nat) (f : Bus → Bus) :
    (s.modBus b f).params = s.params := rfl
@[simp] theorem State.modBus_links (b : Nat) (f : Bus → Bus) :
    (s.modBus b f).links = s.links := rfl
@[simp] theorem State.modBus_inquiry (b : Nat) (f : Bus → Bus) :
    (s.modBus b f).inquiry = s.inquiry := rfl
@[simp] theorem State.modBus_converter (b : Nat) (f : Bus → Bus) :
    (s.modBus b f).converter = s.converter := rfl
@[simp] theorem State.modBus_conversionDue (b : Nat) (f : Bus → Bus) :
    (s.modBus b f).conversionDue = s.conversionDue := rfl
@[simp] theorem State.modBus_notices (b : Nat) (f : Bus → Bus) :
    (s.modBus b f).notices = s.notices := rfl
@[simp] theorem State.modBus_sequencer (b : Nat) (f : Bus → Bus) :
    (s.modBus b f).sequencer = s.sequencer := rfl
@[simp] theorem State.modBus_metrology (b : Nat) (f : Bus → Bus) :
    (s.modBus b f).metrology = s.metrology := rfl
@[simp] theorem State.modBus_resetCause (b : Nat) (f : Bus → Bus) :
    (s.modBus b f).resetCause = s.resetCause := rfl

/-! ### modLink -/

@[simp] theorem State.modLink_links (n : Nat) (f : Link → Link) :
    (s.modLink n f).links = s.links.modify n f := rfl
@[simp] theorem State.modLink_pending (n : Nat) (f : Link → Link) :
    (s.modLink n f).pending = s.pending := rfl
@[simp] theorem State.modLink_now (n : Nat) (f : Link → Link) :
    (s.modLink n f).now = s.now := rfl
@[simp] theorem State.modLink_map (n : Nat) (f : Link → Link) :
    (s.modLink n f).map = s.map := rfl
@[simp] theorem State.modLink_loader (n : Nat) (f : Link → Link) :
    (s.modLink n f).loader = s.loader := rfl
@[simp] theorem State.modLink_lenses (n : Nat) (f : Link → Link) :
    (s.modLink n f).lenses = s.lenses := rfl
@[simp] theorem State.modLink_siteLens (n : Nat) (f : Link → Link) :
    (s.modLink n f).siteLens = s.siteLens := rfl
@[simp] theorem State.modLink_digests (n : Nat) (f : Link → Link) :
    (s.modLink n f).digests = s.digests := rfl
@[simp] theorem State.modLink_robots (n : Nat) (f : Link → Link) :
    (s.modLink n f).robots = s.robots := rfl
@[simp] theorem State.modLink_targets (n : Nat) (f : Link → Link) :
    (s.modLink n f).targets = s.targets := rfl
@[simp] theorem State.modLink_outcomes (n : Nat) (f : Link → Link) :
    (s.modLink n f).outcomes = s.outcomes := rfl
@[simp] theorem State.modLink_overflow (n : Nat) (f : Link → Link) :
    (s.modLink n f).overflow = s.overflow := rfl
@[simp] theorem State.modLink_mode (n : Nat) (f : Link → Link) :
    (s.modLink n f).mode = s.mode := rfl
@[simp] theorem State.modLink_field (n : Nat) (f : Link → Link) :
    (s.modLink n f).field = s.field := rfl
@[simp] theorem State.modLink_timer (n : Nat) (f : Link → Link) :
    (s.modLink n f).timer = s.timer := rfl
@[simp] theorem State.modLink_inputs (n : Nat) (f : Link → Link) :
    (s.modLink n f).inputs = s.inputs := rfl
@[simp] theorem State.modLink_posChanged (n : Nat) (f : Link → Link) :
    (s.modLink n f).posChanged = s.posChanged := rfl
@[simp] theorem State.modLink_params (n : Nat) (f : Link → Link) :
    (s.modLink n f).params = s.params := rfl
@[simp] theorem State.modLink_buses (n : Nat) (f : Link → Link) :
    (s.modLink n f).buses = s.buses := rfl
@[simp] theorem State.modLink_inquiry (n : Nat) (f : Link → Link) :
    (s.modLink n f).inquiry = s.inquiry := rfl
@[simp] theorem State.modLink_converter (n : Nat) (f : Link → Link) :
    (s.modLink n f).converter = s.converter := rfl
@[simp] theorem State.modLink_conversionDue (n : Nat) (f : Link → Link) :
    (s.modLink n f).conversionDue = s.conversionDue := rfl
@[simp] theorem State.modLink_notices (n : Nat) (f : Link → Link) :
    (s.modLink n f).notices = s.notices := rfl
@[simp] theorem State.modLink_sequencer (n : Nat) (f : Link → Link) :
    (s.modLink n f).sequencer = s.sequencer := rfl
@[simp] theorem State.modLink_metrology (n : Nat) (f : Link → Link) :
    (s.modLink n f).metrology = s.metrology := rfl
@[simp] theorem State.modLink_resetCause (n : Nat) (f : Link → Link) :
    (s.modLink n f).resetCause = s.resetCause := rfl

/-! ### modLens -/

@[simp] theorem State.modLens_lenses (i : Nat) (f : LensBody → LensBody) :
    (s.modLens i f).lenses = s.lenses.modify i fun l => { l with body := f l.body } := rfl
@[simp] theorem State.modLens_pending (i : Nat) (f : LensBody → LensBody) :
    (s.modLens i f).pending = s.pending := rfl
@[simp] theorem State.modLens_now (i : Nat) (f : LensBody → LensBody) :
    (s.modLens i f).now = s.now := rfl
@[simp] theorem State.modLens_map (i : Nat) (f : LensBody → LensBody) :
    (s.modLens i f).map = s.map := rfl
@[simp] theorem State.modLens_loader (i : Nat) (f : LensBody → LensBody) :
    (s.modLens i f).loader = s.loader := rfl
@[simp] theorem State.modLens_siteLens (i : Nat) (f : LensBody → LensBody) :
    (s.modLens i f).siteLens = s.siteLens := rfl
@[simp] theorem State.modLens_digests (i : Nat) (f : LensBody → LensBody) :
    (s.modLens i f).digests = s.digests := rfl
@[simp] theorem State.modLens_robots (i : Nat) (f : LensBody → LensBody) :
    (s.modLens i f).robots = s.robots := rfl
@[simp] theorem State.modLens_targets (i : Nat) (f : LensBody → LensBody) :
    (s.modLens i f).targets = s.targets := rfl
@[simp] theorem State.modLens_outcomes (i : Nat) (f : LensBody → LensBody) :
    (s.modLens i f).outcomes = s.outcomes := rfl
@[simp] theorem State.modLens_overflow (i : Nat) (f : LensBody → LensBody) :
    (s.modLens i f).overflow = s.overflow := rfl
@[simp] theorem State.modLens_mode (i : Nat) (f : LensBody → LensBody) :
    (s.modLens i f).mode = s.mode := rfl
@[simp] theorem State.modLens_field (i : Nat) (f : LensBody → LensBody) :
    (s.modLens i f).field = s.field := rfl
@[simp] theorem State.modLens_timer (i : Nat) (f : LensBody → LensBody) :
    (s.modLens i f).timer = s.timer := rfl
@[simp] theorem State.modLens_inputs (i : Nat) (f : LensBody → LensBody) :
    (s.modLens i f).inputs = s.inputs := rfl
@[simp] theorem State.modLens_posChanged (i : Nat) (f : LensBody → LensBody) :
    (s.modLens i f).posChanged = s.posChanged := rfl
@[simp] theorem State.modLens_params (i : Nat) (f : LensBody → LensBody) :
    (s.modLens i f).params = s.params := rfl
@[simp] theorem State.modLens_links (i : Nat) (f : LensBody → LensBody) :
    (s.modLens i f).links = s.links := rfl
@[simp] theorem State.modLens_buses (i : Nat) (f : LensBody → LensBody) :
    (s.modLens i f).buses = s.buses := rfl
@[simp] theorem State.modLens_inquiry (i : Nat) (f : LensBody → LensBody) :
    (s.modLens i f).inquiry = s.inquiry := rfl
@[simp] theorem State.modLens_converter (i : Nat) (f : LensBody → LensBody) :
    (s.modLens i f).converter = s.converter := rfl
@[simp] theorem State.modLens_conversionDue (i : Nat) (f : LensBody → LensBody) :
    (s.modLens i f).conversionDue = s.conversionDue := rfl
@[simp] theorem State.modLens_notices (i : Nat) (f : LensBody → LensBody) :
    (s.modLens i f).notices = s.notices := rfl
@[simp] theorem State.modLens_sequencer (i : Nat) (f : LensBody → LensBody) :
    (s.modLens i f).sequencer = s.sequencer := rfl
@[simp] theorem State.modLens_metrology (i : Nat) (f : LensBody → LensBody) :
    (s.modLens i f).metrology = s.metrology := rfl
@[simp] theorem State.modLens_resetCause (i : Nat) (f : LensBody → LensBody) :
    (s.modLens i f).resetCause = s.resetCause := rfl

/-! ### enterMode -/

@[simp] theorem State.enterMode_mode (m : Mode) : (s.enterMode m).mode = m := rfl
@[simp] theorem State.enterMode_pending (m : Mode) :
    (s.enterMode m).pending = s.pending := rfl
@[simp] theorem State.enterMode_now (m : Mode) :
    (s.enterMode m).now = s.now := rfl
@[simp] theorem State.enterMode_map (m : Mode) :
    (s.enterMode m).map = s.map := rfl
@[simp] theorem State.enterMode_loader (m : Mode) :
    (s.enterMode m).loader = s.loader := rfl
@[simp] theorem State.enterMode_lenses (m : Mode) :
    (s.enterMode m).lenses = s.lenses := rfl
@[simp] theorem State.enterMode_siteLens (m : Mode) :
    (s.enterMode m).siteLens = s.siteLens := rfl
@[simp] theorem State.enterMode_digests (m : Mode) :
    (s.enterMode m).digests = s.digests := rfl
@[simp] theorem State.enterMode_robots (m : Mode) :
    (s.enterMode m).robots = s.robots := rfl
@[simp] theorem State.enterMode_targets (m : Mode) :
    (s.enterMode m).targets = s.targets := rfl
@[simp] theorem State.enterMode_outcomes (m : Mode) :
    (s.enterMode m).outcomes = s.outcomes := rfl
@[simp] theorem State.enterMode_overflow (m : Mode) :
    (s.enterMode m).overflow = s.overflow := rfl
@[simp] theorem State.enterMode_field (m : Mode) :
    (s.enterMode m).field = s.field := rfl
@[simp] theorem State.enterMode_timer (m : Mode) :
    (s.enterMode m).timer = s.timer := rfl
@[simp] theorem State.enterMode_inputs (m : Mode) :
    (s.enterMode m).inputs = s.inputs := rfl
@[simp] theorem State.enterMode_posChanged (m : Mode) :
    (s.enterMode m).posChanged = s.posChanged := rfl
@[simp] theorem State.enterMode_params (m : Mode) :
    (s.enterMode m).params = s.params := rfl
@[simp] theorem State.enterMode_links (m : Mode) :
    (s.enterMode m).links = s.links := rfl
@[simp] theorem State.enterMode_buses (m : Mode) :
    (s.enterMode m).buses = s.buses := rfl
@[simp] theorem State.enterMode_inquiry (m : Mode) :
    (s.enterMode m).inquiry = s.inquiry := rfl
@[simp] theorem State.enterMode_converter (m : Mode) :
    (s.enterMode m).converter = s.converter := rfl
@[simp] theorem State.enterMode_conversionDue (m : Mode) :
    (s.enterMode m).conversionDue = s.conversionDue := rfl
@[simp] theorem State.enterMode_sequencer (m : Mode) :
    (s.enterMode m).sequencer = s.sequencer := rfl
@[simp] theorem State.enterMode_metrology (m : Mode) :
    (s.enterMode m).metrology = s.metrology := rfl
@[simp] theorem State.enterMode_resetCause (m : Mode) :
    (s.enterMode m).resetCause = s.resetCause := rfl

/-! ### latchFieldEnded -/

@[simp] theorem State.latchFieldEnded_pending :
    (s.latchFieldEnded).pending = s.pending := rfl
@[simp] theorem State.latchFieldEnded_now :
    (s.latchFieldEnded).now = s.now := rfl
@[simp] theorem State.latchFieldEnded_map :
    (s.latchFieldEnded).map = s.map := rfl
@[simp] theorem State.latchFieldEnded_loader :
    (s.latchFieldEnded).loader = s.loader := rfl
@[simp] theorem State.latchFieldEnded_lenses :
    (s.latchFieldEnded).lenses = s.lenses := rfl
@[simp] theorem State.latchFieldEnded_siteLens :
    (s.latchFieldEnded).siteLens = s.siteLens := rfl
@[simp] theorem State.latchFieldEnded_digests :
    (s.latchFieldEnded).digests = s.digests := rfl
@[simp] theorem State.latchFieldEnded_robots :
    (s.latchFieldEnded).robots = s.robots := rfl
@[simp] theorem State.latchFieldEnded_targets :
    (s.latchFieldEnded).targets = s.targets := rfl
@[simp] theorem State.latchFieldEnded_outcomes :
    (s.latchFieldEnded).outcomes = s.outcomes := rfl
@[simp] theorem State.latchFieldEnded_overflow :
    (s.latchFieldEnded).overflow = s.overflow := rfl
@[simp] theorem State.latchFieldEnded_mode :
    (s.latchFieldEnded).mode = s.mode := rfl
@[simp] theorem State.latchFieldEnded_field :
    (s.latchFieldEnded).field = s.field := rfl
@[simp] theorem State.latchFieldEnded_timer :
    (s.latchFieldEnded).timer = s.timer := rfl
@[simp] theorem State.latchFieldEnded_inputs :
    (s.latchFieldEnded).inputs = s.inputs := rfl
@[simp] theorem State.latchFieldEnded_posChanged :
    (s.latchFieldEnded).posChanged = s.posChanged := rfl
@[simp] theorem State.latchFieldEnded_params :
    (s.latchFieldEnded).params = s.params := rfl
@[simp] theorem State.latchFieldEnded_links :
    (s.latchFieldEnded).links = s.links := rfl
@[simp] theorem State.latchFieldEnded_buses :
    (s.latchFieldEnded).buses = s.buses := rfl
@[simp] theorem State.latchFieldEnded_inquiry :
    (s.latchFieldEnded).inquiry = s.inquiry := rfl
@[simp] theorem State.latchFieldEnded_converter :
    (s.latchFieldEnded).converter = s.converter := rfl
@[simp] theorem State.latchFieldEnded_conversionDue :
    (s.latchFieldEnded).conversionDue = s.conversionDue := rfl
@[simp] theorem State.latchFieldEnded_sequencer :
    (s.latchFieldEnded).sequencer = s.sequencer := rfl
@[simp] theorem State.latchFieldEnded_metrology :
    (s.latchFieldEnded).metrology = s.metrology := rfl
@[simp] theorem State.latchFieldEnded_resetCause :
    (s.latchFieldEnded).resetCause = s.resetCause := rfl

/-! ### latchDeadline -/

@[simp] theorem State.latchDeadline_pending :
    (s.latchDeadline).pending = s.pending := rfl
@[simp] theorem State.latchDeadline_now :
    (s.latchDeadline).now = s.now := rfl
@[simp] theorem State.latchDeadline_map :
    (s.latchDeadline).map = s.map := rfl
@[simp] theorem State.latchDeadline_loader :
    (s.latchDeadline).loader = s.loader := rfl
@[simp] theorem State.latchDeadline_lenses :
    (s.latchDeadline).lenses = s.lenses := rfl
@[simp] theorem State.latchDeadline_siteLens :
    (s.latchDeadline).siteLens = s.siteLens := rfl
@[simp] theorem State.latchDeadline_digests :
    (s.latchDeadline).digests = s.digests := rfl
@[simp] theorem State.latchDeadline_robots :
    (s.latchDeadline).robots = s.robots := rfl
@[simp] theorem State.latchDeadline_targets :
    (s.latchDeadline).targets = s.targets := rfl
@[simp] theorem State.latchDeadline_outcomes :
    (s.latchDeadline).outcomes = s.outcomes := rfl
@[simp] theorem State.latchDeadline_overflow :
    (s.latchDeadline).overflow = s.overflow := rfl
@[simp] theorem State.latchDeadline_mode :
    (s.latchDeadline).mode = s.mode := rfl
@[simp] theorem State.latchDeadline_field :
    (s.latchDeadline).field = s.field := rfl
@[simp] theorem State.latchDeadline_timer :
    (s.latchDeadline).timer = s.timer := rfl
@[simp] theorem State.latchDeadline_inputs :
    (s.latchDeadline).inputs = s.inputs := rfl
@[simp] theorem State.latchDeadline_posChanged :
    (s.latchDeadline).posChanged = s.posChanged := rfl
@[simp] theorem State.latchDeadline_params :
    (s.latchDeadline).params = s.params := rfl
@[simp] theorem State.latchDeadline_links :
    (s.latchDeadline).links = s.links := rfl
@[simp] theorem State.latchDeadline_buses :
    (s.latchDeadline).buses = s.buses := rfl
@[simp] theorem State.latchDeadline_inquiry :
    (s.latchDeadline).inquiry = s.inquiry := rfl
@[simp] theorem State.latchDeadline_converter :
    (s.latchDeadline).converter = s.converter := rfl
@[simp] theorem State.latchDeadline_conversionDue :
    (s.latchDeadline).conversionDue = s.conversionDue := rfl
@[simp] theorem State.latchDeadline_sequencer :
    (s.latchDeadline).sequencer = s.sequencer := rfl
@[simp] theorem State.latchDeadline_metrology :
    (s.latchDeadline).metrology = s.metrology := rfl
@[simp] theorem State.latchDeadline_resetCause :
    (s.latchDeadline).resetCause = s.resetCause := rfl

/-! ### latchBusTrip -/

@[simp] theorem State.latchBusTrip_pending :
    (s.latchBusTrip).pending = s.pending := rfl
@[simp] theorem State.latchBusTrip_now :
    (s.latchBusTrip).now = s.now := rfl
@[simp] theorem State.latchBusTrip_map :
    (s.latchBusTrip).map = s.map := rfl
@[simp] theorem State.latchBusTrip_loader :
    (s.latchBusTrip).loader = s.loader := rfl
@[simp] theorem State.latchBusTrip_lenses :
    (s.latchBusTrip).lenses = s.lenses := rfl
@[simp] theorem State.latchBusTrip_siteLens :
    (s.latchBusTrip).siteLens = s.siteLens := rfl
@[simp] theorem State.latchBusTrip_digests :
    (s.latchBusTrip).digests = s.digests := rfl
@[simp] theorem State.latchBusTrip_robots :
    (s.latchBusTrip).robots = s.robots := rfl
@[simp] theorem State.latchBusTrip_targets :
    (s.latchBusTrip).targets = s.targets := rfl
@[simp] theorem State.latchBusTrip_outcomes :
    (s.latchBusTrip).outcomes = s.outcomes := rfl
@[simp] theorem State.latchBusTrip_overflow :
    (s.latchBusTrip).overflow = s.overflow := rfl
@[simp] theorem State.latchBusTrip_mode :
    (s.latchBusTrip).mode = s.mode := rfl
@[simp] theorem State.latchBusTrip_field :
    (s.latchBusTrip).field = s.field := rfl
@[simp] theorem State.latchBusTrip_timer :
    (s.latchBusTrip).timer = s.timer := rfl
@[simp] theorem State.latchBusTrip_inputs :
    (s.latchBusTrip).inputs = s.inputs := rfl
@[simp] theorem State.latchBusTrip_posChanged :
    (s.latchBusTrip).posChanged = s.posChanged := rfl
@[simp] theorem State.latchBusTrip_params :
    (s.latchBusTrip).params = s.params := rfl
@[simp] theorem State.latchBusTrip_links :
    (s.latchBusTrip).links = s.links := rfl
@[simp] theorem State.latchBusTrip_buses :
    (s.latchBusTrip).buses = s.buses := rfl
@[simp] theorem State.latchBusTrip_inquiry :
    (s.latchBusTrip).inquiry = s.inquiry := rfl
@[simp] theorem State.latchBusTrip_converter :
    (s.latchBusTrip).converter = s.converter := rfl
@[simp] theorem State.latchBusTrip_conversionDue :
    (s.latchBusTrip).conversionDue = s.conversionDue := rfl
@[simp] theorem State.latchBusTrip_sequencer :
    (s.latchBusTrip).sequencer = s.sequencer := rfl
@[simp] theorem State.latchBusTrip_metrology :
    (s.latchBusTrip).metrology = s.metrology := rfl
@[simp] theorem State.latchBusTrip_resetCause :
    (s.latchBusTrip).resetCause = s.resetCause := rfl

/-! ### latchWiring -/

@[simp] theorem State.latchWiring_pending :
    (s.latchWiring).pending = s.pending := rfl
@[simp] theorem State.latchWiring_now :
    (s.latchWiring).now = s.now := rfl
@[simp] theorem State.latchWiring_map :
    (s.latchWiring).map = s.map := rfl
@[simp] theorem State.latchWiring_loader :
    (s.latchWiring).loader = s.loader := rfl
@[simp] theorem State.latchWiring_lenses :
    (s.latchWiring).lenses = s.lenses := rfl
@[simp] theorem State.latchWiring_siteLens :
    (s.latchWiring).siteLens = s.siteLens := rfl
@[simp] theorem State.latchWiring_digests :
    (s.latchWiring).digests = s.digests := rfl
@[simp] theorem State.latchWiring_robots :
    (s.latchWiring).robots = s.robots := rfl
@[simp] theorem State.latchWiring_targets :
    (s.latchWiring).targets = s.targets := rfl
@[simp] theorem State.latchWiring_outcomes :
    (s.latchWiring).outcomes = s.outcomes := rfl
@[simp] theorem State.latchWiring_overflow :
    (s.latchWiring).overflow = s.overflow := rfl
@[simp] theorem State.latchWiring_mode :
    (s.latchWiring).mode = s.mode := rfl
@[simp] theorem State.latchWiring_field :
    (s.latchWiring).field = s.field := rfl
@[simp] theorem State.latchWiring_timer :
    (s.latchWiring).timer = s.timer := rfl
@[simp] theorem State.latchWiring_inputs :
    (s.latchWiring).inputs = s.inputs := rfl
@[simp] theorem State.latchWiring_posChanged :
    (s.latchWiring).posChanged = s.posChanged := rfl
@[simp] theorem State.latchWiring_params :
    (s.latchWiring).params = s.params := rfl
@[simp] theorem State.latchWiring_links :
    (s.latchWiring).links = s.links := rfl
@[simp] theorem State.latchWiring_buses :
    (s.latchWiring).buses = s.buses := rfl
@[simp] theorem State.latchWiring_inquiry :
    (s.latchWiring).inquiry = s.inquiry := rfl
@[simp] theorem State.latchWiring_converter :
    (s.latchWiring).converter = s.converter := rfl
@[simp] theorem State.latchWiring_conversionDue :
    (s.latchWiring).conversionDue = s.conversionDue := rfl
@[simp] theorem State.latchWiring_sequencer :
    (s.latchWiring).sequencer = s.sequencer := rfl
@[simp] theorem State.latchWiring_metrology :
    (s.latchWiring).metrology = s.metrology := rfl
@[simp] theorem State.latchWiring_resetCause :
    (s.latchWiring).resetCause = s.resetCause := rfl

/-! ### latchPeerChange -/

@[simp] theorem State.latchPeerChange_pending :
    (s.latchPeerChange).pending = s.pending := rfl
@[simp] theorem State.latchPeerChange_now :
    (s.latchPeerChange).now = s.now := rfl
@[simp] theorem State.latchPeerChange_map :
    (s.latchPeerChange).map = s.map := rfl
@[simp] theorem State.latchPeerChange_loader :
    (s.latchPeerChange).loader = s.loader := rfl
@[simp] theorem State.latchPeerChange_lenses :
    (s.latchPeerChange).lenses = s.lenses := rfl
@[simp] theorem State.latchPeerChange_siteLens :
    (s.latchPeerChange).siteLens = s.siteLens := rfl
@[simp] theorem State.latchPeerChange_digests :
    (s.latchPeerChange).digests = s.digests := rfl
@[simp] theorem State.latchPeerChange_robots :
    (s.latchPeerChange).robots = s.robots := rfl
@[simp] theorem State.latchPeerChange_targets :
    (s.latchPeerChange).targets = s.targets := rfl
@[simp] theorem State.latchPeerChange_outcomes :
    (s.latchPeerChange).outcomes = s.outcomes := rfl
@[simp] theorem State.latchPeerChange_overflow :
    (s.latchPeerChange).overflow = s.overflow := rfl
@[simp] theorem State.latchPeerChange_mode :
    (s.latchPeerChange).mode = s.mode := rfl
@[simp] theorem State.latchPeerChange_field :
    (s.latchPeerChange).field = s.field := rfl
@[simp] theorem State.latchPeerChange_timer :
    (s.latchPeerChange).timer = s.timer := rfl
@[simp] theorem State.latchPeerChange_inputs :
    (s.latchPeerChange).inputs = s.inputs := rfl
@[simp] theorem State.latchPeerChange_posChanged :
    (s.latchPeerChange).posChanged = s.posChanged := rfl
@[simp] theorem State.latchPeerChange_params :
    (s.latchPeerChange).params = s.params := rfl
@[simp] theorem State.latchPeerChange_links :
    (s.latchPeerChange).links = s.links := rfl
@[simp] theorem State.latchPeerChange_buses :
    (s.latchPeerChange).buses = s.buses := rfl
@[simp] theorem State.latchPeerChange_inquiry :
    (s.latchPeerChange).inquiry = s.inquiry := rfl
@[simp] theorem State.latchPeerChange_converter :
    (s.latchPeerChange).converter = s.converter := rfl
@[simp] theorem State.latchPeerChange_conversionDue :
    (s.latchPeerChange).conversionDue = s.conversionDue := rfl
@[simp] theorem State.latchPeerChange_sequencer :
    (s.latchPeerChange).sequencer = s.sequencer := rfl
@[simp] theorem State.latchPeerChange_metrology :
    (s.latchPeerChange).metrology = s.metrology := rfl
@[simp] theorem State.latchPeerChange_resetCause :
    (s.latchPeerChange).resetCause = s.resetCause := rfl

/-! ### latchInquiryDone -/

@[simp] theorem State.latchInquiryDone_pending :
    (s.latchInquiryDone).pending = s.pending := rfl
@[simp] theorem State.latchInquiryDone_now :
    (s.latchInquiryDone).now = s.now := rfl
@[simp] theorem State.latchInquiryDone_map :
    (s.latchInquiryDone).map = s.map := rfl
@[simp] theorem State.latchInquiryDone_loader :
    (s.latchInquiryDone).loader = s.loader := rfl
@[simp] theorem State.latchInquiryDone_lenses :
    (s.latchInquiryDone).lenses = s.lenses := rfl
@[simp] theorem State.latchInquiryDone_siteLens :
    (s.latchInquiryDone).siteLens = s.siteLens := rfl
@[simp] theorem State.latchInquiryDone_digests :
    (s.latchInquiryDone).digests = s.digests := rfl
@[simp] theorem State.latchInquiryDone_robots :
    (s.latchInquiryDone).robots = s.robots := rfl
@[simp] theorem State.latchInquiryDone_targets :
    (s.latchInquiryDone).targets = s.targets := rfl
@[simp] theorem State.latchInquiryDone_outcomes :
    (s.latchInquiryDone).outcomes = s.outcomes := rfl
@[simp] theorem State.latchInquiryDone_overflow :
    (s.latchInquiryDone).overflow = s.overflow := rfl
@[simp] theorem State.latchInquiryDone_mode :
    (s.latchInquiryDone).mode = s.mode := rfl
@[simp] theorem State.latchInquiryDone_field :
    (s.latchInquiryDone).field = s.field := rfl
@[simp] theorem State.latchInquiryDone_timer :
    (s.latchInquiryDone).timer = s.timer := rfl
@[simp] theorem State.latchInquiryDone_inputs :
    (s.latchInquiryDone).inputs = s.inputs := rfl
@[simp] theorem State.latchInquiryDone_posChanged :
    (s.latchInquiryDone).posChanged = s.posChanged := rfl
@[simp] theorem State.latchInquiryDone_params :
    (s.latchInquiryDone).params = s.params := rfl
@[simp] theorem State.latchInquiryDone_links :
    (s.latchInquiryDone).links = s.links := rfl
@[simp] theorem State.latchInquiryDone_buses :
    (s.latchInquiryDone).buses = s.buses := rfl
@[simp] theorem State.latchInquiryDone_inquiry :
    (s.latchInquiryDone).inquiry = s.inquiry := rfl
@[simp] theorem State.latchInquiryDone_converter :
    (s.latchInquiryDone).converter = s.converter := rfl
@[simp] theorem State.latchInquiryDone_conversionDue :
    (s.latchInquiryDone).conversionDue = s.conversionDue := rfl
@[simp] theorem State.latchInquiryDone_sequencer :
    (s.latchInquiryDone).sequencer = s.sequencer := rfl
@[simp] theorem State.latchInquiryDone_metrology :
    (s.latchInquiryDone).metrology = s.metrology := rfl
@[simp] theorem State.latchInquiryDone_resetCause :
    (s.latchInquiryDone).resetCause = s.resetCause := rfl

/-! ### latchOutcomeOverflow -/

@[simp] theorem State.latchOutcomeOverflow_pending :
    (s.latchOutcomeOverflow).pending = s.pending := rfl
@[simp] theorem State.latchOutcomeOverflow_now :
    (s.latchOutcomeOverflow).now = s.now := rfl
@[simp] theorem State.latchOutcomeOverflow_map :
    (s.latchOutcomeOverflow).map = s.map := rfl
@[simp] theorem State.latchOutcomeOverflow_loader :
    (s.latchOutcomeOverflow).loader = s.loader := rfl
@[simp] theorem State.latchOutcomeOverflow_lenses :
    (s.latchOutcomeOverflow).lenses = s.lenses := rfl
@[simp] theorem State.latchOutcomeOverflow_siteLens :
    (s.latchOutcomeOverflow).siteLens = s.siteLens := rfl
@[simp] theorem State.latchOutcomeOverflow_digests :
    (s.latchOutcomeOverflow).digests = s.digests := rfl
@[simp] theorem State.latchOutcomeOverflow_robots :
    (s.latchOutcomeOverflow).robots = s.robots := rfl
@[simp] theorem State.latchOutcomeOverflow_targets :
    (s.latchOutcomeOverflow).targets = s.targets := rfl
@[simp] theorem State.latchOutcomeOverflow_outcomes :
    (s.latchOutcomeOverflow).outcomes = s.outcomes := rfl
@[simp] theorem State.latchOutcomeOverflow_overflow :
    (s.latchOutcomeOverflow).overflow = s.overflow := rfl
@[simp] theorem State.latchOutcomeOverflow_mode :
    (s.latchOutcomeOverflow).mode = s.mode := rfl
@[simp] theorem State.latchOutcomeOverflow_field :
    (s.latchOutcomeOverflow).field = s.field := rfl
@[simp] theorem State.latchOutcomeOverflow_timer :
    (s.latchOutcomeOverflow).timer = s.timer := rfl
@[simp] theorem State.latchOutcomeOverflow_inputs :
    (s.latchOutcomeOverflow).inputs = s.inputs := rfl
@[simp] theorem State.latchOutcomeOverflow_posChanged :
    (s.latchOutcomeOverflow).posChanged = s.posChanged := rfl
@[simp] theorem State.latchOutcomeOverflow_params :
    (s.latchOutcomeOverflow).params = s.params := rfl
@[simp] theorem State.latchOutcomeOverflow_links :
    (s.latchOutcomeOverflow).links = s.links := rfl
@[simp] theorem State.latchOutcomeOverflow_buses :
    (s.latchOutcomeOverflow).buses = s.buses := rfl
@[simp] theorem State.latchOutcomeOverflow_inquiry :
    (s.latchOutcomeOverflow).inquiry = s.inquiry := rfl
@[simp] theorem State.latchOutcomeOverflow_converter :
    (s.latchOutcomeOverflow).converter = s.converter := rfl
@[simp] theorem State.latchOutcomeOverflow_conversionDue :
    (s.latchOutcomeOverflow).conversionDue = s.conversionDue := rfl
@[simp] theorem State.latchOutcomeOverflow_sequencer :
    (s.latchOutcomeOverflow).sequencer = s.sequencer := rfl
@[simp] theorem State.latchOutcomeOverflow_metrology :
    (s.latchOutcomeOverflow).metrology = s.metrology := rfl
@[simp] theorem State.latchOutcomeOverflow_resetCause :
    (s.latchOutcomeOverflow).resetCause = s.resetCause := rfl

/-! ### modPort -/

@[simp] theorem State.modPort_pending (p : PortId) (f : StationPort → StationPort) :
    (s.modPort p f).pending = s.pending := by cases p <;> rfl
@[simp] theorem State.modPort_now (p : PortId) (f : StationPort → StationPort) :
    (s.modPort p f).now = s.now := by cases p <;> rfl
@[simp] theorem State.modPort_map (p : PortId) (f : StationPort → StationPort) :
    (s.modPort p f).map = s.map := by cases p <;> rfl
@[simp] theorem State.modPort_loader (p : PortId) (f : StationPort → StationPort) :
    (s.modPort p f).loader = s.loader := by cases p <;> rfl
@[simp] theorem State.modPort_lenses (p : PortId) (f : StationPort → StationPort) :
    (s.modPort p f).lenses = s.lenses := by cases p <;> rfl
@[simp] theorem State.modPort_siteLens (p : PortId) (f : StationPort → StationPort) :
    (s.modPort p f).siteLens = s.siteLens := by cases p <;> rfl
@[simp] theorem State.modPort_digests (p : PortId) (f : StationPort → StationPort) :
    (s.modPort p f).digests = s.digests := by cases p <;> rfl
@[simp] theorem State.modPort_robots (p : PortId) (f : StationPort → StationPort) :
    (s.modPort p f).robots = s.robots := by cases p <;> rfl
@[simp] theorem State.modPort_targets (p : PortId) (f : StationPort → StationPort) :
    (s.modPort p f).targets = s.targets := by cases p <;> rfl
@[simp] theorem State.modPort_outcomes (p : PortId) (f : StationPort → StationPort) :
    (s.modPort p f).outcomes = s.outcomes := by cases p <;> rfl
@[simp] theorem State.modPort_overflow (p : PortId) (f : StationPort → StationPort) :
    (s.modPort p f).overflow = s.overflow := by cases p <;> rfl
@[simp] theorem State.modPort_mode (p : PortId) (f : StationPort → StationPort) :
    (s.modPort p f).mode = s.mode := by cases p <;> rfl
@[simp] theorem State.modPort_field (p : PortId) (f : StationPort → StationPort) :
    (s.modPort p f).field = s.field := by cases p <;> rfl
@[simp] theorem State.modPort_timer (p : PortId) (f : StationPort → StationPort) :
    (s.modPort p f).timer = s.timer := by cases p <;> rfl
@[simp] theorem State.modPort_inputs (p : PortId) (f : StationPort → StationPort) :
    (s.modPort p f).inputs = s.inputs := by cases p <;> rfl
@[simp] theorem State.modPort_posChanged (p : PortId) (f : StationPort → StationPort) :
    (s.modPort p f).posChanged = s.posChanged := by cases p <;> rfl
@[simp] theorem State.modPort_params (p : PortId) (f : StationPort → StationPort) :
    (s.modPort p f).params = s.params := by cases p <;> rfl
@[simp] theorem State.modPort_links (p : PortId) (f : StationPort → StationPort) :
    (s.modPort p f).links = s.links := by cases p <;> rfl
@[simp] theorem State.modPort_buses (p : PortId) (f : StationPort → StationPort) :
    (s.modPort p f).buses = s.buses := by cases p <;> rfl
@[simp] theorem State.modPort_inquiry (p : PortId) (f : StationPort → StationPort) :
    (s.modPort p f).inquiry = s.inquiry := by cases p <;> rfl
@[simp] theorem State.modPort_converter (p : PortId) (f : StationPort → StationPort) :
    (s.modPort p f).converter = s.converter := by cases p <;> rfl
@[simp] theorem State.modPort_conversionDue (p : PortId) (f : StationPort → StationPort) :
    (s.modPort p f).conversionDue = s.conversionDue := by cases p <;> rfl
@[simp] theorem State.modPort_notices (p : PortId) (f : StationPort → StationPort) :
    (s.modPort p f).notices = s.notices := by cases p <;> rfl
@[simp] theorem State.modPort_resetCause (p : PortId) (f : StationPort → StationPort) :
    (s.modPort p f).resetCause = s.resetCause := by cases p <;> rfl

/-- The port that is changed. -/
@[simp] theorem State.port_modPort (p : PortId) (f : StationPort → StationPort) :
    (s.modPort p f).port p = f (s.port p) := by cases p <;> rfl

/-- The other port is left as it was. -/
theorem State.port_modPort_ne {p q : PortId} (f : StationPort → StationPort) (h : p ≠ q) :
    (s.modPort p f).port q = s.port q := by cases p <;> cases q <;> first | rfl | exact absurd rfl h

end Sys2Proof.Machine
end

