-- ==== Sys2Proof/Laws/Requests.lean ====
section
/-! SUPPORT. What the one path of every request comes to (`State.serve`). -/

namespace Sys2Proof.Machine

/-- It is a request's turn exactly where it is the one its port takes (R174). -/
theorem turn_next (s : State) (r : Req) (code : Byte) :
    s.turn r.port r.tag code = .next ↔ s.Takes r code := by
  unfold State.turn State.Takes
  cases (s.port r.port).queue with
  | nil => simp [turnAt]
  | cons q rest =>
    by_cases hm : q.tag = r.tag ∧ q.code = code
    · cases hb : q.badLength <;> simp [turnAt, hm, hb]
    · simp only [turnAt, hm, if_false, reduceCtorEq, List.cons.injEq, false_or, false_iff]
      rintro ⟨q', rest', ⟨rfl, rfl⟩, h1, h2, _⟩
      exact hm ⟨h1, h2⟩

/-- What a request that its port takes leaves (R174). -/
theorem answered_takes (s : State) (r : Req) (code : Byte) (st : Status) (b : Body)
    (f : State → State) (h : s.Takes r code) :
    s.answered r code st b f = (f (s.takeRequest r.port r.tag code)).respond r.port
      ⟨r.tag, code, st, (s.port r.port).overrun, b⟩ := by
  simp [State.answered, (turn_next s r code).mpr h]

/-- A request whose turn has not come changes nothing (R174). -/
theorem serve_later (s : State) (r : Req) (code : Byte) (rights : Rights) (act : State → Answer)
    (h : s.turn r.port r.tag code = .later) : s.serve r code rights act = s := by
  simp [State.serve, h]

/-- A request of a wrong length is answered BAD_FRAME (R175). -/
theorem serve_wrongLength (s : State) (r : Req) (code : Byte) (rights : Rights) (act : State → Answer)
    (h : s.turn r.port r.tag code = .wrongLength) :
    s.serve r code rights act = s.answerOnly r.port r.tag code .badFrame := by
  simp [State.serve, h]

/-- A request on a port that may not issue it (R175). -/
theorem serve_notPermitted (s : State) (r : Req) (code : Byte) (rights : Rights) (act : State → Answer)
    (h : rights.allow r.port = false) :
    s.serve r code rights act = s.answered r code .notPermitted .none id := by
  cases ht : s.turn r.port r.tag code <;> simp [State.serve, State.answered, State.answerOnly, ht, h, refuseWith]

/-- A request whose payload does not hold its arguments (R173). -/
theorem serve_misfit (s : State) (r : Req) (code : Byte) (rights : Rights) (act : State → Answer)
    (h : rights.allow r.port = true) (hf : r.fits = false) :
    s.serve r code rights act = s.answered r code .badArg .none id := by
  cases ht : s.turn r.port r.tag code <;>
    simp [State.serve, State.answered, State.answerOnly, ht, h, hf, refuseWith]

/-- A request that reaches its owning rule. -/
theorem serve_taken (s : State) (r : Req) (code : Byte) (rights : Rights) (act : State → Answer)
    (h : rights.allow r.port = true) (hf : r.fits = true) :
    s.serve r code rights act =
      s.answered r code (act (s.takeRequest r.port r.tag code)).status
        (act (s.takeRequest r.port r.tag code)).body
        fun _ => (act (s.takeRequest r.port r.tag code)).state := by
  cases ht : s.turn r.port r.tag code <;> simp [State.serve, State.answered, State.answerOnly, ht, h, hf]

/-- A request that reaches its owning rule, where that rule's answer is known as a change `f` of the
state. -/
theorem serve_answered (s : State) (r : Req) (code : Byte) (rights : Rights) (act : State → Answer)
    (st : Status) (b : Body) (f : State → State) (h : rights.allow r.port = true) (hf : r.fits = true)
    (ha : act (s.takeRequest r.port r.tag code) = ⟨f (s.takeRequest r.port r.tag code), st, b⟩) :
    s.serve r code rights act = s.answered r code st b f := by
  cases ht : s.turn r.port r.tag code <;>
    simp [State.serve, State.answered, State.answerOnly, ht, h, hf, ha]

/-- A sequencer-port request that reaches its owning rule. -/
theorem serve_sequencer (s : State) (r : Req) (code : Byte) (act : State → Answer) (st : Status)
    (b : Body) (f : State → State) (hr : sentTo .sequencer r)
    (ha : act (s.takeRequest r.port r.tag code) = ⟨f (s.takeRequest r.port r.tag code), st, b⟩) :
    s.serve r code .sequencerOnly act = s.answered r code st b f :=
  serve_answered s r code _ act st b f (by simp [Rights.allow, hr.1]) hr.2 ha

/-- A metrology-port request that reaches its owning rule. -/
theorem serve_metrology (s : State) (r : Req) (code : Byte) (act : State → Answer) (st : Status)
    (b : Body) (f : State → State) (hr : sentTo .metrology r)
    (ha : act (s.takeRequest r.port r.tag code) = ⟨f (s.takeRequest r.port r.tag code), st, b⟩) :
    s.serve r code .metrologyOnly act = s.answered r code st b f :=
  serve_answered s r code _ act st b f (by simp [Rights.allow, hr.1]) hr.2 ha

/-- A request about a site that is on the map reaches its rule with that site and its robot (R16). -/
theorem atSite_holds {t : State} {site : Nat} {x : Site} {rob : Robot} (h : t.Holds site x rob)
    (f : Site → Robot → State → Answer) : atSite t site f = f x rob t := by
  obtain ⟨hx, hr⟩ := h
  have hs : siteCheck t site = none := by
    unfold State.site? at hx
    unfold siteCheck State.siteCount
    cases hm : t.map with
    | none => simp [hm] at hx
    | some m =>
      simp only [hm, Option.bind_some] at hx
      have := (List.getElem?_eq_some_iff.mp hx).1
      simp [this]
  simp [atSite, hs, hx, hr]

variable (s : State) (p : PortId) (tag code : Byte)

@[simp] theorem takeRequest_robots : (s.takeRequest p tag code).robots = s.robots := by
  simp [State.takeRequest]
@[simp] theorem takeRequest_map : (s.takeRequest p tag code).map = s.map := by
  simp [State.takeRequest]
@[simp] theorem takeRequest_mode : (s.takeRequest p tag code).mode = s.mode := by
  simp [State.takeRequest]
@[simp] theorem takeRequest_buses : (s.takeRequest p tag code).buses = s.buses := by
  simp [State.takeRequest]
@[simp] theorem takeRequest_links : (s.takeRequest p tag code).links = s.links := by
  simp [State.takeRequest]
@[simp] theorem takeRequest_lenses : (s.takeRequest p tag code).lenses = s.lenses := by
  simp [State.takeRequest]
@[simp] theorem takeRequest_inputs : (s.takeRequest p tag code).inputs = s.inputs := by
  simp [State.takeRequest]
@[simp] theorem takeRequest_params : (s.takeRequest p tag code).params = s.params := by
  simp [State.takeRequest]
@[simp] theorem takeRequest_loader : (s.takeRequest p tag code).loader = s.loader := by
  simp [State.takeRequest]
@[simp] theorem takeRequest_outcomes : (s.takeRequest p tag code).outcomes = s.outcomes := by
  simp [State.takeRequest]
@[simp] theorem takeRequest_inquiry : (s.takeRequest p tag code).inquiry = s.inquiry := by
  simp [State.takeRequest]
@[simp] theorem takeRequest_notices : (s.takeRequest p tag code).notices = s.notices := by
  simp [State.takeRequest]
@[simp] theorem takeRequest_targets : (s.takeRequest p tag code).targets = s.targets := by
  simp [State.takeRequest]
@[simp] theorem takeRequest_field : (s.takeRequest p tag code).field = s.field := by
  simp [State.takeRequest]
@[simp] theorem takeRequest_timer : (s.takeRequest p tag code).timer = s.timer := by
  simp [State.takeRequest]
@[simp] theorem takeRequest_posChanged : (s.takeRequest p tag code).posChanged = s.posChanged := by
  simp [State.takeRequest]
@[simp] theorem takeRequest_resetCause : (s.takeRequest p tag code).resetCause = s.resetCause := by
  simp [State.takeRequest]
@[simp] theorem takeRequest_now : (s.takeRequest p tag code).now = s.now := by
  simp [State.takeRequest]
@[simp] theorem takeRequest_pending : (s.takeRequest p tag code).pending = s.pending := by
  simp [State.takeRequest]
@[simp] theorem takeRequest_siteLens : (s.takeRequest p tag code).siteLens = s.siteLens := by
  simp [State.takeRequest]
@[simp] theorem takeRequest_digests : (s.takeRequest p tag code).digests = s.digests := by
  simp [State.takeRequest]
@[simp] theorem takeRequest_overflow : (s.takeRequest p tag code).overflow = s.overflow := by
  simp [State.takeRequest]
@[simp] theorem takeRequest_converter : (s.takeRequest p tag code).converter = s.converter := by
  simp [State.takeRequest]
@[simp] theorem takeRequest_conversionDue :
    (s.takeRequest p tag code).conversionDue = s.conversionDue := by
  simp [State.takeRequest]
@[simp] theorem takeRequest_siteCount : (s.takeRequest p tag code).siteCount = s.siteCount := by
  simp [State.siteCount]
@[simp] theorem takeRequest_sectorNumber : (s.takeRequest p tag code).sectorNumber = s.sectorNumber := by
  simp [State.sectorNumber]
@[simp] theorem takeRequest_site (i : Nat) : (s.takeRequest p tag code).site? i = s.site? i := by
  simp [State.site?]
@[simp] theorem takeRequest_concurrency (n : Nat) :
    (s.takeRequest p tag code).concurrency n = s.concurrency n := by
  simp [State.concurrency]
@[simp] theorem takeRequest_anyMove : (s.takeRequest p tag code).anyMove = s.anyMove := by
  simp [State.anyMove]
@[simp] theorem takeRequest_holds (i : Nat) (x : Site) (r : Robot) :
    (s.takeRequest p tag code).Holds i x r ↔ s.Holds i x r := by
  simp [State.Holds]

end Sys2Proof.Machine
end

