-- ==== Sys2Proof/WellFormed.lean ====
section
/-! DEFINITION. Which commands the block's lines can carry: the counts the rules fix for a payload, the
field widths of R181, and the numbers of ports, links, buses and sites. A number that a request's own
rule checks (and answers BAD_ARG) is not restricted here. -/

namespace Sys2Proof

/-- A one-byte field. -/
def isByte (n : Nat) : Bool := decide (n < 256)

/-- A two-byte field. -/
def isWord (n : Nat) : Bool := decide (n < 65536)

/-- A peer link number (R133). -/
def isLink (n : Nat) : Bool := decide (n < 6)

/-- A bus number (R1). -/
def isBus (n : Nat) : Bool := decide (n < 8)

/-- A site index (R1). -/
def isSite (n : Nat) : Bool := decide (n < Config.maxSites)

/-- A site entry carries six neighbour entries (R10). -/
def SiteArg.wellFormed (e : SiteArg) : Bool := e.neighbours.length == 6

/-- The epoch a report carries is a 32-bit value (R120). -/
def CorrectionReport.wellFormed (c : CorrectionReport) : Bool := decide (c.epochSeen ≤ Config.top32)

/-- The header of a numbered peer frame (R135, R181). -/
def PeerHeader.wellFormed (h : PeerHeader) : Bool := isLink h.link && isByte h.sender && isByte h.seq

/-- The fields of a lens name (R181). -/
def LensName.wellFormed (n : LensName) : Bool :=
  isWord n.position && isByte n.arbiterSite && isByte n.clientSite

/-- The fields of an IDENT (R181). -/
def Ident.wellFormed (f : Ident) : Bool := isByte f.sector && isByte f.expected && isByte f.level

/-- The fields of a summary entry (R181). -/
def SummaryEntry.wellFormed (e : SummaryEntry) : Bool := isWord e.position && isByte e.state

/-- The fields of a SUMMARY (R181). -/
def summaryWellFormed (h : PeerHeader) (count : Nat) (entries : List SummaryEntry) : Bool :=
  h.wellFormed && isWord count && entries.all SummaryEntry.wellFormed

/-- The fields of a status reply (R181). -/
def StatusReply.wellFormed (r : StatusReply) : Bool := isByte r.tag && isWord r.alpha && isWord r.beta

/-- The fields of a reply: an item number leaves bit 7 for the unsupported mark (R181). -/
def BusReply.wellFormed : BusReply → Bool
  | .status r => r.wellFormed
  | .acknowledge => true
  | .item n _ => decide (n < 128)

/-- The command is one the block's lines can bring. A CONFIGURE's field number is carried in two bytes:
DEDUCED from R112's range, unsafe (log entry 39). -/
def Instr.wellFormed : Instr → Bool
  | .powerOn _ _ => true
  | .resetLine _ _ => true
  | .shutterOpened => true
  | .shutterClosed => true
  | .stopAsserted => true
  | .stopReleased => true
  | .stationFrameReceived _ _ => true
  | .badFrame _ _ _ => true
  | .unknown _ _ code => decide (code.toNat = 0) || decide (37 < code.toNat)
  | .mapBegin _ _ _ neighbours => neighbours.length == 6
  | .mapSites _ entries => entries.all SiteArg.wellFormed
  | .mapEnd _ => true
  | .readMap _ _ _ => true
  | .enableSet _ mask => mask.length == Config.maxSites
  | .enableClear _ mask => mask.length == Config.maxSites
  | .clearFault _ _ => true
  | .readRobot _ _ _ => true
  | .readLens _ _ _ => true
  | .moveTo _ _ _ _ => true
  | .park _ _ => true
  | .home _ _ => true
  | .abort _ _ => true
  | .abortField _ => true
  | .readOutcomes _ _ => true
  | .openSector _ => true
  | .freeze _ => true
  | .thaw _ => true
  | .resume _ => true
  | .restart _ => true
  | .loadTargets _ _ => true
  | .clearTargets _ => true
  | .configure _ number => isWord number
  | .readField _ => true
  | .snapshot _ _ _ => true
  | .correct _ reports => reports.all CorrectionReport.wellFormed
  | .reAnchor _ _ _ _ => true
  | .peerControlEnable _ _ => true
  | .peerControlDisable _ _ => true
  | .peerControlReset _ _ => true
  | .readPeer _ _ => true
  | .inquire _ _ _ => true
  | .readInquiry _ => true
  | .busPowerOn _ _ => true
  | .busPowerOff _ _ => true
  | .readBus _ _ => true
  | .portStatus _ => true
  | .setMask _ _ => true
  | .readCause _ => true
  | .setParamStowAngle _ _ => true
  | .setParamParkBeta _ _ => true
  | .setParamGain _ _ => true
  | .setParamMaximumCorrection _ _ => true
  | .setParamTolerance _ _ => true
  | .setParamIterationLimit _ _ => true
  | .setParamShareRatio _ _ => true
  | .setParamDeadlinePreset _ _ => true
  | .setParamDeadlineAction _ _ => true
  | .setParamLensWaitLimit _ _ => true
  | .setParamLegTimeLimit _ _ => true
  | .setParamAttemptLimit _ _ => true
  | .setParamFailureLimit _ _ => true
  | .setParamPollInterval _ _ => true
  | .setParamKeepaliveInterval _ _ => true
  | .setParamConcurrencyLimit _ _ _ => true
  | .setParamThreshold _ _ _ => true
  | .setParamTripCount _ _ _ => true
  | .setParamStatisticsSelection _ _ _ _ => true
  | .deadlineExpiry => true
  | .waitDeadlinePasses site => isSite site
  | .legTimeout site => isSite site
  | .haltTimeLimit site => isSite site
  | .legDispatch bus => isBus bus
  | .haltBroadcast bus => isBus bus
  | .haltAddressed bus => isBus bus
  | .poll bus => isBus bus
  | .setCounts bus => isBus bus
  | .inquireTransaction bus => isBus bus
  | .keepalivePoll bus => isBus bus
  | .robotReplyGood bus reply => isBus bus && reply.wellFormed
  | .robotReplyMissing bus => isBus bus
  | .robotReplyCheckError bus => isBus bus
  | .currentSample bus _ => isBus bus
  | .jabber bus => isBus bus
  | .blankingEnd bus => isBus bus
  | .rollcall bus => isBus bus
  | .rollcallSlotEnd bus _ => isBus bus
  | .ident link frame => isLink link && frame.wellFormed
  | .summary h count entries => summaryWellFormed h count entries
  | .summaryClient h count entries => summaryWellFormed h count entries
  | .keepalive h => h.wellFormed
  | .claim h lens => h.wellFormed && lens.wellFormed
  | .withdraw h lens => h.wellFormed && lens.wellFormed
  | .release h lens => h.wellFormed && lens.wellFormed
  | .pin h lens => h.wellFormed && lens.wellFormed
  | .hold h lens => h.wellFormed && lens.wellFormed
  | .grant h lens => h.wellFormed && lens.wellFormed
  | .refuse h lens _ => h.wellFormed && lens.wellFormed
  | .peerFrameError link => isLink link
  | .identSend link => isLink link
  | .keepaliveSend link => isLink link
  | .silenceLimit link => isLink link
  | .matchedTimeout link => isLink link
  | .syncingTimeout link => isLink link
  | .peerFrameSent link => isLink link

end Sys2Proof
end

