-- ==== Sys2Proof/Tests/Slice0.lean ====
section
/-! SUPPORT. The model's own tests: commands that WellFormed refuses, figures the manual works out, and
for each statement with hypotheses a state that meets them (`witness_<statement>`). -/

open Sys2Proof Sys2Proof.Machine

namespace Sys2Proof.Tests

-- One theorem at a time: each of many waiting kernel evaluations would keep a thread of its own.
set_option Elab.async false

/-! ### Fixtures -/

/-- A request on the sequencer port, and one on the metrology port. -/
def seq : Req := ⟨.sequencer, 1, true⟩
def met : Req := ⟨.metrology, 2, true⟩

/-- A site entry with full limits and serial 100 above its index. -/
def siteEntry (i bus : Nat) (neighbours : List NeighbourArg) : SiteArg :=
  ⟨i, 100 + BitVec.ofNat 32 i, bus, 0, 0, 23039, 11520, 12, 9, neighbours⟩

/-- The four entries of the worked example of section 1.7. -/
def exampleEntries : List SiteArg :=
  [ siteEntry 0 3 [.site 1, .site 2, .vacant, .border 2 40, .border 2 41, .vacant],
    siteEntry 1 3 [.border 4 12, .site 3, .site 2, .site 0, .vacant, .vacant],
    siteEntry 2 3 [.site 3, .vacant, .vacant, .vacant, .site 0, .site 1],
    siteEntry 3 3 [.border 4 13, .vacant, .vacant, .site 2, .site 1, .border 4 12] ]

/-- The map of section 1.7. -/
def plate : PlateMap := ⟨7, [0, 0, 5, 0, 9, 0], exampleEntries.map SiteArg.record⟩

/-- The state after a command, or the same state where there is none. -/
def run (c : Instr) (s : State) : State :=
  match exec c s with
  | .next t => t
  | .fault _ => s
  | .refused _ => s

/-- The reset state with that map staged, and with it installed. -/
def staged : State := { State.reset with loader := some ⟨7, plate.neighbours, plate.sites.map some⟩ }
def installed : State :=
  { State.reset with
    map := some plate, lenses := plate.derive.map (·.lens), siteLens := plate.siteLensMap
    digests := (List.range 6).map plate.borderDigest
    robots := plate.sites.map Robot.install, targets := List.replicate 4 none }

/-- The same in OPEN, with every robot IDLE at (0, 0), every bus RUNNING and every link UP. -/
def ready : State :=
  { installed with
    mode := .opened
    robots := installed.robots.map fun r => { r with state := .idle, alpha := some 0, beta := some 0 }
    buses := installed.buses.map fun b => { b with switch := .on, protocol := .running }
    links := installed.links.map fun l => { l with state := .up } }

def siteAt (i : Nat) : Site := (plate.sites[i]?).getD (SiteArg.record (siteEntry 0 0 []))
def robotAt (s : State) (i : Nat) : Robot := (s.robots[i]?).getD (Robot.install (siteAt 0))
def busAt (s : State) (n : Nat) : Bus := (s.buses[n]?).getD .reset
def linkAt (s : State) (n : Nat) : Link := (s.links[n]?).getD .reset
def lensAt (s : State) (i : Nat) : Lens := (s.lenses[i]?).getD ⟨.site 0, .site 0, .decided .empty⟩

/-- A FIELD move to (3840, 5000) through lens 1, before its SLEW. -/
def fieldMove : Move :=
  Move.fresh .field (some ⟨3840, 5000⟩) [⟨.slew, some 3840, none⟩, ⟨.deploy, none, some 5000⟩] (some 1)
    false

/-- The robot of a site in a state with a move. -/
def withMove (i : Nat) (st : RobotState) (m : Move) (s : State) : State :=
  s.modRobot i fun r => { r with state := st, move := some m }

/-- A lens with a decided record, and a link in a state. -/
def withDecided (i : Nat) (d : Decided) (s : State) : State := s.modLens i fun _ => .decided d
def withLink (n : Nat) (st : LinkState) (s : State) : State := s.modLink n fun l => { l with state := st }

/-- Robots QUEUED, IN_LEG, WAIT_LENS and HALTING. -/
def engaged : State :=
  (((ready |> withMove 0 .queued fieldMove) |> withMove 1 .inLeg { fieldMove with
      tag := some 5, dispatch := some 0 }) |> withMove 2 .waitLens { fieldMove with index := 1 })
    |> withMove 3 .halting { fieldMove with haltCause := some .abort, haltTime := some 0 }

/-- Bus 3 of `ready` with a transaction on the line. -/
def onLine (kind : TxnKind) (s : State) : State := s.modBus 3 fun b => { b with txn := some ⟨kind, 1, 1, 3⟩ }

/-! ### WellFormed refuses each ill-formed command -/

theorem test_wf_unknown : (Instr.unknown .sequencer 0 37).wellFormed = false := by decide
theorem test_wf_mapBegin : (Instr.mapBegin seq 7 4 [0, 0, 5, 0, 9]).wellFormed = false := by decide
theorem test_wf_mapSites : (Instr.mapSites seq [siteEntry 0 3 [.vacant]]).wellFormed = false := by decide
theorem test_wf_mask : (Instr.enableSet seq [true]).wellFormed = false ∧
    (Instr.enableClear seq [true]).wellFormed = false := by decide
theorem test_wf_configure : (Instr.configure seq 65536).wellFormed = false := by decide
theorem test_wf_correct : (Instr.correct met [⟨0, 4294967296, 0, 0, 0⟩]).wellFormed = false := by decide
theorem test_wf_site : (Instr.legTimeout 96).wellFormed = false ∧
    (Instr.waitDeadlinePasses 96).wellFormed = false ∧ (Instr.haltTimeLimit 96).wellFormed = false := by
  decide
theorem test_wf_bus : (Instr.poll 8).wellFormed = false ∧ (Instr.currentSample 8 0).wellFormed = false ∧
    (Instr.rollcallSlotEnd 8 .empty).wellFormed = false := by decide
theorem test_wf_reply : (Instr.robotReplyGood 3 (.item 128 none)).wellFormed = false ∧
    (Instr.robotReplyGood 3 (.status ⟨.still, 256, 0, 0, true, none⟩)).wellFormed = false := by decide
theorem test_wf_ident : (Instr.ident 6 ⟨5, 7, 1, 0, false⟩).wellFormed = false ∧
    (Instr.ident 2 ⟨256, 7, 1, 0, false⟩).wellFormed = false := by decide
theorem test_wf_summary : (Instr.summary ⟨4, 9, 0⟩ 65536 []).wellFormed = false ∧
    (Instr.summaryClient ⟨2, 5, 0⟩ 1 [⟨65536, 1⟩]).wellFormed = false := by decide
theorem test_wf_header : (Instr.keepalive ⟨2, 5, 256⟩).wellFormed = false := by decide
theorem test_wf_lens : (Instr.claim ⟨4, 9, 0⟩ ⟨0, 256, 12⟩).wellFormed = false ∧
    (Instr.refuse ⟨2, 5, 0⟩ ⟨65536, 40, 0⟩ .taken).wellFormed = false := by decide
theorem test_wf_link : (Instr.identSend 6).wellFormed = false ∧
    (Instr.peerFrameError 6).wellFormed = false := by decide
theorem test_wf_good : (Instr.mapSites seq exampleEntries).wellFormed = true := by decide

/-- No row of the table gives bits (log entry 1). -/
theorem test_decode_none : decodeTableWord 0 0 = none := by decide

/-! ### Figures of chapters 1, 3, 9 and 11 -/

/-- The lens table of section 1.7: sides in canonical order. -/
theorem test_map_order : plate.derive.map (fun x => (x.lens.a, x.lens.b)) =
    [(.site 0, .site 1), (.site 0, .site 2), (.site 1, .site 3), (.site 1, .site 2), (.site 2, .site 3),
      (.remote 2 40, .site 0), (.remote 2 41, .site 0), (.site 1, .remote 4 12),
      (.site 3, .remote 4 12), (.site 3, .remote 4 13)] := by decide +kernel

/-- The site lens map of section 1.7. -/
theorem test_map_siteLens : plate.siteLensMap =
    [[some 0, some 1, none, some 5, some 6, none], [some 7, some 2, some 3, some 0, none, none],
      [some 4, none, none, none, some 1, some 3], [some 9, none, none, some 4, some 2, some 8]] := by
  decide +kernel

/-- The digests of section 1.7. -/
theorem test_map_digests : (List.range 6).map plate.borderDigest =
    [0xFFFF, 0xFFFF, crc16 [40, 0, 41, 0], 0xFFFF, crc16 [1, 12, 3, 12, 3, 13], 0xFFFF] := by
  decide +kernel

/-- The failed MAP_END of section 1.7: SYMMETRY, site 1, direction 1. -/
theorem test_map_symmetry : (Staging.mk 7 plate.neighbours ((plate.sites.map some).set 3 (some (SiteArg.record
    (siteEntry 3 3 [.border 4 13, .vacant, .vacant, .site 2, .site 0, .border 4 12]))))).fault =
    some (.symmetry, 1, some 1) := by decide +kernel

/-- The MAP_END of section 1.7: the table and the digests are installed and the loader is IDLE. -/
theorem test_map_end :
    let t := run (.mapEnd seq) staged
    t.lenses = installed.lenses ∧ t.digests = installed.digests ∧ t.robots = installed.robots ∧
      t.loader = none := by decide +kernel

/-- The facing and sector figures of R34. -/
theorem test_sectors : [(21000, 5000), (21000, 5040), (0, 1919), (0, 1920), (0, 21119), (0, 21120),
    (12000, 11040), (23039, 23039)].map (fun x : Nat × Nat => facingSector (facing x.1 x.2)) =
    [1, 1, 0, 1, 5, 0, 0, 0] := by decide

/-- The TRIM figures of R36. -/
theorem test_trim : [(21000, 5000, 9000, 5040, 8985), (21000, 5000, 9000, 5000, 3840),
    (21000, 5000, 3841, 8700, 4000), (0, 1000, 6000, 22000, 6000), (0, 1919, 6000, 1920, 6000),
    (0, 2000, 6000, 5759, 6000)].map (fun x : Nat × Nat × Nat × Nat × Nat =>
      trimCondition 3840 { siteAt 0 with mount := x.1 } ⟨x.2.1, x.2.2.1⟩ ⟨x.2.2.2.1, x.2.2.2.2⟩) =
    [true, false, false, false, false, true] := by decide +kernel

/-- The scaling figures of R39. -/
theorem test_scaling : [(37, 192), (-20, 192), (5, 128), (-3, 128), (1, 127), (1, 128), (-2048, 256),
    (2047, 0)].map (fun x : Int × Nat => scaleOffset x.2 x.1) = [28, -15, 3, -2, 0, 1, -2048, 0] := by
  decide

/-- The correction of section 3.5 worked in full, and its cases at the limits. -/
theorem test_correction :
    let x := { siteAt 0 with mount := 21000 }
    let unit := { Params.reset with gain := 256 }
    correctionStages Params.reset x ⟨5000, 9000⟩ (some .minus) (some .minus) 37 (-20) =
        .target ⟨5040, 8985⟩ false ∧
      correctionStages unit x ⟨0, 11500⟩ none (some .minus) 0 60 = .target ⟨0, 11520⟩ true ∧
      correctionStages unit { x with backlashAlpha := 255 } ⟨10000, 0⟩ (some .minus) none 2047 0 =
        .target ⟨10655, 0⟩ true ∧
      correctionStages { unit with gain := 0 } x ⟨10000, 0⟩ none none 2047 (-2048) = .null false ∧
      correctionStages unit { x with alphaMax := 20000 } ⟨20000, 0⟩ (some .plus) none 9 0 = .null true := by
  decide +kernel

/-- The dispatch sequence of section 3.6 at ratio 3: legs 1 to 5 of class A and 6 and 7 of class B. -/
theorem test_share :
    let bus := { Bus.reset with queueA := [1, 2, 3, 4, 5], queueB := [6, 7] }
    let serve (b : Bus) := b.popQueue .three
    ((List.range 7).foldl (fun (l : List (List Nat × List Nat × Nat) × Bus) _ =>
      let b := serve l.2
      (l.1 ++ [(b.queueA, b.queueB, b.credit)], b)) ([], bus)).1 =
      [([2, 3, 4, 5], [6, 7], 2), ([3, 4, 5], [6, 7], 1), ([4, 5], [6, 7], 0), ([4, 5], [7], 3),
        ([5], [7], 2), ([], [7], 1), ([], [], 3)] := by decide +kernel

/-- The deadline figures of section 3.7. -/
theorem test_deadline :
    (Timer.mk 900 600 0 .down 0).elapsed = 300 ∧ (Timer.mk 900 0 73 .held 0).elapsed = 973 ∧
      (Timer.mk 900 276 0 .held 0).elapsed = 624 ∧ (Timer.start 1).expire.elapsed = 1 ∧
      (Timer.mk 65535 0 65535 .overtime 0).elapsed = 131070 := by decide

/-- `s` with its request as the only one in the sequencer port's queue, and with the conversion of a bus
due. -/
def queuedAt (q : QueuedRequest) (s : State) : State := s.modPort .sequencer fun p => { p with queue := [q] }
def converting (n : Nat) (s : State) : State := { s with converter := n, conversionDue := true }

/-- Two samples of section 3.8 at count 2: 2,500 is not above H, and 4,095 reaches K and trips. -/
theorem test_trip :
    let s := converting 4 (ready.modBus 4 fun b => { b with overCount := 2 })
    (busAt (run (.currentSample 4 2500) s) 4).overCount = 0 ∧
      (busAt (run (.currentSample 4 4095) s) 4).switch = .tripped ∧
      (busAt (run (.currentSample 4 4095) s) 4).overCount = 0 := by decide +kernel

/-- R47: the channels are converted in turn, one each millisecond, and no other is sampled. -/
theorem test_converter :
    (busAt (run (.currentSample 5 2600) (converting 4 ready)) 5).latest = 0 ∧
      (converting 4 ready).tick.converter = 5 ∧ (converting 7 ready).tick.converter = 0 ∧
      (run (.currentSample 4 2600) (converting 4 ready)).conversionDue = false := by decide +kernel

/-- R96: the records of one event join in ascending site order. The ABORT of robot 2 denies robot 0, whose
claim waits behind the lens robot 2 holds. -/
theorem test_recordOrder :
    let s := ((ready |> withDecided 1 ⟨some (.b, .occupied), false, false, some .a, none⟩)
      |> withMove 0 .waitLens fieldMove) |> withMove 2 .queued { fieldMove with targetLens := some 4 }
    (run (.abort seq 2) s).outcomes.map (fun o => (o.site, o.outcome)) = [(0, .denied), (2, .aborted)] := by
  decide +kernel

/-- R96, R145: a departure that ends robot 7's move, which denies robot 3 TAKEN, leaves 3 before 7; of two
denials of one departure the one of the lower lens stays first, and those of two are in site order. -/
theorem test_departureOrder :
    let o (site : Nat) (reason : DenyReason) : OutcomeRecord :=
      ⟨site, .field, .denied, none, 0, false, some reason⟩
    let link (x : OutcomeRecord) : Option Nat :=
      if x.reason = some .linkDown then some (if x.site = 4 then 1 else 2) else none
    let order (l : List OutcomeRecord) := (eventOrder link 6 l).map (·.site)
    order [o 7 .linkDown, o 3 .taken] = [3, 7] ∧
      order [o 9 .linkDown, o 2 .linkDown, o 5 .taken] = [5, 9, 2] ∧
      order [o 9 .linkDown, o 2 .linkDown, o 4 .linkDown] = [4, 9, 2] := by decide

/-- R93, R96: a denial taken in an earlier leg ends the move at the boundary, and is none of a departure. -/
theorem test_boundaryDenial :
    let denied (st : RobotState) : State := ready |> withMove 0 st { fieldMove with targetLens := some 5 }
    let o : OutcomeRecord := ⟨0, .field, .denied, none, 0, false, some .linkDown⟩
    (denied .inLeg).departed o = none ∧ (denied .waitLens).departed o = some 2 := by decide +kernel

/-- R174, R175: a request behind another head waits, and a head of a wrong length is answered BAD_FRAME. -/
theorem test_requestTurn :
    (run (.freeze seq) (queuedAt ⟨9, 17, false, []⟩ ready)).mode = .opened ∧
      ((run (.freeze seq) (queuedAt ⟨1, 17, true, []⟩ ready)).sequencer.response.map (·.status)) =
        some .badFrame ∧
      (run (.freeze seq) (queuedAt ⟨1, 17, false, []⟩ ready)).mode = .frozen .freeze := by decide +kernel

/-- R43: the ratio in force leaves every credit, and another one sets it. -/
theorem test_credit :
    let s := ready.modBus 3 fun b => { b with credit := 1 }
    (busAt (run (.setParamShareRatio seq (.ratio 3)) s) 3).credit = 1 ∧
      (busAt (run (.setParamShareRatio seq (.ratio 7)) s) 3).credit = 7 := by decide +kernel

/-- The census of section 9.8, on bus 3 with sites 0 to 3 for R10 to R13 and site 4, of bus 4, for R20:
a round with these slots judged. -/
def censusRound (window : Nat) (slots : List SlotJudgement) : State :=
  let sites := plate.sites ++ [SiteArg.record (siteEntry 4 4 (List.replicate 6 .vacant))]
  { installed with
    map := some { plate with sites := sites }, robots := sites.map Robot.install
    siteLens := plate.siteLensMap ++ [List.replicate 6 none] }.modBus 3 fun b =>
      { b with
        switch := .on, protocol := .census, round := some slots, nextWindow := window
        census := ⟨.inProgress, 1, window, 0, 0, [], [], false⟩ }

/-- The end of its round 1: R10 and R13 assigned, R20 muted and noted, and W doubled. -/
theorem test_census_round1 :
    let t := run (.rollcallSlotEnd 3 (.clean 104)) (censusRound 4 [.clean 100, .garbled, .clean 103])
    (busAt t 3).census = ⟨.inProgress, 1, 4, 2, 0, [4], [], false⟩ ∧ (busAt t 3).nextWindow = 8 ∧
      ((busAt t 3).addresses.take 3).map (fun e => e.bind (·.site)) = [some 0, some 3, none] ∧
      (busAt t 3).lastFrames.map (·.body) = [.assign 100 0, .assign 103 1, .mute 104] ∧
      t.notices.wiring = true := by decide +kernel

/-- The end of its round 3 with four robots learned: COMPLETE, and they are discovered in LOST(POWER).
The lens between two sites of history NONE gains a pin of each side, and site 4 stays OFFLINE. -/
theorem test_census_end :
    let s := (censusRound 8 (List.replicate 7 .empty)).modBus 3 fun b =>
      { b with addresses := [some ⟨100, some 0⟩, some ⟨103, some 3⟩, some ⟨101, some 1⟩,
        some ⟨102, some 2⟩] ++ List.replicate 8 none }
    let t := run (.rollcallSlotEnd 3 .empty) s
    (busAt t 3).census.result = .complete ∧ (busAt t 3).protocol = .running ∧
      t.robots.map (·.state) =
        [.lost .power, .lost .power, .lost .power, .lost .power, .offline] ∧
      (lensAt t 0).body = .decided ⟨none, true, true, none, none⟩ := by decide +kernel

/-- The CRC of R7 over the nine ASCII digits: the published check value of this CRC (polynomial 1021 hex,
start FFFF hex, no reflection). -/
theorem test_crc : crc16 [0x31, 0x32, 0x33, 0x34, 0x35, 0x36, 0x37, 0x38, 0x39] = 0x29B1 := by
  decide +kernel

/-- A border message laid out by R181: CLAIM of lens 7 of section 1.7 from sector 9, sequence 3. -/
theorem test_frame : (PeerFrame.mk 9 3 (.border .claim ⟨0, 1, 12⟩)).core =
    [4, 9, 3, 0, 4, 0, 0, 1, 12] := by decide +kernel

/-! ### Witnesses: states that meet the hypotheses of the statements, clause by clause -/

theorem witness_StepRunsFrontCommand :
    ({ State.reset with pending := [.freeze seq, .shutterOpened] } : State).pending =
      Instr.freeze seq :: [.shutterOpened] := rfl

theorem witness_EmptyQueue_heads :
    ∀ q ∈ [⟨9, 17, true, []⟩, ⟨9, 38, false, []⟩, ⟨9, 0, false, []⟩, ⟨9, 37, false, []⟩, ⟨9, 37, false, [1]⟩,
        ⟨9, 10, false, []⟩],
      (queuedAt q ready).pending = [] ∧ (queuedAt q ready).sequencer.queue = [q] := by
  decide +kernel

theorem witness_EmptyQueueLetsAMillisecondPass :
    let timed (t : Timer) : State := { State.reset with timer := t }
    State.reset.pending = [] ∧ State.reset.timer.phase = .stopped ∧
      (timed ⟨900, 900, 0, .down, 98⟩).timer.ms < 99 ∧
      (timed ⟨900, 2, 0, .down, 99⟩).timer.remaining = 2 ∧
      (timed ⟨900, 0, 65535, .overtime, 99⟩).timer.overtime ≤ 65535 ∧
      (timed ⟨900, 1, 0, .down, 99⟩).timer.remaining ≤ 1 := by decide

theorem witness_InputChangesActByTheMode :
    ({ ready with inputs := { ready.inputs with shutterOpen := true } } : State).inputs.shutterOpen = true ∧
      ({ ready with inputs := { ready.inputs with stopAsserted := true } } : State).inputs.stopAsserted =
        true ∧
      (installed.inputs.shutterOpen = false ∧ installed.mode ≠ .opened) ∧
      engaged.mode = .opened ∧ engaged.inputs.shutterOpen = false ∧ engaged.MovesSound ∧
      (robotAt engaged 0).atRest = true ∧ (robotAt engaged 1).state = .inLeg ∧
      engaged.buses[(robotAt engaged 1).bus]? = some (busAt engaged 3) ∧
      (robotAt engaged 3).atRest = false ∧ (robotAt engaged 3).state ≠ .inLeg := by
  simp only [State.MovesSound]; decide +kernel

theorem witness_StopAssertionCutsThePower :
    engaged.inputs.stopAsserted = false ∧ engaged.MovesSound ∧
      engaged.buses[7]? = some (busAt engaged 7) ∧ (busAt engaged 7).switch = .on ∧
      (busAt installed 0).switch = .off := by
  simp only [State.MovesSound]; decide +kernel

theorem witness_StationFramesAreJudged :
    let good := (crc16 (wordOf 2 ++ 7 :: 17 :: [])).toNat
    ([] : List Byte).length ≤ 1024 ∧ 2 < 65536 ∧ good < 65536 ∧ good ≠ 0 ∧
      (ready.port .sequencer).queue.length < 4 ∧
      4 ≤ ((ready.modPort .sequencer fun x =>
        { x with queue := List.replicate 4 ⟨1, 17, false, []⟩ }).port .sequencer).queue.length ∧
      ([0xC3, 0, 0, 0, 0, 0] : List Byte).length < 7 ∧
      ([0xC2, 0, 0, 0, 0, 0, 0] : List Byte).head? ≠ some 0xC3#8 := by decide +kernel

theorem witness_RequestsAreCheckedAndAnsweredOnce :
    requestOf (.freeze met) = some (met, 17, .sequencerOnly) ∧
      Rights.sequencerOnly.allow met.port = false ∧
      requestOf (.freeze { seq with fits := false }) =
        some ({ seq with fits := false }, 17, .sequencerOnly) ∧
      Rights.sequencerOnly.allow seq.port = true ∧ 37 < (38 : Byte).toNat ∧
      (run (.freeze seq) installed).sequencer.response = some ⟨1, 17, .wrongMode, false, .none⟩ := by
  decide +kernel

/-- No request waits, or the request itself is at the head of the queue with a right length. -/
theorem witness_Requests_turns :
    (∀ code, ready.Takes seq code ∧ ready.Takes met code ∧ installed.Takes seq code ∧
      staged.Takes seq code ∧ engaged.Takes seq code) ∧
      (queuedAt ⟨1, 17, false, []⟩ ready).Takes seq 17 ∧
      (queuedAt ⟨9, 17, false, []⟩ ready).sequencer.queue = ⟨9, 17, false, []⟩ :: [] ∧
      (queuedAt ⟨1, 38, true, []⟩ ready).sequencer.queue = ⟨1, 38, true, []⟩ :: [] :=
  ⟨fun _ => ⟨.inl rfl, .inl rfl, .inl rfl, .inl rfl, .inl rfl⟩,
    .inr ⟨_, _, rfl, rfl, rfl, rfl⟩, rfl, rfl⟩

theorem witness_SetMaskReplacesTheMask :
    seq.fits = true ∧ (List.replicate 9 true).length = 9 ∧ met.fits = true ∧ [false].length = 1 ∧
      (List.replicate 8 true).length ≠ 9 := by decide

theorem witness_ReadsClearWhatTheyReport :
    sentTo .sequencer seq ∧ ready.links[5]? = some (linkAt ready 5) ∧
      ready.buses[7]? = some (busAt ready 7) ∧ (Timer.mk 900 0 0 .held 0).remaining = 0 ∧
      0 < (Timer.mk 900 1 0 .held 0).remaining := by
  simp only [sentTo]; decide +kernel

theorem witness_MapLoadsAreStagedAndChecked :
    sentTo .sequencer seq ∧ State.reset.mode = .init ∧ (∀ b ∈ State.reset.buses, b.switch = .off) ∧
      [0, 255, 1, 2, 3, 4].length = 6 ∧
      (1 ≤ 254 ∧ 254 ≤ 255 ∧ 1 ≤ 96 ∧ 96 ≤ 96 ∧ ∀ n ∈ [0, 255, 1, 2, 3, 4], n ≤ 255 ∧ n ≠ 254) ∧
      ¬ (∀ n ∈ [0, 255, 1, 2, 3, 4], n ≤ 255 ∧ n ≠ 1) ∧
      (∃ st, staged.loader = some st ∧ (∀ e ∈ exampleEntries, siteFieldBad st.sites.length e = none) ∧
        siteFieldBad st.sites.length (siteEntry 4 3 []) = some .siteIndex ∧ st.fault = none ∧
        ¬ 384 < lensCountOf st.map.sites ∧
        (Staging.mk 7 plate.neighbours [none]).fault = some (.missing, 0, none)) ∧
      (installed.map.isSome = true ∧ 0 + 4 ≤ installed.siteCount) := by
  refine ⟨⟨rfl, rfl⟩, by decide, by decide, by decide, by decide, by decide, ⟨_, rfl, ?_⟩, ?_⟩ <;>
    decide +kernel

/-- A map of 96 sites with six BORDER entries each has 576 lenses. -/
theorem witness_MapLoads_lensCapacity :
    let sites := (List.range 96).map fun i => some { siteAt 0 with
      serial := BitVec.ofNat 32 i, bus := i / 12
      neighbours := (List.range 6).map fun d => .border 2 d }
    (Staging.mk 7 plate.neighbours sites).fault = none ∧
      384 < lensCountOf (Staging.mk 7 plate.neighbours sites).map.sites := by decide +kernel

theorem witness_MapValidationMeansTheNineChecks :
    (∀ x ∈ plate.sites, x.neighbours.length = 6) ∧
      (Staging.mk 7 plate.neighbours (plate.sites.map some)).fault = none ∧
      none ∈ [some (siteAt 0), none] := by decide +kernel

theorem witness_DerivedLensesAreCountedAndOrdered :
    let st := Staging.mk 7 plate.neighbours (plate.sites.map some)
    st.fault = none ∧ ∀ x ∈ st.map.sites, x.neighbours.length = 6 ∧ ∀ n ∈ x.neighbours, ∀ link k,
      n = .border link k → link < 6 := by
  refine ⟨by decide +kernel, ?_⟩
  have h : ∀ x ∈ (Staging.mk 7 plate.neighbours (plate.sites.map some)).map.sites,
      x.neighbours.length = 6 ∧ ∀ n ∈ x.neighbours, (match n with
        | .border link _ => decide (link < 6)
        | .vacant => true
        | .site _ => true) = true := by decide +kernel
  intro x hx
  refine ⟨(h x hx).1, ?_⟩
  intro n hn link k e
  have := (h x hx).2 n hn
  subst e
  simpa using this

theorem witness_MapEndInstallsTheStagedMap :
    let s := staged |> withLink 2 .up |> withLink 4 .probing
    sentTo .sequencer seq ∧ s.mode = .init ∧ (∀ b ∈ s.buses, b.switch = .off) ∧
      s.loader = some ⟨7, plate.neighbours, plate.sites.map some⟩ ∧
      (Staging.mk 7 plate.neighbours (plate.sites.map some)).fault = none ∧
      lensCountOf (Staging.mk 7 plate.neighbours (plate.sites.map some)).map.sites ≤ 384 ∧
      (linkAt s 0).state = .disabled ∧ (linkAt s 2).state = .up ∧ (linkAt s 4).state = .probing := by
  simp only [sentTo]; decide +kernel

theorem witness_OnlyTheseCommandsChangeMapAndMode :
    (run (.openSector seq) installed).mode = .opened ∧ installed.mode ≠ .opened ∧
      (run .stopAsserted ready).mode = .halted ∧ (run (.freeze seq) ready).mode = .frozen .freeze ∧
      (run .shutterOpened ready).mode = .frozen .shutter ∧ (run (.restart seq) ready).mode = .init := by
  decide +kernel

theorem witness_RobotFlagRequestsFollowTheirRules :
    let faulted := ready.modRobot 0 fun r => { r with state := .faulted, fault := some .stall }
    seq.fits = true ∧ seq.port = .sequencer ∧ met.port = .metrology ∧ State.reset.map = none ∧
      ready.map ≠ none ∧ ready.siteCount ≤ 4 ∧ [false, false, false, false, true][4]? = some true ∧
      engaged.MovesSound ∧ (robotAt engaged 0).atRest = true ∧ (robotAt engaged 0).enabled = true ∧
      (robotAt engaged 1).state = .inLeg ∧ (robotAt ready 0).move = none ∧
      faulted.Holds 0 (siteAt 0) (robotAt faulted 0) ∧ (robotAt faulted 0).state = .faulted ∧
      ready.Holds 3 (siteAt 3) (robotAt ready 3) ∧ (robotAt ready 3).state ≠ .faulted := by
  simp only [State.MovesSound, State.Holds]; decide +kernel

theorem witness_ReadingRequestsOnlyReport :
    seq.fits = true ∧ met.fits = true ∧ ready.map ≠ none ∧ 0 + 4 ≤ ready.siteCount ∧
      0 + 10 ≤ ready.lenses.length ∧ ready.siteCount < 4 + 1 ∧ ready.lenses.length < 10 + 1 := by
  decide +kernel

/-- Robots and lenses of both forms, as READ_ROBOT, READ_LENS and SNAPSHOT find them. -/
theorem witness_Reading_views :
    (robotAt installed 0).believed = none ∧ (robotAt ready 0).believed = some ⟨0, 0⟩ ∧
      ready.site? 0 = some (siteAt 0) ∧ ready.robots[0]? = some (robotAt ready 0) ∧
      (ready.lenses[1]? = some (lensAt ready 1) ∧ (lensAt ready 1).body = .decided .empty) ∧
      (ready.lenses[5]? = some (lensAt ready 5) ∧ (lensAt ready 5).body = .client .empty) := by
  decide +kernel

theorem witness_LegPlansKeepTheArmSafe :
    23039 < 23040 ∧ 5 < 6 ∧ (siteAt 0).mount ≤ 23039 ∧ (⟨5759, 6000⟩ : Pos) ≠ ⟨2000, 6000⟩ ∧
      trimCondition 3840 (siteAt 0) ⟨2000, 6000⟩ ⟨5759, 6000⟩ = true ∧
      trimCondition 3840 (siteAt 0) ⟨1919, 6000⟩ ⟨1920, 6000⟩ = false ∧
      planLegs 3840 (siteAt 0) ⟨1919, 6000⟩ ⟨1920, 6000⟩ =
        [⟨.stow, none, some 3840⟩, ⟨.slew, some 1920, none⟩, ⟨.deploy, none, some 6000⟩] := by
  decide +kernel

/-- A MOVE_TO of robot 0 of `s` to `q` meets what the three statements about MOVE_TO ask. -/
def movable (s : State) (site : Nat) (q : Pos) : Prop :=
  sentTo .sequencer seq ∧ s.Holds site (siteAt site) (robotAt s site) ∧ s.mode = .opened ∧
    (robotAt s site).enabled = true ∧ (robotAt s site).state = .idle ∧ (robotAt s site).move = none ∧
    (robotAt s site).believed = some ⟨0, 0⟩ ∧ (siteAt site).allows q.alpha q.beta = true ∧
    s.NoDenialWaits

def planned (s : State) (site : Nat) (q : Pos) : Option Nat :=
  s.planTarget site (siteAt site) (planLegs s.params.stowAngle (siteAt site) ⟨0, 0⟩ q) q

theorem witness_MoveToEndsDoneOrIsQueued :
    movable ready 0 ⟨0, 0⟩ ∧ ready.outcomes.length < 128 ∧
      (let full : State := { ready with
        outcomes := List.replicate 128 ⟨0, .moveTo, .done, none, 0, false, none⟩ }
       movable full 0 ⟨0, 0⟩ ∧ 128 ≤ full.outcomes.length) ∧
      movable ready 0 ⟨23039, 3840⟩ ∧ planned ready 0 ⟨23039, 3840⟩ = none := by
  simp only [movable, sentTo, State.Holds, State.NoDenialWaits]; decide +kernel

theorem witness_MoveToClaimsItsTargetLens :
    let held (k : HoldKind) : Decided := ⟨some (.b, k), false, false, none, none⟩
    let leaving := (ready |> withDecided 1 (held .occupied)) |> withMove 2 .queued
      { fieldMove with targetLens := some 4 }
    let remote := ready |> withDecided 7 (held .reserved)
    (movable ready 0 ⟨3840, 5000⟩ ∧ planned ready 0 ⟨3840, 5000⟩ = some 1 ∧
      (lensAt ready 1).body = .decided .empty ∧ (lensAt ready 1).partyOf 0 = some .a ∧
      Decided.empty.state = .free) ∧
      (movable leaving 0 ⟨3840, 5000⟩ ∧ planned leaving 0 ⟨3840, 5000⟩ = some 1 ∧
        (lensAt leaving 1).body = .decided (held .occupied) ∧ (lensAt leaving 1).side .b = .site 2 ∧
        leaving.robots[2]? = some (robotAt leaving 2) ∧
        (robotAt leaving 2).move = some { fieldMove with targetLens := some 4 } ∧
        (planLegs 3840 (siteAt 0) ⟨0, 0⟩ ⟨3840, 5000⟩).head?.map (·.kind) ≠ some .deploy) ∧
      (movable remote 1 ⟨0, 5000⟩ ∧ planned remote 1 ⟨0, 5000⟩ = some 7 ∧
        (lensAt remote 7).body = .decided (held .reserved) ∧ (lensAt remote 7).partyOf 1 = some .a ∧
        ((lensAt remote 7).side .b).link.isSome = true ∧
        (planLegs 3840 (siteAt 1) ⟨0, 0⟩ ⟨0, 5000⟩).head?.map (·.kind) = some .deploy) ∧
      (let own := (ready.modRobot 0 fun r => { r with beta := some 5000 }) |>
          withDecided 0 ⟨some (.a, .occupied), false, false, none, none⟩
       let legs := planLegs own.params.stowAngle (siteAt 0) ⟨0, 5000⟩ ⟨22000, 5000⟩
       own.Holds 0 (siteAt 0) (robotAt own 0) ∧ (robotAt own 0).believed = some ⟨0, 5000⟩ ∧
         own.NoDenialWaits ∧ own.planTarget 0 (siteAt 0) legs ⟨22000, 5000⟩ = some 0 ∧
         (lensAt own 0).partyOf 0 = some .a ∧ own.occupiedLens 0 = some 0 ∧
         legs.head?.map (·.kind) ≠ some .deploy) ∧
      (movable ready 0 ⟨11520, 5000⟩ ∧ planned ready 0 ⟨11520, 5000⟩ = some 5 ∧
        (lensAt ready 5).body = .client .empty ∧ Client.empty.claim = .none ∧
        (lensAt ready 5).link = some 2 ∧ ready.links[2]? = some (linkAt ready 2) ∧
        (linkAt ready 2).state = .up ∧ (linkAt ready 2).transmit.length < 64) := by
  simp only [movable, sentTo, State.Holds, State.NoDenialWaits]
  refine ⟨?_, ?_, ?_, ?_, ?_⟩ <;> decide +kernel

theorem witness_MoveToIsDeniedAHeldLens :
    let held : Decided := ⟨some (.b, .reserved), false, false, none, none⟩
    let pinned := ready |> withDecided 1 ⟨none, false, true, none, none⟩
    let taken := ready |> withDecided 1 held
    let down := ready |> withLink 2 .probing
    (movable pinned 0 ⟨3840, 5000⟩ ∧ planned pinned 0 ⟨3840, 5000⟩ = some 1 ∧
      (lensAt pinned 1).partyOf 0 ≠ none ∧ pinned.outcomes.length < 128 ∧
      (⟨none, false, true, none, none⟩ : Decided).state = .pinned) ∧
      (movable taken 0 ⟨3840, 5000⟩ ∧ planned taken 0 ⟨3840, 5000⟩ = some 1 ∧
        (lensAt taken 1).body = .decided held ∧ (lensAt taken 1).partyOf 0 = some .a ∧
        (lensAt taken 1).side .b = .site 2 ∧ taken.robots[2]? = some (robotAt taken 2)) ∧
      (movable down 0 ⟨11520, 5000⟩ ∧ planned down 0 ⟨11520, 5000⟩ = some 5 ∧
        (lensAt down 5).body = .client .empty ∧ (lensAt down 5).partyOf 0 ≠ none ∧
        (lensAt down 5).link = some 2 ∧ (linkAt down 2).state ≠ .up) := by
  simp only [movable, sentTo, State.Holds, State.NoDenialWaits]; decide +kernel

theorem witness_ParkAndHomeMoveFromTheirStates :
    let above := ready.modRobot 0 fun r => { r with beta := some 100 }
    let disabled := ready.modRobot 0 fun r => { r with enabled := false }
    let silent := ready.modRobot 0 fun r => { r with state := .lost .silent }
    movable ready 0 ⟨0, 0⟩ ∧ ready.outcomes.length < 128 ∧
      min (min ready.params.parkBeta ready.params.stowAngle) (siteAt 0).betaMax = 0 ∧
      (above.Holds 0 (siteAt 0) (robotAt above 0) ∧ (robotAt above 0).believed = some ⟨0, 100⟩) ∧
      (disabled.Holds 0 (siteAt 0) (robotAt disabled 0) ∧ (robotAt disabled 0).enabled = false) ∧
      (engaged.Holds 1 (siteAt 1) (robotAt engaged 1) ∧ (robotAt engaged 1).move ≠ none) ∧
      (silent.Holds 0 (siteAt 0) (robotAt silent 0) ∧ (robotAt silent 0).move = none ∧
        (robotAt silent 0).state ≠ .lost .power) := by
  simp only [movable, sentTo, State.Holds, State.NoDenialWaits]; decide +kernel

theorem witness_MovesAreRefusedByModeAndRobot :
    let frozen : State := { ready with mode := .frozen .shutter }
    sentTo .sequencer seq ∧ frozen.Holds 0 (siteAt 0) (robotAt frozen 0) ∧
      (siteAt 0).allows 23039 11520 = true ∧ 1 ≤ 1 ∧ frozen.mode = .frozen .shutter ∧
      installed.Holds 0 (siteAt 0) (robotAt installed 0) ∧ installed.mode = .init ∧
      (let s : State := { installed with mode := .opened }
       s.Holds 0 (siteAt 0) (robotAt s 0) ∧ s.mode = .opened ∧ (robotAt s 0).move = none ∧
         (robotAt s 0).state ≠ .idle) ∧
      (engaged.Holds 1 (siteAt 1) (robotAt engaged 1) ∧ engaged.mode = .opened ∧
        (robotAt engaged 1).enabled = true ∧ (robotAt engaged 1).move ≠ none) := by
  simp only [sentTo, State.Holds]; decide +kernel

theorem witness_AbortsActByTheRobotsState :
    sentTo .sequencer seq ∧ engaged.NoDenialWaits ∧ engaged.MovesSound ∧
      (ready.Holds 0 (siteAt 0) (robotAt ready 0) ∧ (robotAt ready 0).move = none ∧
        ready.NoDenialWaits) ∧
      (engaged.Holds 0 (siteAt 0) (robotAt engaged 0) ∧ (robotAt engaged 0).move = some fieldMove ∧
        (robotAt engaged 0).atRest = true ∧ engaged.outcomes.length < 128) ∧
      (let s : State := { engaged with lenses := [] }
       s.Holds 0 (siteAt 0) (robotAt s 0) ∧ s.NoDenialWaits ∧ (robotAt s 0).atRest = true ∧ s.Partless 0) ∧
      (engaged.Holds 1 (siteAt 1) (robotAt engaged 1) ∧ (robotAt engaged 1).state = .inLeg) ∧
      (engaged.Holds 3 (siteAt 3) (robotAt engaged 3) ∧ (robotAt engaged 3).state = .halting) ∧
      (ready.MovesSound ∧ ∀ x ∈ ready.robots, (x.move.any fun m => m.kind == .field) = false) ∧
      ∃ x ∈ engaged.robots, (x.move.any fun m => m.kind == .field) = true := by
  simp only [sentTo, State.Holds, State.NoDenialWaits, State.MovesSound, State.Partless]
  decide +kernel

theorem witness_ReadOutcomesDrainsTheQueue :
    let s : State := { ready with
      outcomes := List.replicate 17 ⟨0, .moveTo, .done, none, 0, false, none⟩ }
    sentTo .sequencer seq ∧ 16 < 17 ∧ ready.outcomes = [] ∧ s.outcomes ≠ [] ∧
      16 < s.outcomes.length ∧ ({ s with outcomes := s.outcomes.drop 1 } : State).outcomes.length ≤ 16 := by
  simp only [sentTo]; decide +kernel

theorem witness_ModeRequestsFollowTheirTables :
    let opened (b : Bool) : Inputs := { Inputs.reset with shutterOpen := b }
    sentTo .sequencer seq ∧ ready.mode = .opened ∧ State.reset.mode = .init ∧ State.reset.map = none ∧
      (installed.mode = .init ∧ installed.map ≠ none ∧ installed.inputs.shutterOpen = false) ∧
      (({ installed with inputs := opened true } : State).inputs.shutterOpen = true) ∧
      (∃ x ∈ engaged.robots, x.move ≠ none) ∧ (∀ x ∈ ready.robots, x.move = none) ∧
      (let s : State := { ready with mode := .frozen .freeze }
       s.mode = .frozen .freeze ∧ s.inputs.shutterOpen = false) ∧
      (let s : State := { ready with mode := .halted }
       s.mode = .halted ∧ s.inputs.stopAsserted = false ∧ s.map ≠ none ∧
         s.inputs.shutterOpen = false) := by
  simp only [sentTo]; decide +kernel

theorem witness_RestartAbandonsWhatWasInHand :
    sentTo .sequencer seq ∧ engaged.MovesSound ∧ engaged.NoDenialWaits ∧
      (robotAt engaged 0).atRest = true ∧ (robotAt engaged 1).state = .inLeg ∧
      (robotAt engaged 3).state = .halting ∧ engaged.buses[7]? = some (busAt engaged 7) := by
  simp only [sentTo, State.MovesSound, State.NoDenialWaits]; decide +kernel

theorem witness_LoadTargetsWritesTheGoodEntries :
    sentTo .sequencer seq ∧ ready.map ≠ none ∧ ready.targets.length = ready.siteCount ∧
      64 < (List.replicate 65 (⟨0, 0, 0⟩ : TargetArg)).length ∧
      ready.site? 3 = some (siteAt 3) ∧ (siteAt 3).allows 23039 11520 = true ∧
      ready.site? 4 = none ∧ (siteAt 3).allows 23040 0 = false := by
  simp only [sentTo]; decide +kernel

theorem witness_ClearTargetsEmptiesTheTable :
    sentTo .sequencer seq ∧ State.reset.map = none ∧ ready.map ≠ none ∧ 1 ≤ 1 ∧ ready.mode = .opened ∧
      ∀ x ∈ ready.robots, x.move = none := by
  simp only [sentTo]; decide +kernel

theorem witness_ConfigureCountsEverySite :
    let s : State := { ready with targets := [some ⟨0, 0⟩, some ⟨3840, 0⟩, none, none] }
    let t := run (.configure seq 1) s
    sentTo .sequencer seq ∧ s.map = some plate ∧ s.robots.length = plate.sites.length ∧
      s.mode = .opened ∧ (∀ x ∈ s.robots, x.move = none) ∧ (∃ x ∈ engaged.robots, x.move ≠ none) ∧
      engaged.map = some plate ∧ engaged.robots.length = plate.sites.length ∧
      (t.field.already = 1 ∧ t.field.admitted = 1 ∧ t.field.counts.denied = 0) ∧
      (run (.configure seq 65535) ready).field.admitted = 0 := by
  simp only [sentTo]; decide +kernel

theorem witness_ScalingRoundsAndStagesStayInBounds :
    (256 ≤ 256 ∧ (-2048 : Int) ≤ -2048 ∧ (-2048 : Int) ≤ 2047) ∧
      (siteAt 0).allows 5000 9000 = true ∧ 1 ≤ Params.reset.maxCorrection ∧
      correctionStages Params.reset (siteAt 0) ⟨5000, 9000⟩ none none 37 (-20) =
        .target ⟨5028, 8985⟩ false := by decide +kernel

theorem witness_LensTableDecidesAndReconciles :
    let held : Decided := ⟨some (.a, .occupied), false, false, none, none⟩
    let mine := ready |> withDecided 1 held
    let going := engaged |> withDecided 1 ⟨some (.a, .reserved), false, false, none, none⟩
    Decided.empty.state = .free ∧ (⟨none, true, true, none, none⟩ : Decided).state = .pinned ∧
      (⟨some (.b, .reserved), false, false, none, none⟩ : Decided).state = .reserved ∧
      held.state = .occupied ∧ ready.site? 0 = some (siteAt 0) ∧
      (mine.consistent 0 ⟨3840, 5000⟩ = true ∧
        (lensAt (mine.applyConsistent 0 ⟨3840, 5000⟩) 1).body = .decided held ∧
        (lensAt mine 1).partyOf 0 = some .a ∧ mine.facingLens 0 ⟨3840, 5000⟩ = some 1) ∧
      (going.consistent 0 ⟨0, 0⟩ = true ∧ going.targetLensOf 0 = some 1 ∧
        (lensAt (going.applyConsistent 0 ⟨0, 0⟩) 1).body =
          .decided ⟨some (.a, .reserved), false, false, none, none⟩) := by decide +kernel

/-- Every lens record of the two states above keeps R49's bounds. -/
theorem lensesSound_of {s : State} (h : s.lenses.all (fun l => match l.body with
    | .decided d => d.wf
    | .client _ => true) = true) : s.LensesSound := by
  intro l hl d hd
  have := List.all_eq_true.mp h l hl
  simpa [hd] using this

theorem witness_LensTable_lensesSound :
    (ready |> withDecided 1 ⟨some (.a, .occupied), false, false, none, none⟩).LensesSound ∧
      (engaged |> withDecided 1 ⟨some (.a, .reserved), false, false, none, none⟩).LensesSound :=
  ⟨lensesSound_of (by decide +kernel), lensesSound_of (by decide +kernel)⟩

theorem witness_CorrectionReportsComeToTheirOutcome :
    let good : CorrectionReport := ⟨0, 0, 60000, 2047, -2048⟩
    sentTo .metrology met ∧ ready.map ≠ none ∧ 32 < (List.replicate 33 good).length ∧
      (ready.Holds 0 (siteAt 0) (robotAt ready 0) ∧ reportBar ready good = none ∧
        (robotAt ready 0).believed = some ⟨0, 0⟩ ∧ ready.NoDenialWaits ∧
        ready.params.tolerance < good.residual ∧ (robotAt ready 0).iterations < 5) ∧
      (let q := correctionStages ready.params (siteAt 0) ⟨0, 0⟩ none none 100 0
       q = .target ⟨75, 0⟩ false ∧ (⟨75, 0⟩ : Pos) ≠ ⟨0, 0⟩ ∧ planned ready 0 ⟨75, 0⟩ = none) ∧
      correctionStages ready.params (siteAt 0) ⟨0, 0⟩ none none 0 0 = .null false ∧
      reportBar ready { good with residual := 8 } = none ∧
      (let spent := ready.modRobot 0 fun r => { r with iterations := 5 }
       spent.params.iterationLimit ≤ (robotAt spent 0).iterations ∧ reportBar spent good = none) ∧
      [reportBar ready { good with site := 4 }, reportBar ready { good with residual := 60001 },
        reportBar installed good, reportBar { installed with mode := .opened } good,
        reportBar engaged { good with site := 1 }, reportBar ready { good with epochSeen := 1 }] =
        [some .badArg, some .badArg, some .frozen, some .notReady, some .busy, some .stale] := by
  simp only [sentTo, State.Holds, State.NoDenialWaits]; decide +kernel

/-- Robot 0 LOST(POWER) with a pin on lens 1. -/
def lostRobot : State :=
  (ready.modRobot 0 fun r => { r with state := .lost .power, alpha := none, beta := none })
    |> withDecided 1 ⟨none, true, false, none, none⟩

/-- What the clauses about a target lens of CORRECT ask: a report of robot 0, believed at (alpha, 3700), whose
target is (beyond, 4100) in the direction of lens `i`. -/
def correctable (s : State) (alpha : Nat) (dAlpha : Int) (beyond i : Nat) : Prop :=
  let p : Pos := ⟨alpha, 3700⟩
  let legs := planLegs s.params.stowAngle (siteAt 0) p ⟨beyond, 4100⟩
  sentTo .metrology met ∧ s.Holds 0 (siteAt 0) (robotAt s 0) ∧ (robotAt s 0).believed = some p ∧
    reportBar s ⟨0, 0, 500, dAlpha, 1500⟩ = none ∧ s.NoDenialWaits ∧ s.params.tolerance < 500 ∧
    (robotAt s 0).iterations < s.params.iterationLimit ∧ s.outcomes.length < 128 ∧
    correctionStages s.params (siteAt 0) p (robotAt s 0).dirAlpha (robotAt s 0).dirBeta dAlpha 1500 =
      .target ⟨beyond, 4100⟩ true ∧
    (⟨beyond, 4100⟩ : Pos) ≠ p ∧ s.planTarget 0 (siteAt 0) legs ⟨beyond, 4100⟩ = some i ∧
    (legs.head?).map (·.kind) = (if dAlpha = 0 then some .deploy else some .slew)

/-- `ready` with robot 0 believed at (alpha, 3700). -/
def placed0 (alpha : Nat) : State := ready.modRobot 0 fun r => { r with alpha := some alpha, beta := some 3700 }

/-- Lens 1 FREE, pinned, taken, and behind a robot that leaves it, with a plan that slews first; lens 0
behind such a robot, with a plan that begins with its DEPLOY; the lens robot 0 occupies. -/
theorem witness_Correction_lens :
    let held (k : HoldKind) : Decided := ⟨some (.b, k), false, false, none, none⟩
    let s := placed0 1900
    let behind := s |> withDecided 0 (held .occupied) |> withMove 1 .queued fieldMove
    correctable s 1900 200 2050 1 ∧ correctable (s |> withDecided 1 ⟨none, false, true, none, none⟩) 1900 200 2050 1 ∧
      correctable (s |> withDecided 1 (held .reserved)) 1900 200 2050 1 ∧
      (correctable (s |> withDecided 1 (held .occupied) |> withMove 2 .queued
        { fieldMove with targetLens := some 4 }) 1900 200 2050 1) ∧
      (correctable behind 1900 0 1900 0 ∧ (lensAt behind 0).side .b = .site 1 ∧
        fieldMove.targetLens ≠ some 0 ∧ (robotAt behind 1).move = some fieldMove) ∧
      (let own := s |> withDecided 1 ⟨some (.a, .occupied), false, false, none, none⟩
       correctable own 1900 200 2050 1 ∧ own.occupiedLens 0 = some 1) := by
  simp only [correctable, sentTo, State.Holds, State.NoDenialWaits]
  refine ⟨?_, ?_, ?_, ?_, ?_, ?_⟩ <;> decide +kernel

/-- Lens 5, a CLIENT lens of link 2: in NONE, PINNED, and with its link down. -/
theorem witness_Correction_client :
    let s := placed0 11400
    correctable s 11400 0 11400 5 ∧ correctable s 11400 200 11550 5 ∧
      correctable (s.modLens 5 fun _ => .client ⟨.pinned, none, none⟩) 11400 0 11400 5 ∧
      correctable (s |> withLink 2 .probing) 11400 0 11400 5 ∧ (lensAt s 5).body = .client .empty ∧
      (lensAt s 5).link = some 2 ∧ (lensAt s 5).partyOf 0 = some .b ∧
      s.links[2]? = some (linkAt s 2) ∧ (linkAt s 2).transmit.length < 64 := by
  simp only [correctable, sentTo, State.Holds, State.NoDenialWaits]
  refine ⟨?_, ?_, ?_, ?_, ?_⟩ <;> decide +kernel

theorem witness_ReAnchorQueuesSetCounts :
    sentTo .metrology met ∧ lostRobot.Holds 0 (siteAt 0) (robotAt lostRobot 0) ∧
      (siteAt 0).allows 23040 0 = false ∧ (siteAt 0).allows 3840 5000 = true ∧
      (ready.Holds 0 (siteAt 0) (robotAt ready 0) ∧ (robotAt ready 0).state ≠ .lost .power) ∧
      (robotAt lostRobot 0).state = .lost .power ∧ lostRobot.consistent 0 ⟨3840, 5000⟩ = true ∧
      lostRobot.consistent 0 ⟨0, 5000⟩ = false := by
  simp only [sentTo, State.Holds]; decide +kernel

theorem witness_PeerControlActsByState :
    sentTo .sequencer seq ∧ ready.map ≠ none ∧ 5 < 6 ∧ ready.links[5]? = some (linkAt ready 5) ∧
      ready.NoDenialWaits ∧ (linkAt ready 5).state = .up ∧ (linkAt installed 5).state = .disabled ∧
      installed.map ≠ none ∧ installed.NoDenialWaits := by
  simp only [sentTo, State.NoDenialWaits]; decide +kernel

/-- The IDENT of sector 9 on link 4, and link 4 in a state. -/
def ident9 (ack : Bool) : Ident := ⟨9, 7, 1, crc16 [1, 12, 3, 12, 3, 13], ack⟩
def link4 (st : LinkState) : State := ready |> withLink 4 st

theorem witness_IdentsActByLinkState :
    (∀ st ∈ [LinkState.disabled, .probing, .matched, .syncing, .up, .fault],
      (link4 st).links[4]? = some (linkAt (link4 st) 4) ∧ (linkAt (link4 st) 4).state = st ∧
        (linkAt (link4 st) 4).transmit.length < 64 ∧ ∀ r ∈ (link4 st).robots, r.deniedAtRest = none) ∧
      (ident9 true).sector = ready.neighbourNumber 4 ∧ (ident9 true).expected = ready.sectorNumber ∧
      (ident9 true).digest = ready.digest 4 ∧
      (let s := (link4 .probing).modLink 4 fun l =>
         { l with matchCount := 2, lastIdent := some (ident9 false) }
       (linkAt s 4).lastIdent.any (fun x => x.level == (ident9 false).level) = true ∧
         3 ≤ (linkAt s 4).matchCount + 1) := by decide +kernel

theorem witness_SummariesEndTheBringUp :
    let s := (link4 .syncing) |> withLink 2 .syncing
    (let d : Decided := ⟨some (.b, .reserved), false, false, none, none⟩
     let t := ready |> withDecided 7 d
     t.lenses[7]? = some (lensAt t 7) ∧ (lensAt t 7).body = .decided d ∧
       (lensAt t 7).remoteParty = some .b ∧ d.wf = true ∧ d.waiter = none) ∧
      s.links[4]? = some (linkAt s 4) ∧ (linkAt s 4).state = .syncing ∧ 9 = s.neighbourNumber 4 ∧
      0 = (linkAt s 4).recvSeq ∧ s.summaryGood 4 1 [⟨2, 1⟩] = true ∧ s.NoDenialWaits ∧
      s.isArbiter 4 = true ∧ (linkAt s 2).state = .syncing ∧ 5 = s.neighbourNumber 2 ∧
      s.summaryGood 2 0 [] = true ∧ s.isArbiter 2 = false ∧
      (linkAt s 2).transmit.length + (s.borderList 2).length ≤ 64 := by
  simp only [State.NoDenialWaits]; decide +kernel

/-- No lens of link 4 has a waiter in that state. -/
theorem witness_Summaries_noWaiter : ∀ y ∈ ((link4 .syncing) |> withLink 2 .syncing).lenses,
    y.link = some 4 → ∃ d, y.body = .decided d ∧ d.waiter = none := by
  have h : ((link4 .syncing) |> withLink 2 .syncing).lenses.all (fun y => y.link != some 4 ||
      y.body == .decided .empty) = true := by decide +kernel
  intro y hy hl
  have hb := List.all_eq_true.mp h y hy
  rw [hl] at hb
  exact ⟨.empty, by simpa using hb, rfl⟩

/-- Lens 7 held by the remote side with robot 1 waiting, link 4 in a state, and no other waiter. -/
def waiting7 (st : LinkState) : State :=
  ready |> withDecided 7 ⟨some (.b, .reserved), false, false, some .a, none⟩ |> withMove 1 .waitLens
    { fieldMove with targetLens := some 7 } |> withLink 4 st

theorem witness_Summaries_waiter :
    let s := waiting7 .syncing
    s.links[4]? = some (linkAt s 4) ∧ (linkAt s 4).state = .syncing ∧ s.isArbiter 4 = true ∧
      (∀ e ∈ [[], [⟨0, 1⟩], [⟨0, 2⟩]], s.summaryGood 4 e.length e = true) ∧ s.NoDenialWaits ∧
      (7, 0) ∈ (s.borderList 4).zipIdx ∧ s.lenses[7]? = some (lensAt s 7) ∧
      (lensAt s 7).body = .decided ⟨some (.b, .reserved), false, false, some .a, none⟩ ∧
      (lensAt s 7).remoteParty = some .b ∧ (lensAt s 7).side .a = .site 1 ∧
      s.robots[1]? = some (robotAt s 1) ∧ (robotAt s 1).atRest = true ∧ (robotAt s 1).move ≠ none := by
  simp only [State.NoDenialWaits]; decide +kernel

theorem witness_Summaries_otherLenses : ∀ (e : Nat) (z : Lens), e ≠ 7 →
    (waiting7 .syncing).lenses[e]? = some z → z.link = some 4 →
    ∃ d, z.body = .decided d ∧ d.waiter = none := by
  have h : (waiting7 .syncing).lenses.zipIdx.all (fun y => y.2 == 7 || y.1.link != some 4 ||
      y.1.body == .decided .empty) = true := by decide +kernel
  intro e z he hz hl
  have hb := List.all_eq_true.mp h (z, e) (List.mem_zipIdx_iff_getElem?.mpr hz)
  simp only [hl] at hb
  exact ⟨.empty, by simpa [he] using hb, rfl⟩

theorem witness_Summaries_states :
    ∀ st ∈ [LinkState.disabled, .probing, .matched, .syncing, .up, .fault],
      (link4 st).links[4]? = some (linkAt (link4 st) 4) ∧ (linkAt (link4 st) 4).state = st ∧
        (link4 st).summaryGood 4 1 [⟨2, 1⟩] = true ∧ (link4 st).summaryGood 4 1 [⟨3, 1⟩] = false ∧
        9 = (link4 st).neighbourNumber 4 ∧ 0 = (linkAt (link4 st) 4).recvSeq ∧
        (linkAt (link4 st) 4).transmit.length < 64 ∧ ∀ r ∈ (link4 st).robots, r.deniedAtRest = none := by
  decide +kernel

theorem witness_LinkUnitsKeepAliveAndSend :
    ready.InOrder ⟨4, 9, 0⟩ (linkAt ready 4) ∧ ready.NoDenialWaits ∧
      (∀ st ∈ [LinkState.disabled, .probing, .matched, .syncing, .fault],
        (linkAt (link4 st) 4).state = st ∧ (linkAt (link4 st) 4).transmit.length < 64) ∧
      (let s := ready.modLink 4 fun l => { l with transmit := [⟨7, 0, .keepalive⟩] }
       (linkAt s 4).transmit = ⟨7, 0, .keepalive⟩ :: []) := by
  simp only [State.InOrder, State.NoDenialWaits]; decide +kernel

/-- Lens 7, which link 4 names (0, 1, 12), with this record. -/
def lens7 (d : Decided) : State := ready |> withDecided 7 d

/-- What the statements about border messages of lens 7 of `s` ask. -/
def named7 (s : State) (d : Decided) : Prop :=
  s.InOrder ⟨4, 9, 0⟩ (linkAt s 4) ∧ s.isArbiter 4 = true ∧
    s.Names 4 ⟨0, 1, 12⟩ 7 (lensAt s 7) ∧ (lensAt s 7).body = .decided d ∧
    (lensAt s 7).remoteParty = some .b ∧ d.wf = true ∧ (linkAt s 4).transmit.length < 64 ∧
    s.NoDenialWaits

theorem witness_ClaimMessagesAreDecided :
    let mine (k : HoldKind) : Decided := ⟨some (.a, k), false, false, none, none⟩
    let leaving := lens7 (mine .occupied) |> withMove 1 .queued fieldMove
    named7 ready .empty ∧ named7 (lens7 ⟨some (.b, .reserved), false, false, none, none⟩)
        ⟨some (.b, .reserved), false, false, none, none⟩ ∧
      named7 (lens7 ⟨none, true, false, none, none⟩) ⟨none, true, false, none, none⟩ ∧
      (named7 (lens7 (mine .reserved)) (mine .reserved) ∧
        (lensAt (lens7 (mine .reserved)) 7).side .a = .site 1) ∧
      (named7 leaving (mine .occupied) ∧ (robotAt leaving 1).move = some fieldMove ∧
        fieldMove.targetLens ≠ some 7) := by
  simp only [named7, State.InOrder, State.Names, State.NoDenialWaits]
  refine ⟨?_, ?_, ?_, ?_, ?_⟩ <;> decide +kernel

theorem witness_BorderMessagesChangeTheRecord :
    let d (holder : Option (Party × HoldKind)) (pinA pinB : Bool) (w : Option Party) : Decided :=
      ⟨holder, pinA, pinB, w, none⟩
    let waits := d (some (.b, .occupied)) false false (some .a)
    let s := lens7 waits |> withMove 1 .waitLens { fieldMove with targetLens := some 7 }
    named7 (lens7 (d (some (.a, .occupied)) false false (some .b)))
        (d (some (.a, .occupied)) false false (some .b)) ∧
      named7 (lens7 (d (some (.b, .reserved)) false false none)) (d (some (.b, .reserved)) false false none) ∧
      named7 (lens7 (d none true true none)) (d none true true none) ∧
      named7 (lens7 (d none false true none)) (d none false true none) ∧
      (named7 s waits ∧ (lensAt s 7).side .a = .site 1 ∧ s.robots[1]? = some (robotAt s 1) ∧
        (robotAt s 1).move = some { fieldMove with targetLens := some 7 } ∧
        (robotAt s 1).state = .waitLens ∧ (robotAt s 1).atRest = true) := by
  simp only [named7, State.InOrder, State.Names, State.NoDenialWaits]
  refine ⟨?_, ?_, ?_, ?_, ?_⟩ <;> decide +kernel

/-- A local robot that waits behind the remote holder, QUEUED, in a leg, HALTING, or in a CORRECTION; and
the HOLD that meets a local holder, IDLE or in a CORRECTION: a link taken down. -/
theorem witness_BorderMessages_local :
    let waits : Decided := ⟨some (.b, .occupied), false, false, some .a, none⟩
    let mine : Decided := ⟨some (.a, .occupied), false, false, none, none⟩
    let b : Move := { fieldMove with kind := .correction, targetLens := some 7 }
    (∀ st ∈ [RobotState.queued, .waitLens, .inLeg, .halting],
      let s := lens7 waits |> withMove 1 st b
      named7 s waits ∧ (lensAt s 7).side .a = .site 1 ∧ s.robots[1]? = some (robotAt s 1) ∧
        (robotAt s 1).state = st ∧ (robotAt s 1).move = some b) ∧
      (∀ s ∈ [lens7 mine, lens7 mine |> withMove 1 .inLeg b],
        named7 s mine ∧ (lensAt s 7).side .a = .site 1 ∧ s.robots[1]? = some (robotAt s 1) ∧
          mine.heldBy .a = true) ∧ (robotAt (lens7 mine) 1).state = .idle ∧
      (∀ z ∈ (lens7 mine).lenses, z.link = some 4 → ∃ e, z.body = .decided e) ∧
      (run (.hold ⟨4, 9, 0⟩ ⟨0, 1, 12⟩) (lens7 mine)).links.map
        (·.state) = [.up, .up, .up, .up, .probing, .up] := by
  simp only [named7, State.InOrder, State.Names, State.NoDenialWaits]
  refine ⟨?_, ?_, ?_, ?_, ?_⟩
  · decide +kernel
  · decide +kernel
  · decide +kernel
  · intro z hz hl
    cases hb : z.body with
    | decided e => exact ⟨e, rfl⟩
    | client c =>
      have h : ∀ z ∈ (lens7 ⟨some (.a, .occupied), false, false, none, none⟩).lenses, z.link = some 4 →
          (match z.body with | .decided _ => true | .client _ => false) = true := by decide +kernel
      simpa [hb] using h z hz hl
  · decide +kernel

theorem witness_GrantsAndRefusalsReachTheClient :
    let claiming := ready.modLens 5 fun _ => .client ⟨.claiming, none, none⟩
    let waits := claiming |> withMove 0 .waitLens { fieldMove with targetLens := some 5 }
    let legged := claiming |> withMove 0 .inLeg { fieldMove with targetLens := some 5 }
    ready.InOrder ⟨2, 5, 0⟩ (linkAt ready 2) ∧ ready.isClient 2 = true ∧
      ready.Names 2 ⟨0, 40, 0⟩ 5 (lensAt ready 5) ∧ (lensAt ready 5).body = .client .empty ∧
      (lensAt ready 5).b = .site 0 ∧ ready.robots[0]? = some (robotAt ready 0) ∧
      ready.NoDenialWaits ∧ (linkAt ready 2).transmit.length < 64 ∧
      (waits.InOrder ⟨2, 5, 0⟩ (linkAt waits 2) ∧ waits.Names 2 ⟨0, 40, 0⟩ 5 (lensAt waits 5) ∧
        (lensAt waits 5).body = .client ⟨.claiming, none, none⟩ ∧
        (robotAt waits 0).state = .waitLens ∧ waits.NoDenialWaits) ∧
      (robotAt legged 0).state = .inLeg ∧ legged.NoDenialWaits ∧
      ∀ st ∈ [RobotState.queued, .waitLens, .halting],
        let s := claiming |> withMove 0 st { fieldMove with kind := .correction, targetLens := some 5 }
        s.InOrder ⟨2, 5, 0⟩ (linkAt s 2) ∧ s.Names 2 ⟨0, 40, 0⟩ 5 (lensAt s 5) ∧
          (lensAt s 5).body = .client ⟨.claiming, none, none⟩ ∧ (robotAt s 0).state = st ∧
          s.NoDenialWaits := by
  simp only [State.InOrder, State.Names, State.NoDenialWaits]; decide +kernel

theorem witness_FrameErrorsAndTimeLimitsTakeLinksDown :
    (∀ st ∈ [LinkState.disabled, .probing, .matched, .syncing, .up, .fault],
      (link4 st).links[4]? = some (linkAt (link4 st) 4) ∧ (linkAt (link4 st) 4).state = st) ∧
      ready.NoDenialWaits ∧ 8 ≠ ready.neighbourNumber 4 ∧ ready.lensNamed 4 ⟨3, 1, 12⟩ = none ∧
      1 ≠ (linkAt ready 4).recvSeq ∧ ready.isArbiter 2 = false ∧ ready.isClient 4 = false := by
  simp only [State.NoDenialWaits]; decide +kernel

theorem witness_PeerFramesReadBack :
    let f : PeerFrame := ⟨255, 255, .summary (List.replicate 3 (65535, .pinned))⟩
    f.sender < 256 ∧ f.seq < 256 ∧ f.body = .summary (List.replicate 3 (65535, .pinned)) ∧
      (List.replicate 3 ((65535 : Nat), SummaryState.pinned)).length ≤ 384 ∧
      ∀ x ∈ List.replicate 3 ((65535 : Nat), SummaryState.pinned), x.1 < 65536 := by decide

theorem witness_ParametersFollowTheirTable :
    sentTo .sequencer seq ∧ 1920 ≤ 7680 ∧ ready.mode ≠ .init ∧ installed.mode = .init ∧
      installed.map ≠ none ∧ State.reset.map = none ∧ 0 < engaged.concurrency 3 ∧
      ready.concurrency 7 = 0 ∧ (4 : Nat) ∉ [1, 3, 7] ∧ ready.params.share = .three ∧
      (let s : State := { ready with mode := .init }
       s.mode = .init ∧ (robotAt s 0).state = .idle) ∧
      (run (.setParamStowAngle seq 7680) installed).params.stowAngle = 7680 := by
  simp only [sentTo]; decide +kernel

theorem witness_InquiriesUseOneSlot :
    let slot (i : Inquiry) : State := { ready with inquiry := i }
    sentTo .sequencer seq ∧ ready.Holds 3 (siteAt 3) (robotAt ready 3) ∧ 15 < 16 ∧ 15 ≤ 15 ∧
      (slot (.pending 0 3)).inquiry = .pending 0 3 ∧ ready.inquiry = .empty ∧
      (∀ b ∈ ready.buses, b.txn = none) ∧
      (installed.Holds 0 (siteAt 0) (robotAt installed 0) ∧ (robotAt installed 0).state = .offline ∧
        installed.inquiry = .empty) ∧
      (slot (.done 0 3 7)).inquiry = .done 0 3 7 ∧
      (slot (.failed 0 3 .power)).inquiry = .failed 0 3 .power := by
  simp only [sentTo, State.Holds]; decide +kernel

theorem witness_BusPowerActsByTheSwitch :
    let tripped := ready.modBus 7 fun b => { b with switch := .tripped }
    sentTo .sequencer seq ∧ ready.buses[7]? = some (busAt ready 7) ∧ State.reset.map = none ∧
      ({ ready with mode := .halted } : State).mode = .halted ∧ ready.map ≠ none ∧
      ready.mode ≠ .halted ∧ (busAt ready 7).switch = .on ∧ (busAt installed 7).switch = .off ∧
      (busAt tripped 7).switch = .tripped ∧ 0 < engaged.concurrency 3 ∧ ready.concurrency 3 = 0 := by
  simp only [sentTo]; decide +kernel

theorem witness_SamplesAndJabberTripBuses :
    let nearly := ready.modBus 7 fun b => { b with overCount := 2 }
    (converting 7 ready).converter = 7 ∧ (converting 7 ready).conversionDue = true ∧
      (busAt (converting 7 ready) 7) = busAt ready 7 ∧ ready.converter ≠ 7 ∧
    ready.buses[7]? = some (busAt ready 7) ∧ (busAt installed 7).switch ≠ .on ∧
      (busAt ready 7).switch = .on ∧ (busAt ready 7).blanking = false ∧
      2500 ≤ (busAt ready 7).threshold ∧ (busAt ready 7).threshold < 2501 ∧
      0 + 1 < (busAt ready 7).tripCount ∧ (busAt nearly 7).tripCount ≤ 2 + 1 := by decide +kernel

theorem witness_CensusRunsInRounds :
    let powered := run (.busPowerOn seq 3) installed
    let census := run (.blankingEnd 3) powered
    let round (l : List SlotJudgement) := (run (.rollcall 3) census).modBus 3 fun b =>
      { b with round := some l }
    ((busAt powered 3).switch = .on ∧ (busAt powered 3).blanking = true) ∧
      ((busAt census 3).protocol = .census ∧ (busAt census 3).round = none) ∧
      ((busAt (round []) 3).round = some [] ∧ 0 + 1 < (busAt (round []) 3).census.window) ∧
      ((busAt (round [.empty, .garbled, .empty]) 3).census.window ≤ 3 + 1 ∧
        (busAt (round []) 3).census.rounds < 10) ∧
      (robotAt (round []) 0).state = .offline ∧
      (busAt (run (.rollcallSlotEnd 3 .empty) (round [.empty, .empty, .empty])) 3).protocol =
        .running := by decide +kernel

/-- A round with CLEAN slots goes on, and the tenth round with a slot that is not EMPTY ends the census. -/
theorem witness_Census_rounds :
    let s := censusRound 4 [.clean 100, .garbled, .clean 103]
    let last := s.modBus 3 fun b => { b with census := { b.census with rounds := 10 } }
    let t := run (.rollcallSlotEnd 3 (.clean 104)) last
    ((busAt s 3).round = some [.clean 100, .garbled, .clean 103] ∧
      (busAt s 3).census.window ≤ 3 + 1 ∧ (busAt s 3).census.rounds < 10) ∧
      10 ≤ (busAt last 3).census.rounds ∧ last.NoDenialWaits ∧ last.robots[0]? = some (robotAt last 0) ∧
      (robotAt last 0).state = .offline ∧ (robotAt last 0).history = .none ∧
      (busAt t 3).census.result = .incomplete ∧ (busAt t 3).protocol = .running ∧
      (robotAt t 0).state = .lost .power ∧ (robotAt t 1).state = .offline ∧
      (lensAt t 0).body = .decided ⟨none, true, false, none, none⟩ := by
  simp only [State.NoDenialWaits]; decide +kernel

/-- Every link's queue of `installed` and `ready` has room. -/
theorem witness_queuesRoomy : installed.QueuesRoomy ∧ ready.QueuesRoomy := by
  have h : ∀ s ∈ [installed, ready], (s.links.zipIdx.all fun x =>
      decide (x.1.transmit.length + (s.borderList x.2).length ≤ 64)) = true := by decide +kernel
  have room : ∀ s ∈ [installed, ready], s.QueuesRoomy := fun s hs k u hu => by
    have := List.all_eq_true.mp (h s hs) (u, k) (List.mem_zipIdx_iff_getElem?.mpr hu)
    simpa using this
  exact ⟨room _ (by simp), room _ (by simp)⟩

theorem witness_SerialsAreHandledByTheTable :
    let known := ready.modBus 3 fun b => { b with addresses := b.addresses.set 0 (some ⟨100, some 0⟩) }
    let full := ready.modBus 3 fun b => { b with addresses := List.replicate 12 (some ⟨7, none⟩) }
    let wired := ready.modBus 2 fun b => { b with census := { b.census with wiring := [0] } }
    known.buses[3]? = some (busAt known 3) ∧ (busAt known 3).addresses[0]? = some (some ⟨100, some 0⟩) ∧
      (0 ∈ (busAt wired 2).census.wiring ∧
        (plate.sites.findIdx? fun x => x.serial == 100) = some 0 ∧ ready.busOf 0 ≠ 2) ∧
      none ∉ (busAt full 3).addresses ∧ (busAt ready 3).addresses[0]? = some none ∧
      (plate.sites.findIdx? fun x => x.serial == 99) = none ∧ ready.busOf 0 = 3 := by decide +kernel

theorem witness_ArbitersServeTheirPlacesInOrder :
    let halting := ready.modBus 3 fun b => { b with haltBroadcast := true }
    let addressed := ready.modBus 3 fun b => { b with haltAddressed := [2, 0] }
    let pending := ready.modBus 3 fun b => { b with
      pendingOps := [.inquire 1 15, .setCounts 0 ⟨0, 0⟩] }
    let kept (now : Nat) : State :=
      { ready.modBus 3 fun b => { b with keepaliveTime := some 0 } with now := now }
    ((busAt (kept 250) 3).keepaliveTime = some 0 ∧
      0 + (kept 250).params.keepaliveInterval ≤ (kept 250).now ∧
      (kept 249).now < 0 + (kept 249).params.keepaliveInterval ∧ (busAt (kept 250) 3).pendingOps = []) ∧
    (ready.buses[3]? = some (busAt ready 3) ∧ (busAt ready 3).protocol = .running ∧
      (busAt ready 3).txn = none ∧ (busAt ready 3).haltBroadcast = false ∧
      (busAt ready 3).haltAddressed = [] ∧ (busAt ready 3).queueA = [] ∧ (busAt ready 3).queueB = []) ∧
      (busAt halting 3).haltBroadcast = true ∧ (busAt addressed 3).haltAddressed = 2 :: [0] ∧
      (busAt pending 3).pendingOps = .inquire 1 15 :: [.setCounts 0 ⟨0, 0⟩] := by decide +kernel

/-- In that state no robot is due, and robot 0 is the first to be kept alive; a robot whose poll falls
due is the next to be polled. -/
theorem witness_Arbiters_places : (∀ i, ¬ ready.pollDue 3 i) ∧
    NextAbove (ready.keptAlive 3) (busAt ready 3).lastKeepalive 0 ∧
    (let s := ready.modRobot 2 fun r => { r with state := .inLeg, pollTime := some 0 }
     ({ s with now := 50 } : State).pollDue 3 2) := by
  refine ⟨?_, ⟨⟨robotAt ready 0, rfl, rfl, .inl rfl⟩, fun _ _ => Nat.zero_le _⟩, ?_⟩
  · rintro i ⟨r, hr, -, h⟩
    have hs : ∀ x ∈ ready.robots, x.state = .idle := by decide +kernel
    have := hs r (List.mem_of_getElem? hr)
    simp [this] at h
  · exact ⟨_, rfl, rfl, .inl ⟨rfl, 0, rfl, by decide +kernel⟩⟩

theorem witness_LegsAreDispatchedByTheShare :
    let s := (ready |> withMove 0 .queued fieldMove).modBus 3 fun b => { b with queueA := [0, 2] }
    let last := { fieldMove with index := 1 }
    let t := ((ready |> withMove 0 .queued last) |> withDecided 1
      ⟨some (.a, .reserved), false, false, none, none⟩).modBus 3 fun b => { b with queueA := [0] }
    let u := ((ready |> withMove 0 .queued { last with targetLens := some 5 }).modLens 5 fun _ =>
      .client ⟨.heldReserved, none, none⟩).modBus 3 fun b => { b with queueA := [0] }
    ((busAt s 3).protocol = .running ∧ s.mode = .opened ∧
      s.concurrency 3 < (busAt s 3).concurrencyLimit ∧
      chooseQueue s.params.share (busAt s 3) = (true, 3) ∧ (busAt s 3).queueA = 0 :: [2] ∧
      s.robots[0]? = some (robotAt s 0) ∧ (robotAt s 0).move = some fieldMove ∧
      fieldMove.leg = some ⟨.slew, some 3840, none⟩ ∧ s.NoDenialWaits) ∧
      (last.leg = some ⟨.deploy, none, some 5000⟩ ∧ (robotAt t 0).move = some last ∧
        (lensAt t 1).partyOf 0 = some .a ∧
        (lensAt t 1).body = .decided ⟨some (.a, .reserved), false, false, none, none⟩) ∧
      ((lensAt u 5).body = .client ⟨.heldReserved, none, none⟩ ∧ (lensAt u 5).link = some 2 ∧
        (linkAt u 2).state = .up ∧ (linkAt u 2).transmit.length < 64 ∧
        (lensAt u 5).partyOf 0 = some .b) := by
  simp only [State.NoDenialWaits]; decide +kernel

theorem witness_FailedAttemptsAreRetriedThenFail :
    let move : TxnKind := .move ⟨.slew, some 3840, none⟩ 5
    let s := onLine move engaged
    let spent := s.modBus 3 fun b => { b with txn := some ⟨move, 1, 3, 3⟩ }
    let often := spent.modRobot 1 fun r => { r with failures := 2 }
    (s.buses[3]? = some (busAt s 3) ∧ (busAt s 3).txn = some ⟨move, 1, 1, 3⟩ ∧
      s.robots[1]? = some (robotAt s 1) ∧ s.NoDenialWaits ∧ s.mode = .opened ∧
      (robotAt s 1).state = .inLeg) ∧
      (robotAt (onLine move ready) 1).state = .idle ∧
      (busAt spent 3).txn = some ⟨move, 1, 3, 3⟩ ∧ spent.NoDenialWaits ∧
      often.params.failureLimit ≤ (robotAt often 1).failures + 1 ∧
      (let asked := onLine (.inquire 3 false) { ready with inquiry := .pending 1 3 }
       asked.inquiry = .pending 1 3 ∧ (busAt asked 3).txn = some ⟨.inquire 3 false, 1, 1, 3⟩) := by
  simp only [State.NoDenialWaits]; decide +kernel

/-- Robot 1 ANCHORING at (0, 0), with its SET_COUNTS on the line. -/
def anchoring : State :=
  onLine (.setCounts ⟨0, 0⟩) (ready.modRobot 1 fun r =>
    { r with state := .anchoring, anchor := some ⟨0, 0⟩, alpha := none, beta := none })

theorem witness_GoodRepliesEndTheirTransactions :
    let move : TxnKind := .move ⟨.slew, some 3840, none⟩ 5
    let s := onLine move engaged
    let h := onLine move (engaged |> withMove 1 .halting { fieldMove with
      haltCause := some .abort, haltTime := some 0 })
    (s.buses[3]? = some (busAt s 3) ∧ (busAt s 3).txn = some ⟨move, 1, 1, 3⟩ ∧
      s.robots[1]? = some (robotAt s 1) ∧ s.NoDenialWaits ∧ (robotAt s 1).state = .inLeg ∧
      1 < 3 ∧ s.mode = .opened) ∧
      ((robotAt h 1).state = .halting ∧ (robotAt h 1).move.isSome = true ∧ h.NoDenialWaits ∧
        ∀ u ∈ [s, h], let last := u.modBus 3 fun b => { b with txn := some ⟨move, 1, 3, 3⟩ }
          (busAt last 3).txn = some ⟨move, 1, 3, 3⟩ ∧ last.NoDenialWaits ∧ 6 ≠ 5) ∧
      (let beside := anchoring |> withDecided 7 ⟨some (.b, .reserved), false, false, none, none⟩
       (robotAt beside 1).anchor = some ⟨0, 0⟩ ∧ beside.NoDenialWaits ∧
        let far := onLine (.setCounts ⟨0, 5000⟩) (beside.modRobot 1 fun r =>
          { r with anchor := some ⟨0, 5000⟩ })
        (robotAt far 1).state = .anchoring ∧ (robotAt far 1).anchor = some ⟨0, 5000⟩ ∧
          far.consistent 1 ⟨0, 5000⟩ = false ∧ far.NoDenialWaits) ∧
      (busAt (onLine .halt ready) 3).txn = some ⟨.halt, 1, 1, 3⟩ ∧
      (busAt (onLine (.inquire 3 true) ready) 3).txn = some ⟨.inquire 3 true, 1, 1, 3⟩ ∧
      ((robotAt anchoring 1).state = .anchoring ∧ (robotAt anchoring 1).anchor = some ⟨0, 0⟩ ∧
        anchoring.consistent 1 ⟨0, 0⟩ = true ∧ anchoring.NoDenialWaits) := by
  simp only [State.NoDenialWaits]; decide +kernel

/-- Robot 1 in the last leg of a move within its own site, or with a leg to come, and a poll on the
line. -/
def polled (m : Move) : State := onLine .poll (ready |> withMove 1 .inLeg { m with tag := some 5 })

def parkMove : Move := Move.fresh .park (some ⟨0, 0⟩) [⟨.stow, none, some 0⟩] none false

theorem witness_LegPollsFollowTheirTable :
    (∀ m ∈ [parkMove, fieldMove],
      (polled m).buses[3]? = some (busAt (polled m) 3) ∧
        (busAt (polled m) 3).txn = some ⟨.poll, 1, 1, 3⟩ ∧
        (polled m).robots[1]? = some (robotAt (polled m) 1) ∧
        (robotAt (polled m) 1).state = .inLeg ∧
        (robotAt (polled m) 1).move = some { m with tag := some 5 } ∧
        m.kind ≠ .home ∧ m.haltCause = none ∧ m.pendingDenial = none ∧
        (∀ r ∈ (polled m).robots, r.deniedAtRest = none) ∧
        (polled m).consistent 1 ⟨0, 0⟩ = true ∧ (polled m).consistent 1 ⟨0, 5000⟩ = false) ∧
      parkMove.leg = some ⟨.stow, none, some 0⟩ ∧ parkMove.legs.length ≤ parkMove.index + 1 ∧
      fieldMove.leg = some ⟨.slew, some 3840, none⟩ ∧ fieldMove.index + 1 < fieldMove.legs.length := by
  decide +kernel

/-- Robot 0, which occupies lens 0 behind which robot 1 waits, at the end of the SLEW of a move through lens
1; through lens 5, a CLIENT lens; and losing its position. -/
theorem witness_LegPolls_boundary :
    let s := (ready |> withDecided 0 ⟨some (.a, .occupied), false, false, some .b, none⟩)
      |> withMove 1 .waitLens { fieldMove with targetLens := some 0 }
    let at_ (m : Move) (u : State) := (u |> withMove 0 .inLeg { m with tag := some 5 }).modBus 3 fun b =>
      { b with txn := some ⟨.poll, 0, 1, 3⟩ }
    let reply := Instr.robotReplyGood 3 (.status ⟨.still, 5, 3840, 0, true, none⟩)
    let granted := run reply (at_ fieldMove (s |> withDecided 1 ⟨some (.a, .reserved), false, false, none, none⟩))
    let waits := run reply (at_ fieldMove (s |> withDecided 1 ⟨some (.b, .occupied), false, false, some .a, none⟩))
    let remote := run reply (at_ { fieldMove with targetLens := some 5 }
      (s.modLens 5 fun _ => .client ⟨.claiming, none, none⟩))
    let lost := run (.robotReplyGood 3 (.status ⟨.still, 5, 3840, 0, false, none⟩)) (at_ fieldMove s)
    (at_ fieldMove s).NoDenialWaits ∧ (at_ fieldMove s).consistent 0 ⟨3840, 0⟩ = true ∧
      ((robotAt granted 0).state = .queued ∧ (robotAt granted 1).state = .queued ∧
        (busAt granted 3).queueA = [1, 0] ∧
        (lensAt granted 0).body = .decided ⟨some (.b, .reserved), false, false, none, none⟩) ∧
      ((robotAt waits 0).state = .waitLens ∧ (lensAt waits 1).body =
        .decided ⟨some (.b, .occupied), false, false, some .a, some 45000⟩) ∧
      ((robotAt remote 0).state = .waitLens ∧
        (lensAt remote 5).body = .client ⟨.claiming, some 45000, none⟩) ∧
      ((robotAt lost 0).state = .lost .power ∧
        (lensAt lost 0).body = .decided ⟨none, true, false, none, none⟩ ∧
        (robotAt lost 1).lastOutcome = some .denied) := by
  simp only [State.NoDenialWaits]; decide +kernel

/-- A robot that has no part in any lens: that of a site with six OPEN directions. -/
theorem witness_LegPolls_partless :
    ({ ready with lenses := [] } : State).Partless 1 := fun _ h => by simp at h

theorem witness_HomeLegsAndHaltsComeToTheirEnds :
    let home : Move := { Move.fresh .home none homeLegs none false with tag := some 5 }
    let seek := { home with index := 1 }
    let halting := onLine .poll (ready |> withMove 1 .halting { parkMove with
      haltCause := some .abort, haltTime := some 0 })
    ((robotAt (polled home) 1).state = .inLeg ∧ (robotAt (polled home) 1).move = some home ∧
      home.leg = some ⟨.fold, none, none⟩ ∧ home.haltCause = none ∧ home.index + 1 < home.legs.length ∧
      (home.legs[home.index + 1]?).map (·.kind) = some .seek ∧ (robotAt (polled home) 1).enabled = true) ∧
      seek.leg = some ⟨.seek, none, none⟩ ∧ (polled seek).consistent 1 ⟨0, 0⟩ = true ∧
      ((robotAt halting 1).state = .halting ∧ parkMove.kind ≠ .home ∧ halting.NoDenialWaits ∧
        (busAt halting 3).txn = some ⟨.poll, 1, 1, 3⟩ ∧ halting.consistent 1 ⟨0, 0⟩ = true ∧
        halting.consistent 1 ⟨0, 5000⟩ = false) := by
  simp only [State.NoDenialWaits]; decide +kernel

theorem witness_KeepaliveRepliesTestTheRecord :
    let s := onLine .poll ready
    let lost (c : LostCause) := s.modRobot 1 fun r => { r with state := .lost c, alpha := none, beta := none }
    s.buses[3]? = some (busAt s 3) ∧ (busAt s 3).txn = some ⟨.poll, 1, 1, 3⟩ ∧
      s.robots[1]? = some (robotAt s 1) ∧ s.NoDenialWaits ∧ (robotAt s 1).state = .idle ∧
      (robotAt s 1).believed = some ⟨0, 0⟩ ∧ (robotAt (lost .power) 1).state = .lost .power ∧
      (robotAt (lost .silent) 1).state = .lost .silent ∧
      (lost .silent).consistent 1 ⟨0, 0⟩ = true ∧ (lost .silent).consistent 1 ⟨0, 5000⟩ = false := by
  simp only [State.NoDenialWaits]; decide +kernel

theorem witness_TimeLimitsEndMovesAndFields :
    let running (a : DeadlineAction) : State := { engaged with
      params := { engaged.params with deadlineAction := a }, timer := .start 900
      field := { engaged.field with number := 1, state := .running, admitted := 4 } }
    ((robotAt engaged 2).state = .waitLens ∧
      (robotAt engaged 2).move = some { fieldMove with index := 1 } ∧
      (lensAt engaged 1).partyOf 2 = some .b) ∧
      ((robotAt engaged 1).state = .inLeg ∧ (robotAt engaged 1).move.bind (·.dispatch) = some 0) ∧
      (robotAt engaged 3).state = .halting ∧
      (∀ a ∈ [DeadlineAction.runOn, .cut], (running a).timer.phase = .down ∧
        (running a).field.state = .running ∧ (running a).params.deadlineAction = a ∧
        ∀ r ∈ (running a).robots, r.moveMatchesState = true) := by decide +kernel

/-- States with work in hand, from which a step answers a next state. -/
theorem witness_EveryStepKeeps :
    let s : State := { lens7 ⟨some (.a, .occupied), false, false, some .b, none⟩ with
      pending := [.abortField seq] }
    let t : State := { engaged with pending := [.abortField seq] }
    (∃ u, step s = .next u) ∧ s.LensesSound ∧ (∃ u, step t = .next u) ∧ t.MovesSound ∧
      t.NoDenialWaits ∧ t.params.inRange = true := by
  refine ⟨⟨_, rfl⟩, lensesSound_of (by decide +kernel), ⟨_, rfl⟩, ?_⟩
  simp only [State.MovesSound, State.NoDenialWaits]
  decide +kernel

theorem witness_EveryStepKeepsCapacitiesAndRanges :
    engaged.QueuesSound ∧ engaged.ShapeSound ∧ engaged.CountsSound := by
  simp only [State.QueuesSound, State.ShapeSound, State.CountsSound]; decide +kernel

end Sys2Proof.Tests
end

section
/-! The two full resets (R180) leave the reset state, field by field (R14, R16, R35, R45, R106, R133,
R166, R174, R176, R179). -/

namespace Sys2Proof.Machine

/-- The state a full reset leaves, written out: an ASSERTED stop changes the mode and latches MODE_CHANGE
(R106, R108). -/
theorem State.fullReset_eq (s : State) (cause : ResetCause) (shutter stop : Bool) :
    s.fullReset cause shutter stop =
      { State.reset with
        pending := s.pending
        inputs := ⟨shutter, stop, shutter, false, stop, false⟩
        mode := if stop then .halted else .init
        notices := { Notices.reset with modeChange := stop }
        resetCause := cause } := by
  cases stop <;> rfl

/-- Every link unit of the reset state is the reset unit (R133). -/
theorem State.reset_link {l : Link} (h : l ∈ State.reset.links) : l = Link.reset :=
  List.eq_of_mem_replicate h

/-- Every bus of the reset state is the reset bus (R166). -/
theorem State.reset_bus {b : Bus} (h : b ∈ State.reset.buses) : b = Bus.reset :=
  List.eq_of_mem_replicate h

/-- Every border digest of the reset state is FFFF (R14). -/
theorem State.reset_digest {n : Nat} (h : n < 6) : State.reset.digest n = 0xFFFF#16 := by
  unfold State.digest
  rw [List.getD_eq_getElem _ _ h]
  exact List.getElem_replicate h

/-- Settles O3, field by field of the reset state, and by what a full reset leaves at each level of the
stop input. -/
theorem fullResetsLeaveTheResetState : Obligations.FullResetsLeaveTheResetState := by
  refine ⟨?_, fun s shutter stop => ?_⟩
  · refine ⟨rfl, rfl, rfl, rfl, fun n => State.reset_digest, rfl, rfl, rfl, rfl, rfl, rfl, rfl, rfl, rfl,
      rfl, rfl, fun l hl => ?links, rfl, fun b hb => ?buses, rfl, rfl, rfl, rfl, rfl, rfl, rfl⟩
    case links => rw [State.reset_link hl]; exact ⟨rfl, rfl⟩
    case buses => rw [State.reset_bus hb]; exact ⟨rfl, rfl, rfl, rfl, rfl, rfl, rfl, rfl⟩
  · exact ⟨congrArg _ (s.fullReset_eq .powerOn shutter stop),
      congrArg _ (s.fullReset_eq .resetLine shutter stop)⟩

end Sys2Proof.Machine
end

section
/-! The requests that load a plate map and read it back: what each answers, and what it leaves (R8 to R12,
R15). -/

namespace Sys2Proof.Machine

/-! ### The conditions of the map requests (R8) -/

/-- In INIT with every bus OFF nothing bars a map request. -/
theorem State.mapBarred_none {s : State} (hm : s.mode = .init) (hb : ∀ b ∈ s.buses, b.switch = .off) :
    s.mapBarred = none := by
  have hoff : (s.buses.any fun b => b.switch != .off) = false := by simpa [bne] using hb
  simp [State.mapBarred, hm, hoff]

@[simp] theorem takeRequest_mapBarred (s : State) (p : PortId) (tag code : Byte) :
    (s.takeRequest p tag code).mapBarred = s.mapBarred := by
  simp [State.mapBarred]

/-! ### MAP_BEGIN (R9) -/

theorem headerGood_iff {sector count : Nat} {neighbours : List Nat} (h6 : neighbours.length = 6) :
    headerGood sector count neighbours = true ↔
      1 ≤ sector ∧ sector ≤ 255 ∧ 1 ≤ count ∧ count ≤ 96 ∧ ∀ n ∈ neighbours, n ≤ 255 ∧ n ≠ sector := by
  have h96 : Config.maxSites = 96 := rfl
  simp [headerGood, h6, h96, and_assoc]

/-- MAP_BEGIN with good arguments opens a load. -/
theorem beginLoad_good {t : State} {sector count : Nat} {neighbours : List Nat}
    (hb : t.mapBarred = none) (hg : headerGood sector count neighbours = true) :
    beginLoad sector count neighbours t =
      okWith { t with loader := some ⟨sector, neighbours, List.replicate count none⟩ } .none := by
  simp [beginLoad, hb, hg]

/-- MAP_BEGIN with an argument out of range is refused. -/
theorem beginLoad_bad {t : State} {sector count : Nat} {neighbours : List Nat}
    (hb : t.mapBarred = none) (hg : headerGood sector count neighbours = false) :
    beginLoad sector count neighbours t = refuseWith t .badArg := by
  simp [beginLoad, hb, hg]

/-! ### MAP_SITES (R10) -/

/-- The staging's places after entries are written, in order. -/
theorem Staging.write_cons (st : Staging) (e : SiteArg) (rest : List SiteArg) :
    st.write (e :: rest) =
      { st with sites := st.sites.set e.index (some (SiteArg.record e)) }.write rest := rfl

/-- Writing entries adds no place and takes none away. -/
theorem Staging.write_length (entries : List SiteArg) (st : Staging) :
    (st.write entries).sites.length = st.sites.length := by
  induction entries generalizing st with
  | nil => rfl
  | cons e rest ih => rw [Staging.write_cons, ih, List.length_set]

/-- An index that no entry names keeps what it had. -/
theorem Staging.write_other {i : Nat} {entries : List SiteArg} (h : ∀ e ∈ entries, e.index ≠ i)
    (st : Staging) : (st.write entries).sites[i]? = st.sites[i]? := by
  induction entries generalizing st with
  | nil => rfl
  | cons e rest ih =>
    rw [Staging.write_cons, ih fun x hx => h x (List.mem_cons_of_mem _ hx)]
    exact List.getElem?_set_ne (h e List.mem_cons_self)

/-- An entry that no later one overwrites stands at its index (R10). -/
theorem Staging.write_last {before after : List SiteArg} {e : SiteArg} {st : Staging}
    (hi : e.index < st.sites.length) (ha : ∀ x ∈ after, x.index ≠ e.index) :
    (st.write (before ++ e :: after)).sites[e.index]? = some (some (SiteArg.record e)) := by
  have hsplit : st.write (before ++ e :: after) =
      { st.write before with
        sites := (st.write before).sites.set e.index (some (SiteArg.record e)) }.write after := by
    simp [Staging.write, List.foldl_append]
  have hlt : e.index < (st.write before).sites.length := by rwa [Staging.write_length]
  rw [hsplit, Staging.write_other ha]
  exact List.getElem?_set_self hlt

/-- Entries within the count that all pass their checks are not refused. -/
theorem entriesBad_none {count : Nat} {entries : List SiteArg} (h1 : 1 ≤ entries.length)
    (h8 : entries.length ≤ 8) (h : ∀ e ∈ entries, siteFieldBad count e = none) :
    entriesBad count entries = none := by
  have hne : entries ≠ [] := by rintro rfl; simp at h1
  have hbad : ∀ x ∈ entries.zipIdx, (siteFieldBad count x.1).map (fun f => (x.2, f)) = none :=
    fun x hx => by rw [h x.1 (List.fst_mem_of_mem_zipIdx hx), Option.map_none]
  simp [entriesBad, hne, h8, List.findSome?_eq_none_iff.mpr hbad]

/-- The first entry that fails is named by its place and its field. -/
theorem entriesBad_first {count : Nat} {before after : List SiteArg} {e : SiteArg} {field : SiteField}
    (h8 : (before ++ e :: after).length ≤ 8) (hb : ∀ x ∈ before, siteFieldBad count x = none)
    (he : siteFieldBad count e = some field) :
    entriesBad count (before ++ e :: after) = some (before.length, field) := by
  have hbad : ∀ x ∈ before.zipIdx, (siteFieldBad count x.1).map (fun f => (x.2, f)) = none :=
    fun x hx => by rw [hb x.1 (List.fst_mem_of_mem_zipIdx hx), Option.map_none]
  have h8' : ¬ 8 < (before ++ e :: after).length := by omega
  simp only [entriesBad, h8', or_false, List.isEmpty_iff, List.append_eq_nil_iff, reduceCtorEq,
    and_false, if_false, List.zipIdx_append, List.findSome?_append, List.zipIdx_cons,
    List.findSome?_eq_none_iff.mpr hbad, List.findSome?_cons, he, Nat.zero_add, Option.map_some,
    Option.none_or]

/-- MAP_SITES whose entries pass stages them. -/
theorem stageSites_good {t : State} {st : Staging} {entries : List SiteArg} (hb : t.mapBarred = none)
    (hl : t.loader = some st) (hg : entriesBad st.sites.length entries = none) :
    stageSites entries t =
      okWith { t with loader := some (st.write entries) } (.count (st.write entries).written) := by
  simp [stageSites, hb, hl, hg]

/-- MAP_SITES with an entry that fails is refused. -/
theorem stageSites_bad {t : State} {st : Staging} {entries : List SiteArg} {bad : Nat × SiteField}
    (hb : t.mapBarred = none) (hl : t.loader = some st)
    (hg : entriesBad st.sites.length entries = some bad) :
    stageSites entries t = ⟨t, .badArg, .siteRefused bad.1 bad.2⟩ := by
  simp [stageSites, hb, hl, hg]

/-- An index that passes the checks of R10 is one of the staged places. -/
theorem siteFieldBad_index {count : Nat} {e : SiteArg} (h : siteFieldBad count e = none) :
    e.index < count := by
  unfold siteFieldBad at h
  by_contra hge
  simp [Nat.le_of_not_lt hge] at h

/-! ### MAP_END refused (R11, R12) -/

/-- A staging that fails one of checks 1 to 9 is refused with MAP_INVALID. -/
theorem endLoad_fault {t : State} {st : Staging} {check : MapCheck} {site : Nat} {dir : Option Nat}
    (hb : t.mapBarred = none) (hl : t.loader = some st) (hf : st.fault = some (check, site, dir)) :
    endLoad t = ⟨t, .mapInvalid, .mapRefused check site dir⟩ := by
  simp [endLoad, hb, hl, hf]

/-- A staging with too many lenses is refused with LENS_CAPACITY. -/
theorem endLoad_capacity {t : State} {st : Staging} (hb : t.mapBarred = none)
    (hl : t.loader = some st) (hf : st.fault = none) (hc : 384 < lensCountOf st.map.sites) :
    endLoad t = ⟨t, .lensCapacity, .count (lensCountOf st.map.sites)⟩ := by
  have hc' : Config.maxLenses < lensCountOf (st.sites.filterMap id) := hc
  simp only [endLoad, hb, hl, hf, if_pos hc']
  rfl

/-! ### READ_MAP (R15) -/

/-- READ_MAP for no site, or for sites of the map, answers and changes nothing. -/
theorem readMap_ok {t : State} {first count : Nat} (h8 : count ≤ 8)
    (h : count = 0 ∨ (t.map.isSome = true ∧ first + count ≤ t.siteCount)) :
    readMap first count t =
      okWith t (.map t.map.isSome t.sectorNumber t.siteCount ((List.range 6).map t.neighbourNumber)
        t.mapSummary t.loaderView (t.siteViews first count)) := by
  have h1 : ¬ 8 < count := by omega
  have h2 : ¬ (count ≠ 0 ∧ t.map.isNone = true) := by
    rcases h with h | ⟨h, -⟩
    · simp [h]
    · simp [Option.isSome_iff_ne_none.mp h]
  have h3 : ¬ (count ≠ 0 ∧ t.siteCount < first + count) := by omega
  simp only [readMap, h1, h2, h3, if_false]

@[simp] theorem takeRequest_neighbourNumber (s : State) (p : PortId) (tag code : Byte) :
    (s.takeRequest p tag code).neighbourNumber = s.neighbourNumber := by
  funext n; simp [State.neighbourNumber]

@[simp] theorem takeRequest_mapSummary (s : State) (p : PortId) (tag code : Byte) :
    (s.takeRequest p tag code).mapSummary = s.mapSummary := by
  cases p <;> rfl

@[simp] theorem takeRequest_loaderView (s : State) (p : PortId) (tag code : Byte) :
    (s.takeRequest p tag code).loaderView = s.loaderView := by
  simp [State.loaderView]

@[simp] theorem takeRequest_siteViews (s : State) (p : PortId) (tag code : Byte) (first count : Nat) :
    (s.takeRequest p tag code).siteViews first count = s.siteViews first count := by
  simp [State.siteViews]

/-- Settles O10, request by request: MAP_BEGIN by its header's check, MAP_SITES by its first failing entry,
and MAP_END and READ_MAP by their answers. -/
theorem mapLoadsAreStagedAndChecked : Obligations.MapLoadsAreStagedAndChecked := by
  refine ⟨fun s r sector count neighbours hr hm hb h6 => ⟨fun hg => ?opened, fun hg => ?header⟩,
    fun s r entries st hr hm hb hl h1 h8 => ⟨fun hg => ?staged, fun before e after field hs hx hf => ?entry⟩,
    fun s r hr => ⟨fun st check site dir hm hb hl hf => ?fault, fun st hm hb hl hf hc => ?capacity,
      fun first count h8 h => ?read⟩⟩
  case opened =>
    refine congrArg _ (serve_sequencer s r 1 _ _ _ _ hr (beginLoad_good ?_ ((headerGood_iff h6).mpr hg)))
    simpa using State.mapBarred_none hm hb
  case header =>
    have hbad : headerGood sector count neighbours = false :=
      Bool.eq_false_iff.mpr fun h => hg ((headerGood_iff h6).mp h)
    refine congrArg _ (serve_sequencer s r 1 _ _ _ id hr (beginLoad_bad ?_ hbad))
    simpa using State.mapBarred_none hm hb
  case staged =>
    refine ⟨st.write entries, congrArg _ (serve_sequencer s r 2 _ _ _ _ hr
      (stageSites_good ?_ (by simpa using hl) (entriesBad_none h1 h8 hg))), rfl, rfl,
      Staging.write_length entries st, fun i hi => st.write_other hi, ?_⟩
    · simpa using State.mapBarred_none hm hb
    · rintro before e after rfl ha
      exact Staging.write_last (siteFieldBad_index (hg e (by simp))) ha
  case entry =>
    subst hs
    refine congrArg _ (serve_sequencer s r 2 _ _ _ id hr
      (stageSites_bad ?_ (by simpa using hl) (entriesBad_first h8 hx hf)))
    simpa using State.mapBarred_none hm hb
  case fault =>
    refine congrArg _ (serve_sequencer s r 3 _ _ _ id hr (endLoad_fault ?_ (by simpa using hl) hf))
    simpa using State.mapBarred_none hm hb
  case capacity =>
    refine congrArg _ (serve_sequencer s r 3 _ _ _ id hr (endLoad_capacity ?_ (by simpa using hl) hf hc))
    simpa using State.mapBarred_none hm hb
  case read =>
    refine congrArg _ (serve_sequencer s r 4 _ _ _ id hr ?_)
    rw [readMap_ok h8 (by simpa using h)]
    simp [okWith]

end Sys2Proof.Machine
end

section
/-! What the checks of a site entry (R10) and of MAP_END (R11) mean. -/

namespace Sys2Proof.Machine

/-! ### The checks of a site entry (R10) -/

/-- A chain of checks passes where its first check passes and the others do. -/
theorem check_eq_none {α : Type} {c : Prop} [Decidable c] {a : α} {rest : Option α} :
    (if c then some a else rest) = none ↔ ¬ c ∧ rest = none := by
  by_cases h : c <;> simp [h]

theorem kindGood_iff (n : NeighbourArg) : NeighbourArg.kindGood n = true ↔ n ≠ .other := by
  cases n <;> simp [NeighbourArg.kindGood]

theorem siteGood_iff (n : NeighbourArg) :
    NeighbourArg.siteGood n = true ↔ ∀ i, n = .site i → i ≤ 95 := by
  cases n <;> simp [NeighbourArg.siteGood]

theorem borderGood_iff (n : NeighbourArg) :
    NeighbourArg.borderGood n = true ↔ ∀ link i, n = .border link i → link ≤ 5 ∧ i ≤ 95 := by
  cases n with
  | border link i =>
    refine ⟨fun h link' i' e => ?_, fun h => ?_⟩
    · cases e
      simpa [NeighbourArg.borderGood] using h
    · simpa [NeighbourArg.borderGood] using h link i rfl
  | _ => simp [NeighbourArg.borderGood]

/-- A site entry passes exactly when every field is in its range (R10). -/
theorem siteFieldBad_none_iff (count : Nat) (e : SiteArg) :
    siteFieldBad count e = none ↔
      e.index < count ∧ e.bus ≤ 7 ∧ e.mount ≤ 23039 ∧ e.alphaMin ≤ 23039 ∧ e.alphaMax ≤ 23039 ∧
        e.backlashAlpha ≤ 255 ∧ e.backlashBeta ≤ 255 ∧ e.neighbours.length = 6 ∧
        ∀ n ∈ e.neighbours, n ≠ .other ∧ (∀ i, n = .site i → i ≤ 95) ∧
          ∀ link i, n = .border link i → link ≤ 5 ∧ i ≤ 95 := by
  have htop : Config.alphaTop = 23039 := rfl
  simp only [siteFieldBad, check_eq_none, not_or, Bool.not_eq_false, not_not, Nat.not_le, Nat.not_lt,
    htop, ne_eq, List.all_eq_true, kindGood_iff, siteGood_iff,
    borderGood_iff, and_true, and_assoc, forall_and]

/-! ### The searches of MAP_END (R11) -/

/-- No site fails a check. -/
theorem firstSite_none_iff {sites : List Site} {bad : Nat → Site → Bool} :
    firstSite sites bad = none ↔ ∀ (i : Nat) (x : Site), sites[i]? = some x → bad i x = false := by
  simp only [firstSite, List.findSome?_eq_none_iff, Prod.forall, List.mk_mem_zipIdx_iff_getElem?]
  constructor
  · intro h i x hx
    simpa using h x i hx
  · intro h x i hx
    simp [h i x hx]

/-- No direction of a site fails a check. -/
theorem firstDirection_none_iff {sites : List Site} {bad : Nat → Site → Nat → Bool} :
    firstDirection sites bad = none ↔
      ∀ (i : Nat) (x : Site), sites[i]? = some x → ∀ d, d < 6 → bad i x d = false := by
  simp only [firstDirection, List.findSome?_eq_none_iff, Prod.forall, List.mk_mem_zipIdx_iff_getElem?,
    Option.map_eq_none_iff, List.find?_eq_none, List.mem_range, Bool.not_eq_true]
  exact ⟨fun h i x => h x i, fun h x i => h i x⟩

/-! ### Each check of MAP_END (R11) -/

/-- LOCAL_TARGET at a direction: the entry names a site off the map, or its own. -/
def localTargetBad (sites : List Site) (i : Nat) (x : Site) (d : Nat) : Bool :=
  match x.toward d with
  | .site j => decide (sites.length ≤ j) || j == i
  | .vacant => false
  | .border _ _ => false

/-- REPEATED at a direction: the entry stands in a lower direction too. -/
def repeatedBad (_ : Nat) (x : Site) (d : Nat) : Bool :=
  x.toward d != .vacant && (x.neighbours.take d).contains (x.toward d)

/-- SYMMETRY at a direction: the named site does not name this one in the opposite direction. -/
def symmetryBad (sites : List Site) (i : Nat) (x : Site) (d : Nat) : Bool :=
  match x.toward d with
  | .site j => (sites[j]?).all fun y => y.toward ((d + 3) % 6) != .site i
  | .vacant => false
  | .border _ _ => false

/-- LINK_CHECK at a direction: the entry is a BORDER on a link with no neighbour sector. -/
def linkBad (neighbours : List Nat) (_ : Nat) (x : Site) (d : Nat) : Bool :=
  match x.toward d with
  | .border n _ => neighbours.getD n 0 == 0
  | .vacant => false
  | .site _ => false

/-- Checks 2 to 9 by the names of their conditions. -/
theorem siteChecks_eq (neighbours : List Nat) (sites : List Site) :
    siteChecks neighbours sites =
      [ (.axisLimits, firstSite sites fun _ x => decide (x.alphaMax < x.alphaMin)),
        (.betaRange, firstSite sites fun _ x => decide (Config.betaTop < x.betaMax)),
        (.localTarget, firstDirection sites (localTargetBad sites)),
        (.repeated, firstDirection sites repeatedBad),
        (.symmetry, firstDirection sites (symmetryBad sites)),
        (.linkCheck, firstDirection sites (linkBad neighbours)),
        (.busLoad, firstSite sites fun i x =>
          decide (Config.robotsPerBus ≤ (sites.take i).countP fun y => y.bus == x.bus)),
        (.serial, firstSite sites fun i x => (sites.take i).any fun y => y.serial == x.serial) ] := rfl

theorem localTargetBad_false_iff {sites : List Site} {i : Nat} {x : Site} {d : Nat} :
    localTargetBad sites i x d = false ↔ ∀ j, x.toward d = .site j → j < sites.length ∧ j ≠ i := by
  unfold localTargetBad
  cases x.toward d <;> simp

theorem symmetryBad_false_iff {sites : List Site} {i : Nat} {x : Site} {d : Nat} :
    symmetryBad sites i x d = false ↔
      ∀ j, x.toward d = .site j → ∃ y, sites[j]? = some y ∧ y.toward ((d + 3) % 6) = .site i := by
  unfold symmetryBad
  cases x.toward d with
  | site j => cases hj : sites[j]? <;> simp [hj, bne]
  | _ => simp

theorem linkBad_false_iff {neighbours : List Nat} {i : Nat} {x : Site} {d : Nat} :
    linkBad neighbours i x d = false ↔
      ∀ link k, x.toward d = .border link k → neighbours.getD link 0 ≠ 0 := by
  unfold linkBad
  cases x.toward d with
  | border link k =>
    refine ⟨fun h link' k' e => ?_, fun h => ?_⟩
    · cases e
      exact beq_eq_false_iff_ne.mp h
    · exact beq_eq_false_iff_ne.mpr (h link k rfl)
  | _ => simp

/-- An entry of a lower direction is one of the entries before. -/
theorem Site.mem_take_neighbours {x : Site} (h6 : x.neighbours.length = 6) {d : Nat} (hd : d < 6)
    (n : Neighbour) : n ∈ x.neighbours.take d ↔ ∃ e, e < d ∧ x.toward e = n := by
  simp only [List.mem_take_iff_getElem, h6, Nat.min_eq_left hd.le]
  refine exists_congr fun e => ⟨fun ⟨he, hx⟩ => ⟨he, ?_⟩, fun ⟨he, hx⟩ => ⟨he, ?_⟩⟩
  · rw [Site.toward, List.getD_eq_getElem _ _ (by omega), hx]
  · rw [← hx, Site.toward, List.getD_eq_getElem _ _ (by omega)]

theorem repeatedBad_false_iff {i : Nat} {x : Site} (h6 : x.neighbours.length = 6) {d : Nat}
    (hd : d < 6) :
    repeatedBad i x d = false ↔ ∀ e, e < d → x.toward d ≠ .vacant → x.toward e ≠ x.toward d := by
  rw [Bool.eq_false_iff]
  simp only [repeatedBad, ne_eq, Bool.and_eq_true, bne_iff_ne, List.contains_iff_mem,
    Site.mem_take_neighbours h6 hd, not_and, not_exists]
  exact ⟨fun h e he hv heq => h hv e he heq, fun h hv e he heq => h e he hv heq⟩

/-- Before each member that `p` picks there stand fewer than `k` such members exactly when there are at most
`k` in all. -/
theorem countP_take_lt_iff {α : Type} (p : α → Bool) (k : Nat) (l : List α) :
    (∀ (i : Nat) (x : α), l[i]? = some x → p x = true → (l.take i).countP p < k) ↔
      l.countP p ≤ k := by
  constructor
  · intro h
    induction l using List.reverseRecOn with
    | nil => simp
    | append_singleton l x ih =>
      have hinit : l.countP p ≤ k := ih fun i y hy hp => by
        have hi := (List.getElem?_eq_some_iff.mp hy).1
        simpa [List.take_append_of_le_length hi.le] using
          h i y (by rw [List.getElem?_append_left hi]; exact hy) hp
      by_cases hp : p x = true
      · have := h l.length x (by simp) hp
        simp only [List.take_left] at this
        simp only [List.countP_append, List.countP_singleton, hp, if_true]
        omega
      · simpa [List.countP_append, hp] using hinit
  · intro h i x hx hp
    obtain ⟨hi, rfl⟩ := List.getElem?_eq_some_iff.mp hx
    have hle : (l.take (i + 1)).countP p ≤ l.countP p := (List.take_sublist _ _).countP_le
    rw [List.take_succ_eq_append_getElem hi, List.countP_append, List.countP_singleton, if_pos hp] at hle
    omega

/-- BUS_LOAD passes exactly when no bus has more than 12 sites. -/
theorem busLoad_none_iff (sites : List Site) :
    (firstSite sites fun i x =>
        decide (Config.robotsPerBus ≤ (sites.take i).countP fun y => y.bus == x.bus)) = none ↔
      ∀ bus, sites.countP (fun x => x.bus == bus) ≤ 12 := by
  simp only [firstSite_none_iff, decide_eq_false_iff_not, Nat.not_le]
  constructor
  · intro h bus
    refine (countP_take_lt_iff _ 12 sites).mp fun i x hx hp => ?_
    have hbus : x.bus = bus := by simpa using hp
    exact hbus ▸ h i x hx
  · intro h i x hx
    exact (countP_take_lt_iff _ 12 sites).mpr (h x.bus) i x hx (by simp)

/-- SERIAL passes exactly when no serial stands twice. -/
theorem serial_none_iff (sites : List Site) :
    (firstSite sites fun i x => (sites.take i).any fun y => y.serial == x.serial) = none ↔
      (sites.map (·.serial)).Nodup := by
  rw [List.Nodup, List.pairwise_map, List.pairwise_iff_getElem]
  simp only [firstSite_none_iff, List.any_eq_false, beq_iff_eq]
  constructor
  · intro h i j hi hj hij
    exact h j _ (List.getElem?_eq_getElem hj) _
      (List.mem_take_iff_getElem.mpr ⟨i, by omega, rfl⟩)
  · intro h j x hx y hy
    obtain ⟨hj, rfl⟩ := List.getElem?_eq_some_iff.mp hx
    obtain ⟨i, hi, rfl⟩ := List.mem_take_iff_getElem.mp hy
    exact h i j (by omega) hj (by omega)

/-! ### All checks of MAP_END (R11) -/

/-- A staging with every index written passes exactly when each of checks 2 to 9 finds nothing. -/
theorem Staging.fault_written_iff (sector : Nat) (neighbours : List Nat) (sites : List Site) :
    (Staging.mk sector neighbours (sites.map some)).fault = none ↔
      ∀ c ∈ siteChecks neighbours sites, c.2 = none := by
  have hidx : (sites.map some).findIdx? Option.isNone = none := by
    simp [List.findIdx?_eq_none_iff]
  have hall : (sites.map some).filterMap id = sites := by simp
  simp only [Staging.fault, hidx, hall, List.findSome?_eq_none_iff, Option.map_eq_none_iff]

/-- A staging with an unwritten index names the lowest one. -/
theorem Staging.fault_missing {st : Staging} (h : none ∈ st.sites) :
    ∃ i : Nat, st.fault = some (.missing, i, none) ∧ st.sites[i]? = some none ∧
      ∀ j : Nat, j < i → st.sites[j]? ≠ some none := by
  cases hidx : st.sites.findIdx? Option.isNone with
  | none => simpa using List.findIdx?_eq_none_iff.mp hidx none h
  | some i =>
    obtain ⟨hi, hnone, hbelow⟩ := List.findIdx?_eq_some_iff_getElem.mp hidx
    refine ⟨i, by simp [Staging.fault, hidx], ?_, fun j hj hx => ?_⟩
    · rw [List.getElem?_eq_getElem hi, Option.isNone_iff_eq_none.mp hnone]
    · obtain ⟨hjl, hjx⟩ := List.getElem?_eq_some_iff.mp hx
      simpa [hjx] using hbelow j hj

/-- Settles O11: each check is given its meaning by a lemma of its own, and the conditions of one site are
then put together. -/
theorem mapValidationMeansTheNineChecks : Obligations.MapValidationMeansTheNineChecks := by
  refine ⟨siteFieldBad_none_iff, fun sector neighbours sites h6 => ⟨?_, fun st => Staging.fault_missing⟩⟩
  have htop : Config.betaTop = 11520 := rfl
  rw [Staging.fault_written_iff, siteChecks_eq]
  simp only [List.forall_mem_cons, List.not_mem_nil, false_implies, implies_true, and_true,
    busLoad_none_iff, serial_none_iff]
  simp only [firstSite_none_iff, firstDirection_none_iff, decide_eq_false_iff_not, Nat.not_lt, htop,
    localTargetBad_false_iff, symmetryBad_false_iff, linkBad_false_iff]
  constructor
  · rintro ⟨haxis, hbeta, htarget, hrepeated, hsymmetry, hlink, hbus, hserial⟩
    refine ⟨fun i x hx => ⟨haxis i x hx, hbeta i x hx, fun d j hd hj => ?_, fun d e hd he => ?_,
      fun d link k hd => hlink i x hx d hd link k⟩, hbus, hserial⟩
    · exact ⟨(htarget i x hx d hd j hj).2, hsymmetry i x hx d hd j hj⟩
    · exact (repeatedBad_false_iff (h6 x (List.mem_of_getElem? hx)) hd).mp (hrepeated i x hx d hd) e he
  · rintro ⟨hsite, hbus, hserial⟩
    refine ⟨fun i x hx => ?_, fun i x hx => ?_, fun i x hx d hd j hj => ?_, fun i x hx d hd => ?_,
      fun i x hx d hd j hj => ?_, fun i x hx d hd link k hk => ?_, hbus, hserial⟩
    all_goals obtain ⟨haxis, hbeta, hlocal, hrep, hlink⟩ := hsite i x hx
    · exact haxis
    · exact hbeta
    · obtain ⟨hne, y, hy, -⟩ := hlocal d j hd hj
      exact ⟨(List.getElem?_eq_some_iff.mp hy).1, hne⟩
    · exact (repeatedBad_false_iff (h6 x (List.mem_of_getElem? hx)) hd).mpr fun e he => hrep d e hd he
    · obtain ⟨-, hback⟩ := hlocal d j hd hj
      exact hback
    · exact hlink d link k hd hk

end Sys2Proof.Machine
end

section
/-! The lenses derived from a map: how many there are (R4) and the order they stand in (R5). -/

namespace Sys2Proof.Machine

/-! ### Sums over two lists -/

/-- A double sum may be taken in either order. -/
theorem sum_map_comm {α β : Type} (K : List α) (L : List β) (f : α → β → Nat) :
    (K.map fun k => (L.map fun x => f k x).sum).sum = (L.map fun x => (K.map fun k => f k x).sum).sum := by
  simpa using Multiset.sum_map_sum_map (K : Multiset α) (L : Multiset β) (f := f)

theorem countP_eq_sum {α : Type} (p : α → Bool) (l : List α) :
    l.countP p = (l.map fun x => (p x).toNat).sum := by
  induction l with
  | nil => rfl
  | cons x l ih => cases hp : p x <;> simp [ih, hp, Nat.add_comm]

/-- Pairs counted by their first members are counted by their second. -/
theorem sum_countP_comm {α β : Type} (K : List α) (L : List β) (p : α → β → Bool) :
    (K.map fun k => L.countP (p k)).sum = (L.map fun x => K.countP (p · x)).sum := by
  simp only [countP_eq_sum]
  exact sum_map_comm K L fun k x => (p k x).toNat

/-- A sum over a list's members does not see their places. -/
theorem sum_zipIdx {α : Type} (l : List α) (f : α → Nat) :
    (l.zipIdx.map fun x => f x.1).sum = (l.map f).sum := by
  calc (l.zipIdx.map fun x => f x.1).sum
      = ((l.zipIdx.map Prod.fst).map f).sum := by rw [List.map_map]; rfl
    _ = (l.map f).sum := by rw [List.zipIdx_map_fst]

/-- A list's members counted by their places. -/
theorem countP_range_getElem? {α : Type} (p : α → Bool) (l : List α) :
    (List.range l.length).countP (fun i => l[i]?.any p) = l.countP p := by
  have hplaces : (List.range l.length).map (fun i => l[i]?) = l.map some :=
    List.ext_getElem (by simp) (by simp)
  calc (List.range l.length).countP (fun i => l[i]?.any p)
      = ((List.range l.length).map fun i => l[i]?).countP (Option.any p) := by
        rw [List.countP_map]; rfl
    _ = l.countP p := by rw [hplaces, List.countP_map]; rfl

/-! ### The kinds of a neighbour entry (R2) -/

/-- A LOCAL entry. -/
def Neighbour.isLocal : Neighbour → Bool
  | .site _ => true
  | .vacant => false
  | .border _ _ => false

/-- A BORDER entry. -/
def Neighbour.isBorder : Neighbour → Bool
  | .border _ _ => true
  | .vacant => false
  | .site _ => false

/-- A BORDER entry on a link. -/
def Neighbour.isOn (link : Nat) : Neighbour → Bool
  | .border n _ => n == link
  | .vacant => false
  | .site _ => false

/-- The site a LOCAL entry names. -/
def Neighbour.index : Neighbour → Nat
  | .site j => j
  | .vacant => 0
  | .border _ _ => 0

theorem Neighbour.isLocal_iff (n : Neighbour) : n.isLocal = true ↔ n = .site n.index := by
  cases n <;> simp [Neighbour.isLocal, Neighbour.index]

/-- R4's count by the kinds of the entries. -/
theorem lensCountOf_eq (sites : List Site) :
    lensCountOf sites = (sites.map fun x => x.neighbours.countP Neighbour.isLocal).sum / 2 +
      (sites.map fun x => x.neighbours.countP Neighbour.isBorder).sum := by
  have hw := List.countP_flatMap (p := Neighbour.isLocal) (l := sites) (f := Site.neighbours)
  have hb := List.countP_flatMap (p := Neighbour.isBorder) (l := sites) (f := Site.neighbours)
  exact congrArg₂ (fun a b => a / 2 + b) hw hb

/-- The entries of a site with six of them, by direction. -/
theorem Site.countP_neighbours {x : Site} (h6 : x.neighbours.length = 6) (p : Neighbour → Bool) :
    x.neighbours.countP p = (List.range 6).countP fun d => p (x.toward d) := by
  have hentries : x.neighbours = (List.range 6).map x.toward :=
    List.ext_getElem (by simp [h6]) fun d hd _ => by simp [Site.toward, hd]
  conv_lhs => rw [hentries]
  rw [List.countP_map]
  rfl

/-! ### The number of derived lenses (R4) -/

theorem baseLens_isSome (i : Nat) (x : Site) (d : Nat) :
    (baseLens i x d).isSome = (x.toward d).isLocal := by
  unfold baseLens Site.toward
  cases x.neighbours.getD d .vacant <;> rfl

theorem entryLens_isSome (m : PlateMap) (link i : Nat) (x : Site) (d : Nat) :
    (entryLens m link i x d).isSome = (x.toward d).isOn link := by
  unfold entryLens Site.toward
  cases x.neighbours.getD d .vacant with
  | border n k => by_cases h : n = link <;> simp [Neighbour.isOn, h]
  | _ => rfl

theorem insertLens_perm (x : DerivedLens) (l : List DerivedLens) : (insertLens x l).Perm (x :: l) := by
  induction l with
  | nil => exact .refl _
  | cons y rest ih =>
    unfold insertLens
    split
    · exact .refl _
    · exact (ih.cons y).trans (.swap x y rest)

/-- Ordering a link's lenses keeps their number. -/
theorem foldr_insertLens_length (l : List DerivedLens) : (l.foldr insertLens []).length = l.length := by
  induction l with
  | nil => rfl
  | cons x rest ih => simp [(insertLens_perm x _).length_eq, ih]

/-- A map has a LOCAL lens for each LOCAL entry in directions 0 to 2. -/
theorem PlateMap.localLenses_length (m : PlateMap) :
    m.localLenses.length =
      (m.sites.map fun x => [0, 1, 2].countP fun d => (x.toward d).isLocal).sum := by
  simp only [PlateMap.localLenses, List.length_flatMap, List.length_filterMap_eq_countP,
    baseLens_isSome]
  exact sum_zipIdx m.sites fun x => [0, 1, 2].countP fun d => (x.toward d).isLocal

/-- A link has a lens for each BORDER entry on it. -/
theorem PlateMap.borderLenses_length (m : PlateMap) (link : Nat) :
    (m.borderLenses link).length =
      (m.sites.map fun x => (List.range 6).countP fun d => (x.toward d).isOn link).sum := by
  simp only [PlateMap.borderLenses, foldr_insertLens_length, List.length_flatMap,
    List.length_filterMap_eq_countP, entryLens_isSome]
  exact sum_zipIdx m.sites fun x => (List.range 6).countP fun d => (x.toward d).isOn link

/-- A BORDER entry on one of the six links is on exactly one of them. -/
theorem Neighbour.countP_isOn {n : Neighbour} (h : ∀ link k, n = .border link k → link < 6) :
    (List.range 6).countP (fun link => n.isOn link) = n.isBorder.toNat := by
  cases n with
  | border link k =>
    have hlt : link < 6 := h link k rfl
    have hcount : (List.range 6).count link = 1 :=
      List.count_eq_one_of_mem List.nodup_range (List.mem_range.mpr hlt)
    simpa [Neighbour.isOn, Neighbour.isBorder, List.count, BEq.comm (a := link)] using hcount
  | _ => rfl

/-- The border lenses of all links are as many as the BORDER entries (R4). -/
theorem PlateMap.borderLenses_total {m : PlateMap} (h6 : ∀ x ∈ m.sites, x.neighbours.length = 6)
    (hlink : ∀ x ∈ m.sites, ∀ n ∈ x.neighbours, ∀ link k, n = .border link k → link < 6) :
    ((List.range 6).map fun link => (m.borderLenses link).length).sum =
      (m.sites.map fun x => x.neighbours.countP Neighbour.isBorder).sum := by
  simp only [PlateMap.borderLenses_length]
  rw [sum_map_comm]
  refine congrArg List.sum (List.map_congr_left fun x hx => ?_)
  rw [sum_countP_comm, Site.countP_neighbours (h6 x hx), countP_eq_sum]
  refine congrArg List.sum (List.map_congr_left fun d hd => Neighbour.countP_isOn fun link k e => ?_)
  have hd6 : d < x.neighbours.length := h6 x hx ▸ List.mem_range.mp hd
  rw [Site.toward, List.getD_eq_getElem _ _ hd6] at e
  exact hlink x hx _ (List.getElem_mem hd6) link k e

/-! ### LOCAL entries come in opposite pairs (R4, R11) -/

/-- Each LOCAL entry names a site whose entry in the opposite direction names it (R11, SYMMETRY). -/
def Symmetric (sites : List Site) : Prop :=
  ∀ (i : Nat) (x : Site), sites[i]? = some x → ∀ d, d < 6 → ∀ j, x.toward d = .site j →
    ∃ y, sites[j]? = some y ∧ y.toward ((d + 3) % 6) = .site i

/-- The number of sites with a LOCAL entry in a direction. -/
def localCount (sites : List Site) (d : Nat) : Nat := sites.countP fun x => (x.toward d).isLocal

/-- The places of the sites with a LOCAL entry in a direction. -/
def localPlaces (sites : List Site) (d : Nat) : List Nat :=
  (List.range sites.length).filter fun i => sites[i]?.any fun x => (x.toward d).isLocal

theorem localPlaces_length (sites : List Site) (d : Nat) :
    (localPlaces sites d).length = localCount sites d := by
  rw [localPlaces, ← List.countP_eq_length_filter, countP_range_getElem?]
  rfl

theorem mem_localPlaces {sites : List Site} {d i : Nat} :
    i ∈ localPlaces sites d ↔ ∃ x j, sites[i]? = some x ∧ x.toward d = .site j := by
  simp only [localPlaces, List.mem_filter, List.mem_range, Option.any_eq_true]
  constructor
  · rintro ⟨-, x, hx, hlocal⟩
    exact ⟨x, _, hx, (Neighbour.isLocal_iff _).mp hlocal⟩
  · rintro ⟨x, j, hx, hj⟩
    exact ⟨(List.getElem?_eq_some_iff.mp hx).1, x, hx, by rw [hj]; rfl⟩

/-- The site that the entry of site `i` in direction `d` names. -/
def neighbourAt (sites : List Site) (d i : Nat) : Nat :=
  ((sites[i]?).map fun x => (x.toward d).index).getD 0

theorem neighbourAt_eq {sites : List Site} {d i j : Nat} {x : Site} (hx : sites[i]? = some x)
    (hj : x.toward d = .site j) : neighbourAt sites d i = j := by
  simp [neighbourAt, hx, hj, Neighbour.index]

/-- The entries of a direction are no more than those of the opposite one: the sites they name are
different, and each has an entry there. -/
theorem localCount_le_opposite {sites : List Site} (hs : Symmetric sites) {d : Nat} (hd : d < 6) :
    localCount sites d ≤ localCount sites ((d + 3) % 6) := by
  have hinj : ((localPlaces sites d).map (neighbourAt sites d)).Nodup := by
    refine List.Nodup.map_on (fun i hi k hk e => ?_) (List.nodup_range.filter _)
    obtain ⟨x, j, hx, hj⟩ := mem_localPlaces.mp hi
    obtain ⟨x', j', hx', hj'⟩ := mem_localPlaces.mp hk
    rw [neighbourAt_eq hx hj, neighbourAt_eq hx' hj'] at e
    subst e
    obtain ⟨y, hy, hyi⟩ := hs i x hx d hd j hj
    obtain ⟨y', hy', hyk⟩ := hs k x' hx' d hd j hj'
    rw [hy] at hy'
    cases hy'
    exact Neighbour.site.inj (hyi.symm.trans hyk)
  have hsub : (localPlaces sites d).map (neighbourAt sites d) ⊆ localPlaces sites ((d + 3) % 6) := by
    intro j hj
    obtain ⟨i, hi, rfl⟩ := List.mem_map.mp hj
    obtain ⟨x, j, hx, hxj⟩ := mem_localPlaces.mp hi
    obtain ⟨y, hy, hyi⟩ := hs i x hx d hd j hxj
    exact mem_localPlaces.mpr ⟨y, i, neighbourAt_eq hx hxj ▸ hy, hyi⟩
  simpa [localPlaces_length] using (List.subperm_of_subset hinj hsub).length_le

/-- Opposite directions have equally many LOCAL entries. -/
theorem localCount_opposite {sites : List Site} (hs : Symmetric sites) {d : Nat} (hd : d < 3) :
    localCount sites (d + 3) = localCount sites d := by
  have h1 := localCount_le_opposite hs (show d < 6 by omega)
  have h2 := localCount_le_opposite hs (show d + 3 < 6 by omega)
  rw [show (d + 3) % 6 = d + 3 by omega] at h1
  rw [show (d + 3 + 3) % 6 = d by omega] at h2
  omega

/-- The LOCAL lenses are half as many as the LOCAL entries (R4). -/
theorem PlateMap.localLenses_half {m : PlateMap} (hs : Symmetric m.sites)
    (h6 : ∀ x ∈ m.sites, x.neighbours.length = 6) :
    m.localLenses.length = (m.sites.map fun x => x.neighbours.countP Neighbour.isLocal).sum / 2 := by
  have hall : (m.sites.map fun x => x.neighbours.countP Neighbour.isLocal).sum =
      ((List.range 6).map (localCount m.sites)).sum := by
    rw [List.map_congr_left fun x hx => Site.countP_neighbours (h6 x hx) Neighbour.isLocal]
    exact sum_countP_comm m.sites (List.range 6) fun x d => (x.toward d).isLocal
  have hlow : m.localLenses.length = ([0, 1, 2].map (localCount m.sites)).sum := by
    rw [PlateMap.localLenses_length]
    exact sum_countP_comm m.sites [0, 1, 2] fun x d => (x.toward d).isLocal
  have h3 := localCount_opposite hs (show 0 < 3 by omega)
  have h4 := localCount_opposite hs (show 1 < 3 by omega)
  have h5 := localCount_opposite hs (show 2 < 3 by omega)
  rw [hall, hlow, show List.range 6 = [0, 1, 2, 3, 4, 5] from rfl]
  simp only [List.map_cons, List.map_nil, List.sum_cons, List.sum_nil, Nat.zero_add, Nat.reduceAdd]
    at h3 h4 h5 ⊢
  omega

/-- A list with no absent member is that of its present ones. -/
theorem map_some_filterMap {α : Type} {l : List (Option α)} (h : ∀ x ∈ l, x.isNone = false) :
    l = (l.filterMap id).map some := by
  induction l with
  | nil => rfl
  | cons x l ih =>
    obtain ⟨hx, hl⟩ := List.forall_mem_cons.mp h
    cases x with
    | none => cases hx
    | some y => exact congrArg (some y :: ·) (ih hl)

/-- A staging that passes its checks has every index written (R11). -/
theorem Staging.fault_none_written {st : Staging} (h : st.fault = none) :
    st.sites = st.map.sites.map some := by
  cases hidx : st.sites.findIdx? Option.isNone with
  | none => exact map_some_filterMap (List.findIdx?_eq_none_iff.mp hidx)
  | some i => simp [Staging.fault, hidx] at h

/-- The LOCAL entries of a staging that passes its checks pair off (R11). -/
theorem Staging.fault_none_symmetric {st : Staging} (h : st.fault = none) :
    Symmetric st.map.sites := by
  have hst : st = Staging.mk st.sector st.neighbours (st.map.sites.map some) :=
    congrArg (Staging.mk st.sector st.neighbours) (Staging.fault_none_written h)
  rw [hst, Staging.fault_written_iff, siteChecks_eq] at h
  have hsym : firstDirection st.map.sites (symmetryBad st.map.sites) = none :=
    h (.symmetry, firstDirection st.map.sites (symmetryBad st.map.sites))
      (by simp only [List.mem_cons, true_or, or_true])
  exact fun i x hx d hd => symmetryBad_false_iff.mp (firstDirection_none_iff.mp hsym i x hx d hd)

/-- A map that passes its checks derives the lenses R4 counts. -/
theorem Staging.derive_length {st : Staging} (h : st.fault = none)
    (h6 : ∀ x ∈ st.map.sites, x.neighbours.length = 6)
    (hlink : ∀ x ∈ st.map.sites, ∀ n ∈ x.neighbours, ∀ link k, n = .border link k → link < 6) :
    st.map.derive.length = lensCountOf st.map.sites := by
  rw [lensCountOf_eq, ← PlateMap.localLenses_half (Staging.fault_none_symmetric h) h6,
    ← PlateMap.borderLenses_total h6 hlink, PlateMap.derive, List.length_append, List.length_flatMap]

/-! ### The order of the derived lenses (R5) -/

/-- A LOCAL lens lies first in its base site's direction. -/
theorem baseLens_owner {i d : Nat} {x : Site} {y : DerivedLens} (h : baseLens i x d = some y) :
    y.owners.head? = some (i, d) := by
  unfold baseLens at h
  cases hn : x.neighbours.getD d .vacant with
  | site j =>
    rw [hn] at h
    cases h
    rfl
  | vacant => rw [hn] at h; cases h
  | border n k => rw [hn] at h; cases h

/-- A list's members stand with rising places. -/
theorem zipIdx_pairwise {α : Type} (l : List α) : l.zipIdx.Pairwise fun a b => a.2 < b.2 := by
  rw [← List.pairwise_map (f := Prod.snd) (R := (· < ·)), List.zipIdx_map_snd]
  exact List.pairwise_lt_range'

/-- The LOCAL lenses stand by base site and then direction (R5). -/
theorem PlateMap.localLenses_ordered (m : PlateMap) :
    m.localLenses.Pairwise fun x y => ∀ i d j e, x.owners.head? = some (i, d) →
      y.owners.head? = some (j, e) → i < j ∨ (i = j ∧ d < e) := by
  unfold PlateMap.localLenses
  refine List.pairwise_flatMap.mpr ⟨fun x _ => ?_, (zipIdx_pairwise m.sites).imp fun {x y} hlt => ?_⟩
  · refine List.pairwise_filterMap.mpr ?_
    refine List.Pairwise.imp (R := (· < ·)) (fun {d e} hde b hb c hc i d' j e' hi hj => ?_) (by decide)
    rw [baseLens_owner hb] at hi
    rw [baseLens_owner hc] at hj
    cases hi
    cases hj
    exact .inr ⟨rfl, hde⟩
  · intro b hb c hc i d j e hi hj
    obtain ⟨d', -, hb⟩ := List.mem_filterMap.mp hb
    obtain ⟨e', -, hc⟩ := List.mem_filterMap.mp hc
    rw [baseLens_owner hb] at hi
    rw [baseLens_owner hc] at hj
    cases hi
    cases hj
    exact .inl hlt

/-- The order of two lenses of one link: arbiter-side site, then client-side site (R5). -/
def DerivedLens.notAfter (x y : DerivedLens) : Prop :=
  x.lens.a.index < y.lens.a.index ∨
    (x.lens.a.index = y.lens.a.index ∧ x.lens.b.index ≤ y.lens.b.index)

theorem DerivedLens.notAfter_of_before {x y : DerivedLens} (h : x.before y = true) :
    x.notAfter y := by
  simp only [DerivedLens.before, Bool.or_eq_true, Bool.and_eq_true, decide_eq_true_eq, beq_iff_eq] at h
  unfold DerivedLens.notAfter
  omega

theorem DerivedLens.notAfter_of_not_before {x y : DerivedLens} (h : ¬ x.before y = true) :
    y.notAfter x := by
  simp only [DerivedLens.before, Bool.or_eq_true, Bool.and_eq_true, decide_eq_true_eq, beq_iff_eq] at h
  unfold DerivedLens.notAfter
  omega

theorem DerivedLens.notAfter_trans {x y z : DerivedLens} (h1 : x.notAfter y) (h2 : y.notAfter z) :
    x.notAfter z := by
  unfold DerivedLens.notAfter at *
  omega

/-- A lens that takes its place in an ordered list leaves it ordered. -/
theorem insertLens_ordered (x : DerivedLens) {l : List DerivedLens}
    (h : l.Pairwise DerivedLens.notAfter) : (insertLens x l).Pairwise DerivedLens.notAfter := by
  induction l with
  | nil => exact List.pairwise_singleton _ _
  | cons y rest ih =>
    obtain ⟨hy, hrest⟩ := List.pairwise_cons.mp h
    unfold insertLens
    split
    · rename_i hbefore
      have hxy := DerivedLens.notAfter_of_before hbefore
      refine List.pairwise_cons.mpr ⟨fun z hz => ?_, h⟩
      rcases List.mem_cons.mp hz with rfl | hz
      · exact hxy
      · exact DerivedLens.notAfter_trans hxy (hy z hz)
    · rename_i hbefore
      refine List.pairwise_cons.mpr ⟨fun z hz => ?_, ih hrest⟩
      rcases List.mem_cons.mp ((insertLens_perm x rest).mem_iff.mp hz) with rfl | hz
      · exact DerivedLens.notAfter_of_not_before hbefore
      · exact hy z hz

/-- The border lenses of a link stand in the order of R5. -/
theorem PlateMap.borderLenses_ordered (m : PlateMap) (link : Nat) :
    (m.borderLenses link).Pairwise DerivedLens.notAfter := by
  unfold PlateMap.borderLenses
  induction (m.sites.zipIdx.flatMap fun x =>
    (List.range 6).filterMap fun d => entryLens m link x.2 x.1 d) with
  | nil => exact .nil
  | cons x rest ih => exact insertLens_ordered x ih

/-- Settles O12: the count by opposite pairs of LOCAL entries, the order by that of the map's sites and by
insertion. -/
theorem derivedLensesAreCountedAndOrdered : Obligations.DerivedLensesAreCountedAndOrdered := by
  refine ⟨fun st hf hsites => Staging.derive_length hf (fun x hx => (hsites x hx).1)
    fun x hx => (hsites x hx).2, fun m => ⟨?_, ?_, m.borderLenses_ordered⟩⟩
  · rw [PlateMap.derive, List.map_append, List.map_flatMap, List.flatMap_def]
  · exact List.pairwise_map.mpr m.localLenses_ordered

end Sys2Proof.Machine
end

section
/-! MAP_END taken: the departures on the old lens table, the tables of the new map, and the links that enter
PROBING with its IDENT (R13, R133, R137, R145). -/

namespace Sys2Proof.Machine

/-! ### Members changed one by one -/

/-- Members changed at different places: each place named is changed once. -/
theorem foldl_modify_getElem? {α : Type} (f : Nat → α → α) {places : List Nat} (h : places.Nodup)
    (l : List α) (k : Nat) :
    (places.foldl (fun l n => l.modify n (f n)) l)[k]? =
      if k ∈ places then l[k]?.map (f k) else l[k]? := by
  induction places generalizing l with
  | nil => rfl
  | cons n rest ih =>
    obtain ⟨hn, hrest⟩ := List.nodup_cons.mp h
    rw [List.foldl_cons, ih hrest, List.getElem?_modify]
    by_cases hk : n = k
    · subst hk
      simp [hn]
    · simp [hk, Ne.symm hk]

/-! ### Departure from UP (R145) -/

/-- What a departure does to its link unit (R145). -/
def Link.departed (l : Link) : Link :=
  { l with transmit := [], drops := satInc Config.top8 l.drops, wasDown := true }

/-- `t` is `s` but for its lens and robot records. -/
def State.SameButRecords (s t : State) : Prop := t = { s with lenses := t.lenses, robots := t.robots }

theorem State.SameButRecords.trans {s t u : State} (h1 : s.SameButRecords t) (h2 : t.SameButRecords u) :
    s.SameButRecords u := by
  unfold State.SameButRecords at *
  rw [h2, h1]

theorem State.denyRobot_sameButRecords (s : State) (site : Nat) (reason : DenyReason) :
    s.SameButRecords (s.denyRobot site reason) := by
  unfold State.denyRobot
  split
  · rfl
  · split <;> rfl

theorem State.departLens_sameButRecords (s : State) (n i : Nat) :
    s.SameButRecords (s.departLens n i) := by
  unfold State.departLens
  split
  · rfl
  · split
    · split
      · split <;> rfl
      · split
        · refine State.SameButRecords.trans ?_ (State.denyRobot_sameButRecords _ _ _)
          rfl
        · rfl
    · rfl

theorem State.foldl_sameButRecords {α : Type} {f : State → α → State}
    (h : ∀ (s : State) (x : α), s.SameButRecords (f s x)) (l : List α) (s : State) :
    s.SameButRecords (l.foldl f s) := by
  induction l generalizing s with
  | nil => rfl
  | cons x l ih => exact (h s x).trans (ih (f s x))

/-- A departure changes its link unit, and otherwise lens and robot records alone (R145). -/
theorem State.depart_eq (s : State) (n : Nat) :
    s.depart n =
      { s with
        links := s.links.modify n Link.departed
        lenses := (s.depart n).lenses
        robots := (s.depart n).robots } :=
  State.foldl_sameButRecords (fun t i => State.departLens_sameButRecords t n i) _
    (s.modLink n Link.departed)

/-- Departures on several links. -/
theorem State.foldl_depart_eq (places : List Nat) (s : State) :
    places.foldl State.depart s =
      { s with
        links := places.foldl (fun l n => l.modify n Link.departed) s.links
        lenses := (places.foldl State.depart s).lenses
        robots := (places.foldl State.depart s).robots } := by
  induction places generalizing s with
  | nil => rfl
  | cons n rest ih =>
    rw [List.foldl_cons, ih, State.depart_eq]
    rfl

/-! ### Entry to PROBING (R137, R138) -/

/-- A link unit that enters PROBING (R137, R138). -/
def State.probed (s : State) (n : Nat) (l : Link) : Link :=
  { l with
    matchCount := 0, lastIdent := none, partnerAck := false, transmit := [s.identFrame n false]
    identAt := s.now, state := .probing, since := s.now, takenAt := s.now }

/-- The IDENT a part sends on a link is that of its map (R137). -/
theorem State.identFrame_congr {s t : State} (hm : t.map = s.map) (hd : t.digests = s.digests)
    (n : Nat) (ack : Bool) : t.identFrame n ack = s.identFrame n ack := by
  simp [State.identFrame, State.sectorNumber, State.neighbourNumber, State.digest, hm, hd]

/-- Entry to PROBING changes its link unit and the notice PEER_CHANGE alone. -/
theorem State.enterProbing_eq (s : State) (n : Nat) :
    s.enterProbing n =
      { s with
        links := s.links.modify n (s.probed n)
        notices := { s.notices with peerChange := (s.enterProbing n).notices.peerChange } } := by
  unfold State.enterProbing State.enterLink
  split
  · rename_i hn
    have hsame : s.links.modify n (s.probed n) = s.links :=
      List.modify_eq_self (List.getElem?_eq_none_iff.mp hn)
    rw [hsame]
  · simp only
    split <;> rfl

/-- Several links enter PROBING. -/
theorem State.foldl_enterProbing_eq (places : List Nat) (s : State) :
    places.foldl State.enterProbing s =
      { s with
        links := places.foldl (fun l n => l.modify n (s.probed n)) s.links
        notices := { s.notices with
          peerChange := (places.foldl State.enterProbing s).notices.peerChange } } := by
  induction places generalizing s with
  | nil => rfl
  | cons n rest ih =>
    have hprobed : (s.enterProbing n).probed = s.probed := by
      rw [State.enterProbing_eq]
      rfl
    rw [List.foldl_cons, ih, hprobed, State.enterProbing_eq]
    rfl

/-! ### Installation (R13) -/

/-- What the installation of a map does to the link units: the UP ones depart, the disputes of the old map
go, and each that is not DISABLED enters PROBING with the IDENT of `t`, the state with the new map. -/
def State.installedLinks (s t : State) : List Link :=
  s.enabledLinks.foldl (fun l n => l.modify n (t.probed n))
    ((s.upLinks.foldl (fun l n => l.modify n Link.departed) s.links).map fun l =>
      { l with lastDisputeCount := 0, lastDisputeLens := none })

/-- The installation of a map, part by part (R13). -/
theorem State.install_eq (s : State) (m : PlateMap) :
    s.install m =
      { s with
        map := some m, lenses := m.derive.map (·.lens), siteLens := m.siteLensMap
        digests := (List.range 6).map m.borderDigest
        robots := m.sites.map Robot.install
        targets := List.replicate m.sites.length none
        inquiry := .empty, posChanged := false, loader := none
        links := s.installedLinks (s.replaceMap m)
        buses := s.buses.map fun b => { b with census := .reset }
        notices := { s.notices with peerChange := (s.install m).notices.peerChange } } := by
  have hnew : (s.upLinks.foldl State.depart s).replaceMap m =
      { s.replaceMap m with
        links := (s.upLinks.foldl (fun l n => l.modify n Link.departed) s.links).map fun l =>
          { l with lastDisputeCount := 0, lastDisputeLens := none } } := by
    rw [State.foldl_depart_eq]
    rfl
  have hnotice : (s.enabledLinks.foldl State.enterProbing
      ((s.upLinks.foldl State.depart s).replaceMap m)).notices.peerChange =
      (s.install m).notices.peerChange := rfl
  calc s.install m
      = s.enabledLinks.foldl State.enterProbing ((s.upLinks.foldl State.depart s).replaceMap m) := rfl
    _ = _ := by rw [State.foldl_enterProbing_eq, hnotice, hnew]; rfl

/-- The places of the link units in a state that `p` picks. -/
theorem mem_linkPlaces {links : List Link} {p : Link → Bool} {n : Nat} :
    n ∈ (List.range links.length).filter (fun n => links[n]?.any p) ↔
      ∃ l, links[n]? = some l ∧ p l = true := by
  simp only [List.mem_filter, List.mem_range, Option.any_eq_true, and_iff_right_iff_imp]
  rintro ⟨l, hl, -⟩
  exact (List.getElem?_eq_some_iff.mp hl).1

/-- A link unit after the installation of a map (R13, R133, R145). -/
def Link.installed (l : Link) (t : State) (n : Nat) : Link :=
  let u := { (if l.state = .up then l.departed else l) with
    lastDisputeCount := 0, lastDisputeLens := none }
  if l.state = .disabled then u else t.probed n u

/-- A link unit keeps its error count (R133). -/
theorem Link.installed_errors (l : Link) (t : State) (n : Nat) : (l.installed t n).errors = l.errors := by
  unfold Link.installed
  by_cases hup : l.state = .up <;> by_cases hdis : l.state = .disabled <;>
    simp [State.probed, Link.departed, hup, hdis]

/-- A DISABLED link stays so. -/
theorem Link.installed_disabled (l : Link) (h : l.state = .disabled) (t : State) (n : Nat) :
    (l.installed t n).state = .disabled := by
  simp [Link.installed, h]

/-- Any other link is PROBING with the new IDENT queued alone (R13, R138). -/
theorem Link.installed_enabled (l : Link) (h : l.state ≠ .disabled) (t : State) (n : Nat) :
    (l.installed t n).state = .probing ∧ (l.installed t n).matchCount = 0 ∧
      (l.installed t n).lastIdent = none ∧ (l.installed t n).transmit = [t.identFrame n false] := by
  simp [Link.installed, State.probed, h]

/-- A link that leaves UP counts a drop (R145). -/
theorem Link.installed_up (l : Link) (h : l.state = .up) (t : State) (n : Nat) :
    (l.installed t n).wasDown = true ∧
      (l.installed t n).drops = if l.drops < 255 then l.drops + 1 else l.drops := by
  have htop : Config.top8 = 255 := rfl
  simp [Link.installed, State.probed, Link.departed, h, satInc, htop]

/-- The installation of a map acts on each link unit by the state it was in. -/
theorem State.installedLinks_getElem? {s : State} {n : Nat} {l : Link} (hl : s.links[n]? = some l)
    (t : State) : (s.installedLinks t)[n]? = some (l.installed t n) := by
  have hup : n ∈ s.upLinks ↔ l.state = .up := by
    simp only [State.upLinks, mem_linkPlaces, hl, Option.some.injEq, exists_eq_left', beq_iff_eq]
  have hen : n ∈ s.enabledLinks ↔ l.state ≠ .disabled := by
    simp only [State.enabledLinks, mem_linkPlaces, hl, Option.some.injEq, exists_eq_left', bne_iff_ne]
  have hups : s.upLinks.Nodup := List.nodup_range.filter _
  have hens : s.enabledLinks.Nodup := List.nodup_range.filter _
  rw [State.installedLinks, foldl_modify_getElem? t.probed hens, List.getElem?_map,
    foldl_modify_getElem? (fun _ => Link.departed) hups, hl]
  simp only [hup, hen, Link.installed]
  by_cases h1 : l.state = .up <;> by_cases h2 : l.state = .disabled <;> simp [h1, h2]

/-- MAP_END of a staging that passes its checks installs its map. -/
theorem endLoad_installs {t : State} {st : Staging} (hb : t.mapBarred = none)
    (hl : t.loader = some st) (hf : st.fault = none) (hc : lensCountOf st.map.sites ≤ 384) :
    endLoad t = okWith (t.install st.map) (.installed (t.install st.map).mapSummary) := by
  have hc' : ¬ Config.maxLenses < lensCountOf (st.sites.filterMap id) := Nat.not_lt.mpr hc
  simp only [endLoad, hb, hl, hf, if_neg hc']

/-- What an installation leaves of the engine's parts, and the other parts that it sets. -/
theorem State.install_engine (s : State) (m : PlateMap) :
    s.install m =
      { s.engine (s.install m) with
        map := some m, loader := none, siteLens := m.siteLensMap
        digests := (List.range 6).map m.borderDigest
        targets := List.replicate m.sites.length none } := by
  rw [State.install_eq]
  rfl

/-- The state after a MAP_END that its port takes and that passes every check. -/
def State.afterMapEnd (s : State) (r : Req) (st : Staging) : State :=
  ((s.takeRequest r.port r.tag 3).install st.map).respond r.port
    ⟨r.tag, 3, .ok, (s.port r.port).overrun,
      .installed ((s.takeRequest r.port r.tag 3).install st.map).mapSummary⟩

theorem exec_mapEnd {s : State} {r : Req} {st : Staging} (hr : sentTo .sequencer r)
    (hm : s.mode = .init) (hb : ∀ b ∈ s.buses, b.switch = .off) (hl : s.loader = some st)
    (hf : st.fault = none) (hc : lensCountOf st.map.sites ≤ 384) (ht : s.Takes r 3) :
    exec (.mapEnd r) s = .next (s.afterMapEnd r st) := by
  have hans := serve_sequencer s r 3 endLoad .ok _
    (fun _ => (s.takeRequest r.port r.tag 3).install st.map) hr
    (endLoad_installs (by simpa using State.mapBarred_none hm hb) (by simpa using hl) hf hc)
  exact congrArg _ (hans.trans (answered_takes s r 3 _ _ _ ht))

/-- Settles O13: the state after MAP_END is given part by part by `State.install_eq`, and its link units by
`State.installedLinks_getElem?`. -/
theorem mapEndInstallsTheStagedMap : Obligations.MapEndInstallsTheStagedMap := by
  intro s r st hr hm hb hl hf hc ht
  refine ⟨s.afterMapEnd r st, exec_mapEnd hr hm hb hl hf hc ht, ?_⟩
  obtain ⟨port, tag, fits⟩ := r
  obtain ⟨rfl, -⟩ := hr
  have hparts := State.install_eq (s.takeRequest .sequencer tag 3) st.map
  refine ⟨?answer, (congrArg State.lenses hparts :), (congrArg State.robots hparts :),
    (congrArg State.inquiry hparts :), (congrArg State.posChanged hparts :),
    (congrArg State.field hparts :), (congrArg State.timer hparts :),
    (congrArg State.outcomes hparts :), (congrArg State.overflow hparts :),
    (congrArg State.notices hparts :), (congrArg State.buses hparts :), fun n l hn => ?link⟩
  case answer =>
    rw [answered_takes _ _ _ _ _ _ ht]
    exact congrArg (fun u : State => u.respond .sequencer ⟨tag, 3, .ok, (s.port .sequencer).overrun,
      .installed ((s.takeRequest .sequencer tag 3).install st.map).mapSummary⟩)
      (State.install_engine (s.takeRequest .sequencer tag 3) st.map)
  case link =>
    have hlinks := congrArg State.links hparts
    have hframe : ((s.takeRequest .sequencer tag 3).replaceMap st.map).identFrame n false =
        (s.afterMapEnd ⟨.sequencer, tag, fits⟩ st).identFrame n false :=
      State.identFrame_congr (congrArg State.map hparts).symm (congrArg State.digests hparts).symm n false
    refine ⟨l.installed ((s.takeRequest .sequencer tag 3).replaceMap st.map) n,
      (congrArg (·[n]?) hlinks).trans (State.installedLinks_getElem? hn _), l.installed_errors _ n,
      fun h => l.installed_disabled h _ n, fun h => ?_, fun h => l.installed_up h _ n⟩
    rw [← hframe]
    exact l.installed_enabled h _ n

end Sys2Proof.Machine
end

section
/-! SUPPORT. The peer frames, the limits of time and the arbiter's choices act within their bounds (`Acts`). -/

namespace Sys2Proof.Machine

namespace Acts

theorem touch (s : State) (n : Nat) : Acts s (s.touch n) := linkSame s n _ fun _ => ⟨rfl, rfl, rfl⟩

theorem advanceRecv (s : State) (n : Nat) : Acts s (s.advanceRecv n) :=
  linkSame s n _ fun _ => ⟨rfl, rfl, rfl⟩

theorem summaryTaken (s : State) (n : Nat) : Acts s (s.summaryTaken n) :=
  linkSame s n _ fun _ => ⟨rfl, rfl, rfl⟩

theorem recordIdent (s : State) (n : Nat) (f : Ident) (acks : Bool) : Acts s (s.recordIdent n f acks) :=
  linkSame s n _ fun _ => ⟨rfl, rfl, rfl⟩

/-! ### IDENT -/

theorem probingIdent (s : State) (n : Nat) (f : Ident) : Acts s (s.probingIdent n f) := by
  unfold State.probingIdent
  split
  · exact .refl s
  · rename_i l _
    have h : Acts s ((s.recordIdent n f false).modLink n fun x =>
        { x with matchCount := l.matchAfter (s.identMatches n f) f }) :=
      (recordIdent s n f false).trans (linkSame _ n _ fun _ => ⟨rfl, rfl, rfl⟩)
    simp only
    split
    · exact h.trans (enterMatched _ n)
    · exact h

theorem matchedIdent (s : State) (n : Nat) (f : Ident) : Acts s (s.matchedIdent n f) := by
  have h := recordIdent s n f true
  unfold State.matchedIdent
  simp only
  split
  · exact h.trans (enterProbing _ n)
  · split
    · exact h.trans (enterSyncing _ n)
    · exact h

theorem syncingIdent (s : State) (n : Nat) (f : Ident) : Acts s (s.syncingIdent n f) := by
  have h := recordIdent s n f true
  unfold State.syncingIdent
  simp only
  split
  · exact h
  · exact h.trans (enterProbing _ n)

theorem takeIdent (s : State) (n : Nat) (f : Ident) : Acts s (s.takeIdent n f) := by
  unfold State.takeIdent
  split
  · exact .refl s
  · split
    · exact .refl s
    · exact probingIdent s n f
    · exact matchedIdent s n f
    · exact syncingIdent s n f
    · exact close ((takeDown s n).trans (probingIdent _ n f))
    · exact touch s n

/-! ### SUMMARY -/

theorem adoptLens {s : State} {i : Nat} {l : Lens} {d : Decided} (p : Party) (e : Option SummaryState)
    (hl : s.lenses[i]? = some l) (hb : l.body = .decided d) : Acts s (s.adoptLens i l d p e) := by
  have set {d' : Decided} (h : d.wf = true → d'.wf = true) : Acts s (s.setDecided i d') :=
    .decided s i d' fun hs => h (wf_of hs hl hb)
  unfold State.adoptLens
  split
  · split
    · exact set (Decided.wf_setKind _ _)
    · split
      · exact .refl s
      · split
        · exact set (Decided.wf_addPin _)
        · exact set (Decided.wf_occupyBy _)
  · split
    · exact holdingToPin s i l d p
    · exact set (Decided.wf_addPin _)
  · split
    · exact releaseDecided hl hb
    · split
      · exact set (Decided.wf_removePin _)
      · exact .refl s

theorem adoptPosition (entries : List SummaryEntry) (a : State × List Nat) (x : Nat × Nat) :
    Acts a.1 (Machine.adoptPosition entries a x).1 := by
  unfold Machine.adoptPosition
  split
  · exact .refl _
  · rename_i l hl
    split
    · rename_i p d _ hb
      exact adoptLens p _ hl hb
    · exact .refl _

/-- Actions in a row that also gather something. -/
theorem foldl_fst {α β : Type} {f : State × β → α → State × β} (h : ∀ a x, Acts a.1 (f a x).1)
    (l : List α) (a : State × β) : Acts a.1 (l.foldl f a).1 := by
  induction l generalizing a with
  | nil => exact .refl a.1
  | cons x l ih => exact (h a x).trans (ih (f a x))

theorem adopt (s : State) (n : Nat) (entries : List SummaryEntry) : Acts s (s.adopt n entries) := by
  have hfold := (summaryTaken s n).trans
    (foldl_fst (adoptPosition entries) (s.borderList n).zipIdx (s.summaryTaken n, []))
  unfold State.adopt
  simp only
  refine close ?_
  split
  · exact (hfold.trans (linkSame _ n _ fun _ => ⟨by rfl, by rfl, by rfl⟩)).trans (enterUp _ n)
  · exact (hfold.trans (linkSame _ n _ fun _ => ⟨by rfl, by rfl, by rfl⟩)).trans (enterFault _ n)

theorem comparePosition (n : Nat) (sent : List (Nat × SummaryState)) (s : State) (x : Nat × Nat) :
    Acts s (Machine.comparePosition n sent s x) := by
  unfold Machine.comparePosition
  split
  · exact .refl s
  · split
    · exact .refl s
    · split
      · exact .refl s
      · exact sendBorder s n _ _

theorem followSummary (s : State) (n : Nat) : Acts s (s.followSummary n) :=
  close (((summaryTaken s n).trans (enterUp _ n)).trans (foldl (comparePosition n _) _ _))

theorem syncSummary (s : State) (n : Nat) (entries : List SummaryEntry) :
    Acts s (s.syncSummary n entries) := by
  unfold State.syncSummary
  split
  · exact adopt s n entries
  · exact followSummary s n

theorem takeSummary (s : State) (h : PeerHeader) (count : Nat) (entries : List SummaryEntry) :
    Acts s (s.takeSummary h count entries) := by
  unfold State.takeSummary
  split
  · exact .refl s
  · split
    · exact .refl s
    · split
      · exact close (frameError s _)
      · split
        · simp only
          split
          · exact (enterSyncing s _).trans (syncSummary _ _ entries)
          · exact enterSyncing s _
        · exact syncSummary s _ entries
        · exact (touch s _).trans (advanceRecv _ _)
        · exact .refl s
        · exact touch s _
        · exact touch s _

/-! ### KEEPALIVE and border messages -/

theorem takeNumbered (s : State) (h : PeerHeader) (good : Bool) {act : State → State}
    (hact : ∀ t, Acts t (act t)) : Acts s (s.takeNumbered h good act) := by
  unfold State.takeNumbered
  split
  · exact .refl s
  · split
    · exact .refl s
    · split
      · exact close (frameError s _)
      · split
        · exact close (((touch s _).trans (advanceRecv _ _)).trans (hact _))
        · exact touch s _

theorem arbiterMessage (s : State) (h : PeerHeader) (n : LensName)
    {act : State → Nat → Lens → Decided → Party → State}
    (hact : ∀ (t : State) (i : Nat) (l : Lens) (d : Decided) (p : Party), t.lenses[i]? = some l →
      l.body = .decided d → Acts t (act t i l d p)) : Acts s (s.arbiterMessage h n act) := by
  refine takeNumbered s h _ fun t => ?_
  split
  · exact .refl t
  · split
    · exact .refl t
    · rename_i l hl
      split
      · rename_i p d _ hb
        exact hact t _ l d p hl hb
      · exact .refl t

theorem claimMessage {t : State} {i : Nat} {l : Lens} {d : Decided} (p : Party)
    (hl : t.lenses[i]? = some l) (hb : l.body = .decided d) :
    Acts t (Machine.claimMessage t i l d p) := by
  have h : Acts t (t.setDecided i (applyClaim d p (t.claimDecision i l d))) :=
    .decided t i _ fun hs => Decided.wf_applyClaim _ _ (wf_of hs hl hb)
  unfold Machine.claimMessage
  simp only
  split
  · exact sendBorder t _ i _
  · split
    · exact .refl t
    · split
      · exact h
      · exact h.trans (sendBorder _ _ i _)

theorem withdrawMessage {t : State} {i : Nat} {l : Lens} {d : Decided} (p : Party)
    (hl : t.lenses[i]? = some l) (hb : l.body = .decided d) :
    Acts t (Machine.withdrawMessage t i l d p) := by
  unfold Machine.withdrawMessage
  split
  · exact .decided t i _ fun hs => Decided.wf_dropWaiter (wf_of hs hl hb)
  · split
    · exact releaseDecided hl hb
    · exact .refl t

theorem releaseMessage {t : State} {i : Nat} {l : Lens} {d : Decided} (p : Party)
    (hl : t.lenses[i]? = some l) (hb : l.body = .decided d) :
    Acts t (Machine.releaseMessage t i l d p) := by
  unfold Machine.releaseMessage
  split
  · exact releaseDecided hl hb
  · split
    · exact .decided t i _ fun hs => Decided.wf_removePin _ (wf_of hs hl hb)
    · exact .refl t

theorem pinMessage {t : State} {i : Nat} {l : Lens} {d : Decided} (p : Party)
    (hl : t.lenses[i]? = some l) (hb : l.body = .decided d) : Acts t (Machine.pinMessage t i l d p) := by
  unfold Machine.pinMessage
  split
  · exact holdingToPin t i l d p
  · exact .decided t i _ fun hs => Decided.wf_addPin _ (wf_of hs hl hb)

theorem holdMessage {t : State} {i : Nat} {l : Lens} {d : Decided} (p : Party)
    (hl : t.lenses[i]? = some l) (hb : l.body = .decided d) :
    Acts t (Machine.holdMessage t i l d p) := by
  unfold Machine.holdMessage
  split
  · exact .decided t i _ fun hs => Decided.wf_setKind _ _ (wf_of hs hl hb)
  · split
    · exact takeDown t _
    · split
      · exact .decided t i _ fun hs => Decided.wf_occupyBy _ (wf_of hs hl hb)
      · exact .refl t

theorem clientMessage (s : State) (h : PeerHeader) (n : LensName)
    {act : State → Nat → Lens → Client → State}
    (hact : ∀ (t : State) (i : Nat) (l : Lens) (c : Client), Acts t (act t i l c)) :
    Acts s (s.clientMessage h n act) := by
  refine takeNumbered s h _ fun t => ?_
  split
  · exact .refl t
  · split
    · exact .refl t
    · split
      · exact hact t _ _ _
      · exact .refl t

theorem grantMessage (t : State) (i : Nat) (l : Lens) (c : Client) :
    Acts t (Machine.grantMessage t i l c) := by
  unfold Machine.grantMessage
  split
  · exact (Acts.client t i _).trans (tellGrant _ i _)
  · exact sendBorder t _ i _
  all_goals exact .refl t

theorem refuseMessage (reason : RefuseReason) (t : State) (i : Nat) (l : Lens) (c : Client) :
    Acts t (Machine.refuseMessage reason t i l c) := by
  unfold Machine.refuseMessage
  split
  · exact (Acts.client t i _).trans (denyRobot _ _ _)
  · exact .refl t

/-! ### The limits of time, the arbiter and the census -/

theorem cutSite (i : Nat) (s : State) : Acts s (s.cutSite i) := by
  unfold State.cutSite
  split
  · exact endAtRest s i _
  · exact .refl s

theorem timeoutWait (s : State) (site : Nat) : Acts s (s.timeoutWait site) := by
  unfold State.timeoutWait
  refine .trans ?_ (endAtRest _ site _)
  split
  · exact endWait s site _
  · exact .refl s

/-- A transaction that begins once its bus has been changed. -/
theorem modBus_beginTxn {s : State} {bus site : Nat} {f : Bus → Bus} {kind : TxnKind}
    (h : ∀ b : Bus, b.Shaped → (f b).Shaped) : Acts s ((s.modBus bus f).beginTxn bus kind site) :=
  (Acts.bus s bus f h).trans (beginTxn _ bus kind site)

theorem popQueue_shaped {b : Bus} (share : ShareRatio) (h : b.Shaped) : (b.popQueue share).Shaped := by
  unfold Bus.popQueue
  simp only
  split <;> exact h

theorem enterTarget (s : State) (site : Nat) (leg : Leg) : Acts s (s.enterTarget site leg) := by
  unfold State.enterTarget
  split
  · split
    · exact occupyTarget s site _
    · exact .refl s
  · exact .refl s

theorem dispatchLeg (s : State) (bus site : Nat) (r : Robot) (leg : Leg) :
    Acts s (s.dispatchLeg bus site r leg) :=
  close ((((Acts.bus s bus _ fun _ h => popQueue_shaped _ h).trans (.robot _ site _)).trans
    (enterTarget _ site leg)).trans (beginTxn _ bus _ site))

theorem countSlot_shaped {b : Bus} (slot : SlotJudgement) (h : b.Shaped) : (b.countSlot slot).Shaped := by
  unfold Bus.countSlot
  split
  · exact count_shaped _ h
  · exact h

end Acts

end Sys2Proof.Machine
end

section
/-! SUPPORT. The commands that are no requests act within their bounds (`Acts`): every one of them but the
full resets, the changes of the discrete inputs, the frames of the station ports and the current samples. -/

namespace Sys2Proof.Machine

/-- The command answers a next state that comes from `s` by such changes. -/
def ActsOut (s : State) (o : Host.Outcome State Fault Refusal) : Prop :=
  ∃ t, o = .next t ∧ Acts s t

namespace ActsOut

theorem next {s t : State} (h : Acts s t) : ActsOut s (.next t) := ⟨t, rfl, h⟩

/-- A command that changes nothing. -/
theorem same (s : State) : ActsOut s (.next s) := next (.refl s)

/-- The state that such a command leaves. -/
theorem acts {s t : State} {o : Host.Outcome State Fault Refusal} (h : ActsOut s o) (ht : o = .next t) :
    Acts s t := by
  obtain ⟨u, hu, hacts⟩ := h
  rw [ht] at hu
  cases hu
  exact hacts

/-! ### Peer frames and the link units in time -/

theorem ident (s : State) (n : Nat) (f : Ident) : ActsOut s (execIdent n f s) := next (.takeIdent s n f)

theorem summary (s : State) (h : PeerHeader) (count : Nat) (entries : List SummaryEntry) :
    ActsOut s (execSummary h count entries s) := next (.takeSummary s h count entries)

theorem summaryClient (s : State) (h : PeerHeader) (count : Nat) (entries : List SummaryEntry) :
    ActsOut s (execSummaryClient h count entries s) := next (.takeSummary s h count entries)

theorem keepalive (s : State) (h : PeerHeader) : ActsOut s (execKeepalive h s) :=
  next (.takeNumbered s h true .refl)

theorem claim (s : State) (h : PeerHeader) (n : LensName) : ActsOut s (execClaim h n s) :=
  next (.arbiterMessage s h n fun _ _ _ _ p => .claimMessage p)

theorem withdraw (s : State) (h : PeerHeader) (n : LensName) : ActsOut s (execWithdraw h n s) :=
  next (.arbiterMessage s h n fun _ _ _ _ p => .withdrawMessage p)

theorem release (s : State) (h : PeerHeader) (n : LensName) : ActsOut s (execRelease h n s) :=
  next (.arbiterMessage s h n fun _ _ _ _ p => .releaseMessage p)

theorem pin (s : State) (h : PeerHeader) (n : LensName) : ActsOut s (execPin h n s) :=
  next (.arbiterMessage s h n fun _ _ _ _ p => .pinMessage p)

theorem hold (s : State) (h : PeerHeader) (n : LensName) : ActsOut s (execHold h n s) :=
  next (.arbiterMessage s h n fun _ _ _ _ p => .holdMessage p)

theorem grant (s : State) (h : PeerHeader) (n : LensName) : ActsOut s (execGrant h n s) :=
  next (.clientMessage s h n .grantMessage)

theorem refuse (s : State) (h : PeerHeader) (n : LensName) (reason : RefuseReason) :
    ActsOut s (execRefuse h n reason s) := next (.clientMessage s h n (.refuseMessage reason))

theorem peerFrameError (s : State) (n : Nat) : ActsOut s (execPeerFrameError n s) :=
  next (.close (.frameError s n))

theorem identSend (s : State) (n : Nat) : ActsOut s (execIdentSend n s) := by
  unfold execIdentSend
  split
  · exact next (.sendIdent s n _)
  · split
    · exact next (.sendIdent s n _)
    · exact same s

theorem keepaliveSend (s : State) (n : Nat) : ActsOut s (execKeepaliveSend n s) := by
  unfold execKeepaliveSend
  split
  · exact next (.close (.sendNumbered s n _))
  · exact same s

theorem silenceLimit (s : State) (n : Nat) : ActsOut s (execSilenceLimit n s) := by
  unfold execSilenceLimit
  split
  · exact next (.close (.takeDown s n))
  · exact same s

theorem matchedTimeout (s : State) (n : Nat) : ActsOut s (execMatchedTimeout n s) := by
  unfold execMatchedTimeout
  split
  · exact next (.enterProbing s n)
  · exact same s

theorem syncingTimeout (s : State) (n : Nat) : ActsOut s (execSyncingTimeout n s) := by
  unfold execSyncingTimeout
  split
  · exact next (.enterProbing s n)
  · exact same s

theorem peerFrameSent (s : State) (n : Nat) : ActsOut s (execPeerFrameSent n s) := by
  refine next (.link s n _ fun l _ ⟨ht, he, hd⟩ => ?_)
  split
  · exact ⟨ht, he, hd⟩
  · exact ⟨by rw [List.length_tail]; omega, he, hd⟩

/-! ### The limits of time on fields and moves -/

theorem deadlineExpiry (s : State) : ActsOut s (execDeadlineExpiry s) := by
  unfold execDeadlineExpiry
  split
  · have h : Acts s s.expireTimer :=
      .rest s s.outcomes s.overflow { s.field with deadlinePassed := true } s.timer.expire
        { s.notices with deadline := true } s.inquiry s.posChanged
    split
    · exact next h
    · refine next ((h.trans ?_).trans (.sweep _ _ Acts.cutSite))
      exact .rest _ _ _ _ _ _ _ _
  · exact same s

theorem waitDeadlinePasses (s : State) (site : Nat) : ActsOut s (execWaitDeadlinePasses site s) := by
  unfold execWaitDeadlinePasses
  split
  · exact next (.close (.timeoutWait s site))
  · exact same s

theorem legTimeout (s : State) (site : Nat) : ActsOut s (execLegTimeout site s) := by
  unfold execLegTimeout
  split
  · exact next ((Acts.queueHalt s site).trans (.enterHalting _ site _))
  · exact same s

theorem haltTimeLimit (s : State) (site : Nat) : ActsOut s (execHaltTimeLimit site s) := by
  unfold execHaltTimeLimit
  split
  · exact next (.close ((Acts.lose s site _).trans (.queueHalt _ site)))
  · exact same s

/-! ### The arbiter's places and the robots' replies -/

theorem haltBroadcast (s : State) (bus : Nat) : ActsOut s (execHaltBroadcast bus s) := by
  refine next (.bus s bus _ fun b h => ?_)
  split
  · exact Acts.send_shaped _ (b := { b with haltBroadcast := false }) h
  · exact h

theorem haltAddressed (s : State) (bus : Nat) : ActsOut s (execHaltAddressed bus s) := by
  unfold execHaltAddressed
  split
  · exact same s
  · split
    · exact same s
    · split
      · exact next (.modBus_beginTxn fun _ h => h)
      · exact same s

theorem legDispatch (s : State) (bus : Nat) : ActsOut s (execLegDispatch bus s) := by
  unfold execLegDispatch
  split
  · exact same s
  · split
    · split
      · exact same s
      · split
        · exact same s
        · split
          · exact same s
          · exact next (.dispatchLeg s bus _ _ _)
    · exact same s

theorem poll (s : State) (bus : Nat) : ActsOut s (execPoll bus s) := by
  unfold execPoll
  split
  · exact same s
  · split
    · split
      · exact same s
      · exact next ((Acts.robot s _ _).trans (.modBus_beginTxn fun _ h => h))
    · exact same s

theorem setCounts (s : State) (bus : Nat) : ActsOut s (execSetCounts bus s) := by
  unfold execSetCounts
  split
  · exact same s
  · split
    · split
      · exact next (.modBus_beginTxn fun _ h => h)
      · exact same s
    · exact same s
    · exact same s

theorem inquireTransaction (s : State) (bus : Nat) : ActsOut s (execInquireTransaction bus s) := by
  unfold execInquireTransaction
  split
  · exact same s
  · split
    · split
      · exact next (.modBus_beginTxn fun _ h => h)
      · exact same s
    · exact same s
    · exact same s

theorem keepalivePoll (s : State) (bus : Nat) : ActsOut s (execKeepalivePoll bus s) := by
  unfold execKeepalivePoll
  split
  · exact same s
  · split
    · split
      · exact same s
      · exact next (.modBus_beginTxn fun _ h => h)
    · exact same s

theorem robotReplyGood (s : State) (bus : Nat) (reply : BusReply) :
    ActsOut s (execRobotReplyGood bus reply s) := by
  unfold execRobotReplyGood
  split
  · exact same s
  · exact next (.close (.goodReply s bus _ reply))

theorem robotReplyMissing (s : State) (bus : Nat) : ActsOut s (execRobotReplyMissing bus s) := by
  unfold execRobotReplyMissing
  split
  · exact same s
  · exact next (.close ((Acts.bus s bus _ fun _ h => Acts.count_shaped _ h).trans
      (.attemptFailed _ bus _)))

theorem robotReplyCheckError (s : State) (bus : Nat) : ActsOut s (execRobotReplyCheckError bus s) := by
  unfold execRobotReplyCheckError
  split
  · exact same s
  · exact next (.close (.checkError s bus _))

/-! ### The supply monitor and the census -/

theorem jabber (s : State) (bus : Nat) : ActsOut s (execJabber bus s) := by
  unfold execJabber
  split
  · exact next (.trip s bus _)
  · exact same s

theorem blankingEnd (s : State) (bus : Nat) : ActsOut s (execBlankingEnd bus s) := by
  refine next (.bus s bus _ fun b h => ?_)
  split <;> exact h

theorem rollcall (s : State) (bus : Nat) : ActsOut s (execRollcall bus s) := by
  refine next (.bus s bus _ fun b h => ?_)
  split
  · exact Acts.send_shaped _ (b := { b with census := _, round := some [] }) h
  · exact h

theorem rollcallSlotEnd (s : State) (bus : Nat) (slot : SlotJudgement) :
    ActsOut s (execRollcallSlotEnd bus slot s) := by
  unfold execRollcallSlotEnd
  split
  · exact same s
  · split
    · exact same s
    · rename_i slots _
      have h : Acts s (s.modBus bus fun x =>
          { x.countSlot slot with round := some (slots ++ [slot]) }) :=
        .bus s bus _ fun _ h => Acts.countSlot_shaped slot h
      simp only
      split
      · exact next h
      · exact next (h.trans (.finishRound _ bus _))

end ActsOut

end Sys2Proof.Machine
end

section
/-! SUPPORT. The requests whose owning rule acts within its bounds (`Acts`): all but those that change the
map, the mode, the parameters, the targets, the enable map or a station port. -/

namespace Sys2Proof.Machine

/-- A request that is served by a rule that acts so on whatever state it is taken in. -/
def ActsServed (s : State) (o : Host.Outcome State Fault Refusal) : Prop :=
  ∃ r code rights act, o = .next (s.serve r code rights act) ∧ ∀ t, Acts t (act t).state

theorem ActsServed.intro {s : State} {r : Req} {code : Byte} {rights : Rights} {act : State → Answer}
    (h : ∀ t, Acts t (act t).state) : ActsServed s (.next (s.serve r code rights act)) :=
  ⟨r, code, rights, act, rfl, h⟩

namespace Acts

/-! ### Robots and moves -/

theorem atSite (t : State) (site : Nat) {f : Site → Robot → State → Answer}
    (h : ∀ x rob u, Acts u (f x rob u).state) : Acts t (Machine.atSite t site f).state := by
  unfold Machine.atSite
  split
  · exact .refl t
  · split
    · exact h _ _ t
    · exact .refl t

theorem moveToAnswer (site : Nat) (q : Pos) (x : Site) (rob : Robot) (t : State) :
    Acts t (Machine.moveToAnswer site q x rob t).state := by
  unfold Machine.moveToAnswer
  split
  · exact .refl t
  · split
    · exact .refl t
    · exact admitMove t site _ x _ q _

theorem parkAnswer (site : Nat) (x : Site) (rob : Robot) (t : State) :
    Acts t (Machine.parkAnswer site x rob t).state := by
  unfold Machine.parkAnswer
  split
  · exact .refl t
  · exact admitMove t site _ x _ _ _

theorem homeAnswer (site : Nat) (rob : Robot) (t : State) :
    Acts t (Machine.homeAnswer site rob t).state := by
  unfold Machine.homeAnswer
  split
  · exact .refl t
  · exact (Acts.robot t site _).trans (startMove _ site _)

theorem readOutcomes (count : Nat) (t : State) : Acts t (Machine.readOutcomes count t).state := by
  have clear (u : State) : Acts u u.clearOverflow :=
    .rest u u.outcomes false u.field u.timer { u.notices with outcomeOverflow := false } u.inquiry
      u.posChanged
  have drop : Acts t { t with outcomes := t.outcomes.drop count } :=
    .rest t _ t.overflow t.field t.timer t.notices t.inquiry t.posChanged
  unfold Machine.readOutcomes
  split
  · exact .refl t
  · split
    · exact clear t
    · simp only [okWith]
      split
      · exact drop.trans (clear _)
      · exact drop

/-- The counts of a field record are its own. -/
theorem field (t : State) (f : FieldRecord) : Acts t { t with field := f } :=
  .rest t t.outcomes t.overflow f t.timer t.notices t.inquiry t.posChanged

theorem configureSite (i : Nat) (t : State) : Acts t (Machine.configureSite i t).1 := by
  have skip : Acts t t.countNotAttempted := field t _
  unfold Machine.configureSite
  split
  · split
    · exact skip
    · split
      · exact skip
      · split
        · exact field t _
        · split
          · exact skip
          · exact (field t _).trans (admitMove t.countAdmitted i _ _ _ _ _)
  · exact skip

theorem configureSites (t : State) : Acts t (Machine.configureSites t).1 := by
  refine foldl_fst (fun a i => ?_) _ (t, 0)
  exact configureSite i a.1

theorem configureField (number : Nat) (t : State) : Acts t (Machine.configureField number t).1 := by
  unfold Machine.configureField
  refine .trans ?_ (endField _)
  refine .trans ((field t { FieldRecord.reset with number := number }).trans (configureSites _)) ?_
  exact .rest _ _ _ _ _ _ _ _

theorem configureAnswer (number : Nat) (t : State) : Acts t (Machine.configureAnswer number t).state := by
  unfold Machine.configureAnswer
  split
  · exact .refl t
  · split
    · exact .refl t
    · split
      · exact .refl t
      · exact configureField number t

/-! ### Metrology -/

theorem admitReport (t : State) (c : CorrectionReport) (x : Site) (p q : Pos) (limited : Bool) :
    Acts t (Machine.admitReport t c x p q limited).1 := by
  have h := admitMove t c.site .correction x p q limited
  unfold Machine.admitReport
  simp only
  split
  · exact h
  · exact h.trans (.robot _ _ _)
  · exact h

theorem stageReport (t : State) (c : CorrectionReport) (x : Site) (r : Robot) :
    Acts t (Machine.stageReport t c x r).1 := by
  unfold Machine.stageReport
  split
  · exact .robot t _ _
  · split
    · exact .robot t _ _
    · split
      · exact .robot t _ _
      · exact admitReport t c x _ _ _

theorem takeReport (t : State) (c : CorrectionReport) : Acts t (Machine.takeReport t c).1 := by
  unfold Machine.takeReport
  split
  · exact .refl t
  · split
    · exact stageReport t c _ _
    · exact .refl t

theorem takeReports (reports : List CorrectionReport) (t : State) :
    Acts t (Machine.takeReports t reports).1 := by
  induction reports generalizing t with
  | nil => exact .refl t
  | cons c rest ih => exact (takeReport t c).trans (ih _)

theorem correctAnswer (reports : List CorrectionReport) (t : State) :
    Acts t (Machine.correctAnswer reports t).state := by
  unfold Machine.correctAnswer
  split
  · exact .refl t
  · split
    · exact .refl t
    · exact takeReports reports t

theorem reAnchorAnswer (site : Nat) (p : Pos) (x : Site) (rob : Robot) (t : State) :
    Acts t (Machine.reAnchorAnswer site p x rob t).state := by
  unfold Machine.reAnchorAnswer
  split
  · exact .refl t
  · split
    · exact .refl t
    · split
      · exact .refl t
      · exact .trans (.robot t site _) (.bus _ _ _ fun _ h => h)

theorem clearPosChanged (t : State) (p : PortId) : Acts t (t.clearPosChanged p) := by
  cases p with
  | sequencer => exact .refl t
  | metrology =>
    exact .rest t t.outcomes t.overflow t.field t.timer t.notices t.inquiry false

/-! ### Links -/

theorem departIfUp (t : State) (n : Nat) : Acts t (t.departIfUp n) := by
  unfold State.departIfUp
  split
  · exact depart t n
  · exact .refl t

theorem enableAnswer (n : Nat) (t : State) : Acts t (Machine.enableAnswer n t).state := by
  unfold Machine.enableAnswer
  split
  · exact .refl t
  · split
    · exact enterProbing t n
    · exact .refl t

theorem disableAnswer (n : Nat) (t : State) : Acts t (Machine.disableAnswer n t).state := by
  unfold Machine.disableAnswer
  split
  · exact .refl t
  · split
    · exact .refl t
    · exact close ((departIfUp t n).trans (enterDisabled _ n))

theorem resetAnswer (n : Nat) (t : State) : Acts t (Machine.resetAnswer n t).state := by
  unfold Machine.resetAnswer
  split
  · exact .refl t
  · split
    · exact .refl t
    · exact close ((departIfUp t n).trans (enterProbing _ n))

theorem readPeerAnswer (n : Nat) (t : State) : Acts t (Machine.readPeerAnswer n t).state := by
  unfold Machine.readPeerAnswer
  split
  · exact .refl t
  · exact .link t n _ fun _ _ h => ⟨h.1, Nat.zero_le _, Nat.zero_le _⟩

/-! ### Buses and the inquiry slot -/

theorem inquiry (t : State) (x : Inquiry) : Acts t { t with inquiry := x } :=
  .rest t t.outcomes t.overflow t.field t.timer t.notices x t.posChanged

theorem inquireAnswer (site item : Nat) (rob : Robot) (t : State) :
    Acts t (Machine.inquireAnswer site item rob t).state := by
  unfold Machine.inquireAnswer
  split
  · exact .refl t
  · split
    · exact .refl t
    · split
      · exact .refl t
      · exact .trans (inquiry t _) (.bus _ _ _ fun _ h => h)

theorem readInquiryAnswer (t : State) : Acts t (Machine.readInquiryAnswer t).state := by
  unfold Machine.readInquiryAnswer
  split
  · exact .refl t
  · exact .refl t
  · exact inquiry t _
  · exact inquiry t _

theorem powerOnAnswer (bus : Nat) (t : State) : Acts t (Machine.powerOnAnswer bus t).state := by
  unfold Machine.powerOnAnswer
  split
  · exact .refl t
  · split
    · exact .refl t
    · split
      · exact .refl t
      · split
        · exact .refl t
        · split
          · exact .refl t
          · exact .bus t bus _ fun _ h => h

theorem powerOffAnswer (bus : Nat) (t : State) : Acts t (Machine.powerOffAnswer bus t).state := by
  unfold Machine.powerOffAnswer
  split
  · exact .refl t
  · split
    · exact .refl t
    · split
      · exact .refl t
      · exact .bus t bus _ fun _ h => h
      · split
        · exact .refl t
        · exact .trans (.bus t bus Bus.requestOff fun _ h => h) (powerLoss _ [bus])

theorem readBusAnswer (bus : Nat) (t : State) : Acts t (Machine.readBusAnswer bus t).state := by
  unfold Machine.readBusAnswer
  split
  · exact .refl t
  · split
    · exact .refl t
    · exact .bus t bus _ fun _ h => h

theorem busParam (bus lo hi value : Nat) {set : Bus → Bus} (t : State)
    (h : ∀ b : Bus, b.Shaped → (set b).Shaped) :
    Acts t (Machine.busParam bus lo hi value set t).state := by
  unfold Machine.busParam
  split
  · exact .refl t
  · split
    · exact .refl t
    · exact .bus t bus _ h

theorem concurrencyAnswer (bus value : Nat) (t : State) :
    Acts t (Machine.concurrencyAnswer bus value t).state := by
  unfold Machine.concurrencyAnswer
  split
  · exact .refl t
  · split
    · exact .refl t
    · split
      · exact .refl t
      · exact .bus t bus _ fun _ h => h

theorem statisticsAnswer (bus counter : Nat) (object : Option StatObject) (t : State) :
    Acts t (Machine.statisticsAnswer bus counter object t).state := by
  unfold Machine.statisticsAnswer
  split
  · exact .refl t
  · split
    · exact .refl t
    · exact .bus t bus _ fun _ h => ⟨h.1, by simpa using h.2⟩

end Acts

/-! ### The requests -/

namespace ActsServed

theorem readMap (s : State) (r : Req) (first count : Nat) : ActsServed s (execReadMap r first count s) :=
  intro fun t => by
    unfold Machine.readMap
    split
    · exact .refl t
    · split
      · exact .refl t
      · split <;> exact .refl t

theorem clearFault (s : State) (r : Req) (site : Nat) : ActsServed s (execClearFault r site s) :=
  intro fun t => by
    split
    · exact .refl t
    · split
      · exact .robot t site _
      · exact .refl t

theorem readRobot (s : State) (r : Req) (first count : Nat) :
    ActsServed s (execReadRobot r first count s) := intro fun t => by split <;> exact .refl t

theorem readLens (s : State) (r : Req) (first count : Nat) :
    ActsServed s (execReadLens r first count s) := intro fun t => by split <;> exact .refl t

theorem moveTo (s : State) (r : Req) (site alpha beta : Nat) :
    ActsServed s (execMoveTo r site alpha beta s) :=
  intro fun t => .atSite t site fun x rob u => .moveToAnswer site _ x rob u

theorem park (s : State) (r : Req) (site : Nat) : ActsServed s (execPark r site s) :=
  intro fun t => .atSite t site fun x rob u => .parkAnswer site x rob u

theorem home (s : State) (r : Req) (site : Nat) : ActsServed s (execHome r site s) :=
  intro fun t => .atSite t site fun _ rob u => .homeAnswer site rob u

theorem abort (s : State) (r : Req) (site : Nat) : ActsServed s (execAbort r site s) :=
  intro fun t => .atSite t site fun _ _ u => by
    split
    · exact .refl u
    · exact .close (.abortRobot u site)

theorem abortField (s : State) (r : Req) : ActsServed s (execAbortField r s) :=
  intro fun t => by
    split
    · refine Acts.sweep t _ fun i u => ?_
      split
      · exact .abortRobot u i
      · exact .refl u
    · exact .refl t

theorem readOutcomes (s : State) (r : Req) (count : Nat) : ActsServed s (execReadOutcomes r count s) :=
  intro (.readOutcomes count)

theorem configure (s : State) (r : Req) (number : Nat) : ActsServed s (execConfigure r number s) :=
  intro (.configureAnswer number)

theorem snapshot (s : State) (r : Req) (first count : Nat) :
    ActsServed s (execSnapshot r first count s) := intro fun t => by
  split
  · exact .refl t
  · exact .clearPosChanged t r.port

theorem correct (s : State) (r : Req) (reports : List CorrectionReport) :
    ActsServed s (execCorrect r reports s) := intro (.correctAnswer reports)

theorem reAnchor (s : State) (r : Req) (site alpha beta : Nat) :
    ActsServed s (execReAnchor r site alpha beta s) :=
  intro fun t => .atSite t site fun x rob u => .reAnchorAnswer site _ x rob u

theorem peerControlEnable (s : State) (r : Req) (n : Nat) : ActsServed s (execPeerControlEnable r n s) :=
  intro (.enableAnswer n)

theorem peerControlDisable (s : State) (r : Req) (n : Nat) :
    ActsServed s (execPeerControlDisable r n s) := intro (.disableAnswer n)

theorem peerControlReset (s : State) (r : Req) (n : Nat) : ActsServed s (execPeerControlReset r n s) :=
  intro (.resetAnswer n)

theorem readPeer (s : State) (r : Req) (n : Nat) : ActsServed s (execReadPeer r n s) :=
  intro fun t => by
    split
    · exact .refl t
    · exact .readPeerAnswer n t

theorem inquire (s : State) (r : Req) (site item : Nat) : ActsServed s (execInquire r site item s) :=
  intro fun t => .atSite t site fun _ rob u => .inquireAnswer site item rob u

theorem readInquiry (s : State) (r : Req) : ActsServed s (execReadInquiry r s) :=
  intro .readInquiryAnswer

theorem busPowerOn (s : State) (r : Req) (bus : Nat) : ActsServed s (execBusPowerOn r bus s) :=
  intro (.powerOnAnswer bus)

theorem busPowerOff (s : State) (r : Req) (bus : Nat) : ActsServed s (execBusPowerOff r bus s) :=
  intro (.powerOffAnswer bus)

theorem readBus (s : State) (r : Req) (bus : Nat) : ActsServed s (execReadBus r bus s) :=
  intro (.readBusAnswer bus)

theorem concurrencyLimit (s : State) (r : Req) (bus value : Nat) :
    ActsServed s (execSetParamConcurrencyLimit r bus value s) := intro (.concurrencyAnswer bus value)

theorem threshold (s : State) (r : Req) (bus value : Nat) :
    ActsServed s (execSetParamThreshold r bus value s) :=
  intro fun t => .busParam bus _ _ value t fun _ h => h

theorem tripCount (s : State) (r : Req) (bus value : Nat) :
    ActsServed s (execSetParamTripCount r bus value s) :=
  intro fun t => .busParam bus _ _ value t fun _ h => h

theorem statisticsSelection (s : State) (r : Req) (bus counter : Nat) (object : Option StatObject) :
    ActsServed s (execSetParamStatisticsSelection r bus counter object s) :=
  intro (.statisticsAnswer bus counter object)

end ActsServed

end Sys2Proof.Machine
end

section
/-! Which commands change the installed map and the sector mode (R14, R48, R99, R104, R106): every other
command is shown to keep both. -/

namespace Sys2Proof.Machine

/-! ### Keeping the map and the mode -/

/-- The installed map, and what is derived from it, is the same in both states. -/
structure State.SameMap (s t : State) : Prop where
  map : t.map = s.map
  siteLens : t.siteLens = s.siteLens
  digests : t.digests = s.digests
  sides : (t.lenses.map fun l => (l.a, l.b)) = s.lenses.map fun l => (l.a, l.b)
  robots : t.robots.length = s.robots.length

/-- The map and the mode are the same in both states. -/
structure State.Steady (s t : State) : Prop extends s.SameMap t where
  mode : t.mode = s.mode

theorem State.SameMap.trans {s t u : State} (h1 : s.SameMap t) (h2 : t.SameMap u) : s.SameMap u :=
  ⟨h2.map.trans h1.map, h2.siteLens.trans h1.siteLens, h2.digests.trans h1.digests,
    h2.sides.trans h1.sides, h2.robots.trans h1.robots⟩

theorem State.Steady.refl (s : State) : s.Steady s := ⟨⟨rfl, rfl, rfl, rfl, rfl⟩, rfl⟩

theorem State.Steady.trans {s t u : State} (h1 : s.Steady t) (h2 : t.Steady u) : s.Steady u :=
  ⟨h1.toSameMap.trans h2.toSameMap, h2.mode.trans h1.mode⟩

theorem Acts.steady {s t : State} (h : Acts s t) : s.Steady t := by
  have hk := h.keeps
  exact ⟨⟨hk.map, hk.siteLens, hk.digests, hk.sides, hk.robots⟩, hk.mode⟩

theorem State.modPort_steady (s : State) (p : PortId) (f : StationPort → StationPort) :
    s.Steady (s.modPort p f) := by
  cases p <;> exact ⟨⟨rfl, rfl, rfl, rfl, rfl⟩, rfl⟩

theorem State.modBus_steady (s : State) (b : Nat) (f : Bus → Bus) : s.Steady (s.modBus b f) :=
  ⟨⟨rfl, rfl, rfl, rfl, rfl⟩, rfl⟩

theorem State.enterMode_sameMap (s : State) (m : Mode) : s.SameMap (s.enterMode m) :=
  ⟨rfl, rfl, rfl, rfl, rfl⟩

theorem State.takeRequest_steady (s : State) (p : PortId) (tag code : Byte) :
    s.Steady (s.takeRequest p tag code) := s.modPort_steady p _

theorem State.respond_steady (s : State) (p : PortId) (r : Response) : s.Steady (s.respond p r) :=
  s.modPort_steady p _

theorem State.answerOnly_steady (s : State) (p : PortId) (tag code : Byte) (st : Status) :
    s.Steady (s.answerOnly p tag code st) :=
  (s.takeRequest_steady p tag code).trans (State.respond_steady _ p _)

/-- A request is refused or waits, or it reaches its owning rule in a state that differs only in its
port. -/
theorem State.serve_cases (s : State) (r : Req) (code : Byte) (rights : Rights) (act : State → Answer) :
    s.Steady (s.serve r code rights act) ∨
      (act (s.takeRequest r.port r.tag code)).state.Steady (s.serve r code rights act) := by
  have htake := s.takeRequest_steady r.port r.tag code
  unfold State.serve
  split
  · exact .inl (.refl s)
  · exact .inl (s.answerOnly_steady r.port r.tag code _)
  · simp only
    split
    · exact .inl (htake.trans (State.respond_steady _ _ _))
    · split
      · exact .inl (htake.trans (State.respond_steady _ _ _))
      · exact .inr (State.respond_steady _ _ _)

/-- A request whose rule keeps map and mode keeps them. -/
theorem State.serve_steady (s : State) (r : Req) (code : Byte) (rights : Rights) {act : State → Answer}
    (h : ∀ t : State, t.Steady (act t).state) : s.Steady (s.serve r code rights act) := by
  rcases s.serve_cases r code rights act with hs | hs
  · exact hs
  · exact ((s.takeRequest_steady r.port r.tag code).trans (h _)).trans hs

/-! ### Operations beyond `Acts` that keep both -/

theorem State.convert_steady (s : State) (bus : Nat) (b : Bus) (v : Nat) : s.Steady (s.convert bus b v) := by
  have h : s.Steady { s.modBus bus (fun x => x.takeSample v) with conversionDue := false } :=
    ⟨⟨rfl, rfl, rfl, rfl, rfl⟩, rfl⟩
  unfold State.convert
  simp only
  split
  · exact h
  · split
    · exact h.trans (Acts.trip _ bus _).steady
    · exact h.trans (State.modBus_steady _ bus _)

theorem State.setEnabled_steady (t : State) (mask : List Bool) (v : Bool) : t.Steady (t.setEnabled mask v) :=
  ⟨⟨rfl, rfl, rfl, rfl, by simp [State.setEnabled]⟩, rfl⟩

theorem Acts.disableSite (before : State) (mask : List Bool) (i : Nat) (t : State) :
    Acts t (State.disableSite before mask i t) := by
  unfold State.disableSite
  split
  · exact .endAtRest t i _
  · exact .refl t

theorem State.writeTarget_steady (t : State) (e : TargetArg) : t.Steady (t.writeTarget e) := by
  unfold State.writeTarget
  split
  · exact (Acts.robot t e.site Robot.resetIterations).steady.trans ⟨⟨rfl, rfl, rfl, rfl, rfl⟩, rfl⟩
  · exact .refl t

theorem State.writeTargets_steady (t : State) (entries : List TargetArg) :
    t.Steady (entries.foldl State.writeTarget t) := by
  induction entries generalizing t with
  | nil => exact .refl t
  | cons e rest ih => exact (t.writeTarget_steady e).trans (ih _)

theorem State.clearPort_steady (t : State) (p : PortId) : t.Steady (t.clearPort p) := by
  cases p <;> exact ⟨⟨rfl, rfl, rfl, rfl, rfl⟩, rfl⟩

/-- A part parameter with a range is set, or the request refused. -/
theorem rangeParam_steady (lo hi value : Nat) (set : Params → Params) (t : State) :
    t.Steady (rangeParam lo hi value set t).state := by
  unfold rangeParam
  split
  · exact .refl t
  · exact ⟨⟨rfl, rfl, rfl, rfl, rfl⟩, rfl⟩

/-! ### The commands that keep both -/

/-- The command answers a next state with the map and the mode of `s`. -/
def SteadyOut (s : State) (o : Host.Outcome State Fault Refusal) : Prop :=
  ∀ t, o = .next t → s.Steady t

theorem SteadyOut.next {s t : State} (h : s.Steady t) : SteadyOut s (.next t) := by
  intro u hu
  cases hu
  exact h

theorem ActsOut.steady {s : State} {o : Host.Outcome State Fault Refusal} (h : ActsOut s o) :
    SteadyOut s o := fun _ ht => (h.acts ht).steady

theorem ActsServed.steady {s : State} {o : Host.Outcome State Fault Refusal} (h : ActsServed s o) :
    SteadyOut s o := by
  obtain ⟨r, code, rights, act, rfl, hact⟩ := h
  exact .next (s.serve_steady r code rights fun t => (hact t).steady)

namespace SteadyOut

/-- A request whose rule keeps map and mode. -/
theorem serve {s : State} {r : Req} {code : Byte} {rights : Rights} {act : State → Answer}
    (h : ∀ t : State, t.Steady (act t).state) : SteadyOut s (.next (s.serve r code rights act)) :=
  next (s.serve_steady r code rights h)

/-! #### Inputs, station frames and samples -/

theorem shutterClosed (s : State) : SteadyOut s (execShutterClosed s) := by
  unfold execShutterClosed
  split
  · exact next ⟨⟨rfl, rfl, rfl, rfl, rfl⟩, rfl⟩
  · exact next (.refl s)

theorem stopReleased (s : State) : SteadyOut s (execStopReleased s) := by
  unfold execStopReleased
  split
  · exact next ⟨⟨rfl, rfl, rfl, rfl, rfl⟩, rfl⟩
  · exact next (.refl s)

theorem stationFrameReceived (s : State) (p : PortId) (bytes : List Byte) :
    SteadyOut s (execStationFrameReceived p bytes s) := by
  unfold execStationFrameReceived
  split <;> exact next (s.modPort_steady p _)

theorem badFrame (s : State) (p : PortId) (tag code : Byte) :
    SteadyOut s (execBadFrame p tag code s) := by
  refine next ?_
  unfold State.answerBadFrame
  split
  · exact .refl s
  · exact s.answerOnly_steady p tag code _
  · split
    · exact s.answerOnly_steady p tag code _
    · exact .refl s

theorem unknown (s : State) (p : PortId) (tag code : Byte) : SteadyOut s (execUnknown p tag code s) := by
  refine next ?_
  unfold State.answerUnknown
  split
  · exact .refl s
  · split
    · exact .refl s
    · exact s.answerOnly_steady p tag code _
    · exact s.answerOnly_steady p tag code _

theorem currentSample (s : State) (bus milliamps : Nat) :
    SteadyOut s (execCurrentSample bus milliamps s) := by
  unfold execCurrentSample
  split
  · split
    · exact next (.refl s)
    · exact next (s.convert_steady bus _ _)
  · exact next (.refl s)

/-! #### Requests on the loader, the enable map, the targets and the ports -/

theorem mapBegin (s : State) (r : Req) (sector count : Nat) (neighbours : List Nat) :
    SteadyOut s (execMapBegin r sector count neighbours s) := serve fun t => by
  unfold beginLoad
  split
  · exact .refl t
  · split
    · exact ⟨⟨rfl, rfl, rfl, rfl, rfl⟩, rfl⟩
    · exact .refl t

theorem mapSites (s : State) (r : Req) (entries : List SiteArg) :
    SteadyOut s (execMapSites r entries s) := serve fun t => by
  unfold stageSites
  split
  · exact .refl t
  · split
    · exact .refl t
    · split
      · exact .refl t
      · exact ⟨⟨rfl, rfl, rfl, rfl, rfl⟩, rfl⟩

theorem enableSet (s : State) (r : Req) (mask : List Bool) : SteadyOut s (execEnableSet r mask s) :=
  serve fun t => by
    split
    · exact .refl t
    · exact t.setEnabled_steady mask true

theorem enableClear (s : State) (r : Req) (mask : List Bool) :
    SteadyOut s (execEnableClear r mask s) := serve fun t => by
  split
  · exact .refl t
  · exact (t.setEnabled_steady mask false).trans (Acts.sweep _ _ (Acts.disableSite t mask)).steady

theorem loadTargets (s : State) (r : Req) (entries : List TargetArg) :
    SteadyOut s (execLoadTargets r entries s) := serve fun t => by
  unfold loadTargetsAnswer
  split
  · exact .refl t
  · split
    · exact .refl t
    · exact t.writeTargets_steady entries

theorem clearTargets (s : State) (r : Req) : SteadyOut s (execClearTargets r s) := serve fun t => by
  split
  · exact .refl t
  · exact ⟨⟨rfl, rfl, rfl, rfl, rfl⟩, rfl⟩

theorem readField (s : State) (r : Req) : SteadyOut s (execReadField r s) :=
  serve fun _ => ⟨⟨rfl, rfl, rfl, rfl, rfl⟩, rfl⟩

theorem portStatus (s : State) (r : Req) : SteadyOut s (execPortStatus r s) :=
  serve fun t => t.clearPort_steady r.port

theorem setMask (s : State) (r : Req) (enables : List Bool) : SteadyOut s (execSetMask r enables s) :=
  serve fun t => by
    split
    · exact .refl t
    · exact t.modPort_steady r.port fun p => { p with mask := enables }

theorem readCause (s : State) (r : Req) : SteadyOut s (execReadCause r s) := serve fun t => by
  split
  · exact ⟨⟨rfl, rfl, rfl, rfl, rfl⟩, rfl⟩
  · exact .refl t

/-! #### Parameters -/

/-- A request that sets one part parameter with a range. -/
theorem partParam {s : State} {r : Req} {lo hi value : Nat} {set : Params → Params} :
    SteadyOut s (.next (s.serve r 36 .sequencerOnly (rangeParam lo hi value set))) :=
  serve (rangeParam_steady lo hi value set)

theorem parkBeta (s : State) (r : Req) (value : Nat) : SteadyOut s (execSetParamParkBeta r value s) :=
  serve fun t => rangeParam_steady _ _ value _ t

theorem stowAngle (s : State) (r : Req) (value : Nat) : SteadyOut s (execSetParamStowAngle r value s) :=
  serve fun t => by
    unfold stowAnswer
    split
    · exact .refl t
    · split
      · exact .refl t
      · split
        · exact .refl t
        · exact ⟨⟨rfl, rfl, rfl, rfl, rfl⟩, rfl⟩

theorem shareRatio (s : State) (r : Req) (value : ShareArg) :
    SteadyOut s (execSetParamShareRatio r value s) := serve fun t => by
  unfold shareAnswer
  split
  · exact .refl t
  · exact ⟨⟨rfl, rfl, rfl, rfl, rfl⟩, rfl⟩

theorem deadlineAction (s : State) (r : Req) (value : Option DeadlineAction) :
    SteadyOut s (execSetParamDeadlineAction r value s) := serve fun t => by
  unfold actionAnswer
  split
  · exact .refl t
  · exact ⟨⟨rfl, rfl, rfl, rfl, rfl⟩, rfl⟩

end SteadyOut

/-! ### The commands that change the map or the mode -/

/-- A command that may change the map or the mode, with what it leaves of them. -/
inductive MapOrMode : Instr → State → State → Prop
  /-- MAP_END in INIT, which leaves the mode. -/
  | mapEnd {r s t} (init : s.mode = .init) (mode : t.mode = s.mode) : MapOrMode (.mapEnd r) s t
  | powerOn {a b s t} (mode : t.mode = if b then .halted else .init) : MapOrMode (.powerOn a b) s t
  | resetLine {a b s t} (mode : t.mode = if b then .halted else .init) : MapOrMode (.resetLine a b) s t
  /-- OPEN, THAW and RESUME with the shutter closed. -/
  | opened {c r s t} (command : c = .openSector r ∨ c = .thaw r ∨ c = .resume r)
      (closed : s.inputs.shutterOpen = false) (same : s.SameMap t) (mode : t.mode = .opened) :
      MapOrMode c s t
  | freeze {r s t} (opened : s.mode = .opened) (same : s.SameMap t) (mode : t.mode = .frozen .freeze) :
      MapOrMode (.freeze r) s t
  | shutter {s t} (opened : s.mode = .opened) (same : s.SameMap t)
      (mode : t.mode = .frozen .shutter) : MapOrMode .shutterOpened s t
  | stop {s t} (same : s.SameMap t) (mode : t.mode = .halted) : MapOrMode .stopAsserted s t
  | restart {r s t} (same : s.SameMap t)
      (mode : t.mode = if s.inputs.stopAsserted then .halted else .init) : MapOrMode (.restart r) s t

/-- Moves that end or halt act within their bounds. -/
theorem Acts.haltSite (cause : HaltCause) (out : Option (MoveOutcome × Option DenyReason)) (i : Nat)
    (s : State) : Acts s (s.haltSite cause out i) := by
  unfold State.haltSite
  split
  · exact .refl s
  · split
    · exact .endAtRest s i out
    · exact .endAtRest s i out
    · exact .enterHalting s i cause
    · split
      · exact .modMove s i _
      · exact .refl s
    all_goals exact .refl s

theorem Acts.haltMoves (s : State) (cause : HaltCause)
    (out : Option (MoveOutcome × Option DenyReason)) : Acts s (s.haltMoves cause out) :=
  (foldl Acts.queueBroadcast _ s).trans (sweep _ _ (haltSite cause out))

/-- A departure or an entry to PROBING leaves the mode, so an installation does. -/
theorem State.install_mode (s : State) (m : PlateMap) : (s.install m).mode = s.mode := by
  have hprobing : ∀ t : State, Acts t (s.enabledLinks.foldl State.enterProbing t) :=
    Acts.foldl Acts.enterProbing _
  have hdepart : Acts s (s.upLinks.foldl State.depart s) := Acts.foldl Acts.depart _ s
  exact (hprobing _).keeps.mode.trans hdepart.keeps.mode

/-- MAP_END keeps map and mode, or installs a map in INIT. -/
theorem endLoad_cases (t : State) :
    t.Steady (endLoad t).state ∨ (t.mode = .init ∧ (endLoad t).state.mode = t.mode) := by
  unfold endLoad
  split
  · exact .inl (.refl t)
  · rename_i hbar
    have hinit : t.mode = .init := by
      by_contra hne
      simp [State.mapBarred, hne] at hbar
    split
    · exact .inl (.refl t)
    · split
      · exact .inl (.refl t)
      · split
        · exact .inl (.refl t)
        · exact .inr ⟨hinit, State.install_mode t _⟩

/-- OPEN keeps map and mode, or opens with the shutter closed (R100). -/
theorem openAnswer_cases (t : State) :
    t.Steady (openAnswer t).state ∨
      (t.inputs.shutterOpen = false ∧ (openAnswer t).state = t.enterMode .opened) := by
  unfold openAnswer
  split
  · exact .inl (.refl t)
  · exact .inl (.refl t)
  · exact .inl (.refl t)
  · split
    · exact .inl (.refl t)
    · split
      · exact .inl (.refl t)
      · rename_i hclosed
        exact .inr ⟨by simpa using hclosed, rfl⟩

/-- THAW keeps map and mode, or opens with the shutter closed (R102). -/
theorem thawAnswer_cases (t : State) :
    t.Steady (thawAnswer t).state ∨
      (t.inputs.shutterOpen = false ∧ (thawAnswer t).state = t.enterMode .opened) := by
  unfold thawAnswer
  split
  · split
    · exact .inl (.refl t)
    · rename_i hclosed
      exact .inr ⟨by simpa using hclosed, rfl⟩
  all_goals exact .inl (.refl t)

/-- RESUME keeps map and mode, or opens with the shutter closed (R103). -/
theorem resumeAnswer_cases (t : State) :
    t.Steady (resumeAnswer t).state ∨
      (t.inputs.shutterOpen = false ∧ (resumeAnswer t).state = t.enterMode .opened) := by
  unfold resumeAnswer
  split
  · exact .inl (.refl t)
  · split
    · exact .inl (.refl t)
    · split
      · exact .inl (.refl t)
      · split
        · exact .inl (.refl t)
        · rename_i hclosed
          exact .inr ⟨by simpa using hclosed, rfl⟩

/-- FREEZE keeps map and mode, or freezes from OPEN (R101). -/
theorem freezeAnswer_cases (t : State) :
    t.Steady (freezeAnswer t).state ∨
      (t.mode = .opened ∧ (freezeAnswer t).state = t.enterMode (.frozen .freeze)) := by
  unfold freezeAnswer
  split
  · rename_i hopened
    split
    · exact .inl (.refl t)
    · exact .inr ⟨hopened, rfl⟩
  all_goals exact .inl (.refl t)

/-- RESTART keeps the map, and its mode follows the stop input (R105). -/
theorem State.restarted_map_mode (t : State) :
    t.SameMap t.restarted ∧ t.restarted.mode = if t.inputs.stopAsserted then .halted else .init := by
  have hstart : t.SameMap { t with field := .reset, timer := .reset } := ⟨rfl, rfl, rfl, rfl, rfl⟩
  have hhalt := Acts.haltMoves { t with field := .reset, timer := .reset } .restart none
  have hclear : ∀ (u : State) (m : Mode), u.SameMap (u.clearForRestart.enterMode m) :=
    fun _ _ => ⟨rfl, rfl, rfl, rfl, rfl⟩
  exact ⟨(hstart.trans hhalt.steady.toSameMap).trans (hclear _ _), rfl⟩

/-! ### Each of these commands -/

/-- What a request leaves that may open the sector. -/
theorem serve_opens {s : State} {r : Req} {code : Byte} {act : State → Answer}
    (h : ∀ t : State, t.Steady (act t).state ∨
      (t.inputs.shutterOpen = false ∧ (act t).state = t.enterMode .opened)) :
    s.Steady (s.serve r code .sequencerOnly act) ∨
      (s.inputs.shutterOpen = false ∧ s.SameMap (s.serve r code .sequencerOnly act) ∧
        (s.serve r code .sequencerOnly act).mode = .opened) := by
  have htake := s.takeRequest_steady r.port r.tag code
  rcases s.serve_cases r code .sequencerOnly act with hs | hs
  · exact .inl hs
  · rcases h (s.takeRequest r.port r.tag code) with hact | ⟨hclosed, hact⟩
    · exact .inl ((htake.trans hact).trans hs)
    · rw [hact] at hs
      refine .inr ⟨by simpa using hclosed, ?_, hs.mode⟩
      exact htake.toSameMap.trans ((State.enterMode_sameMap _ _).trans hs.toSameMap)

theorem mapEnd_cases (s : State) (r : Req) :
    s.Steady (s.serve r 3 .sequencerOnly endLoad) ∨
      MapOrMode (.mapEnd r) s (s.serve r 3 .sequencerOnly endLoad) := by
  have htake := s.takeRequest_steady r.port r.tag 3
  rcases s.serve_cases r 3 .sequencerOnly endLoad with hs | hs
  · exact .inl hs
  · rcases endLoad_cases (s.takeRequest r.port r.tag 3) with hact | ⟨hinit, hmode⟩
    · exact .inl ((htake.trans hact).trans hs)
    · exact .inr (.mapEnd (by simpa using hinit) (hs.mode.trans (hmode.trans htake.mode)))

theorem freeze_cases (s : State) (r : Req) :
    s.Steady (s.serve r 17 .sequencerOnly freezeAnswer) ∨
      MapOrMode (.freeze r) s (s.serve r 17 .sequencerOnly freezeAnswer) := by
  have htake := s.takeRequest_steady r.port r.tag 17
  rcases s.serve_cases r 17 .sequencerOnly freezeAnswer with hs | hs
  · exact .inl hs
  · rcases freezeAnswer_cases (s.takeRequest r.port r.tag 17) with hact | ⟨hopened, hact⟩
    · exact .inl ((htake.trans hact).trans hs)
    · rw [hact] at hs
      refine .inr (.freeze (by simpa using hopened) ?_ hs.mode)
      exact htake.toSameMap.trans ((State.enterMode_sameMap _ _).trans hs.toSameMap)

theorem restart_cases (s : State) (r : Req) :
    s.Steady (s.serve r 20 .sequencerOnly restartAnswer) ∨
      MapOrMode (.restart r) s (s.serve r 20 .sequencerOnly restartAnswer) := by
  have htake := s.takeRequest_steady r.port r.tag 20
  rcases s.serve_cases r 20 .sequencerOnly restartAnswer with hs | hs
  · exact .inl hs
  · obtain ⟨hmap, hmode⟩ := (s.takeRequest r.port r.tag 20).restarted_map_mode
    rw [takeRequest_inputs] at hmode
    exact .inr (.restart (htake.toSameMap.trans (hmap.trans hs.toSameMap)) (hs.mode.trans hmode))

theorem shutterOpened_cases {s t : State} (h : execShutterOpened s = .next t) :
    s.Steady t ∨ MapOrMode .shutterOpened s t := by
  unfold execShutterOpened at h
  split at h
  · cases h
    exact .inl (.refl _)
  · simp only at h
    split at h
    · rename_i hopened
      cases h
      have hfrozen : s.SameMap (State.enterMode { s with inputs := s.inputs.openShutter }
        (.frozen .shutter)) := ⟨rfl, rfl, rfl, rfl, rfl⟩
      have hhalt := (Acts.haltMoves (State.enterMode { s with inputs := s.inputs.openShutter }
        (.frozen .shutter)) .shutter (some (.halted, none))).steady
      exact .inr (.shutter hopened (hfrozen.trans hhalt.toSameMap) hhalt.mode)
    · cases h
      exact .inl ⟨⟨rfl, rfl, rfl, rfl, rfl⟩, rfl⟩

theorem stopAsserted_cases {s t : State} (h : execStopAsserted s = .next t) :
    s.Steady t ∨ MapOrMode .stopAsserted s t := by
  unfold execStopAsserted at h
  split at h
  · cases h
    exact .inl (.refl _)
  · cases h
    have hoff : s.SameMap { (State.enterMode { s with inputs := s.inputs.assertStop } .halted) with
        buses := s.buses.map Bus.stopOff } := ⟨rfl, rfl, rfl, rfl, rfl⟩
    have hloss := (Acts.powerLoss
      { (State.enterMode { s with inputs := s.inputs.assertStop } .halted) with
        buses := s.buses.map Bus.stopOff } s.poweredBuses).steady
    exact .inr (.stop (hoff.trans hloss.toSameMap) hloss.mode)

theorem State.fullReset_mode (s : State) (cause : ResetCause) (a b : Bool) :
    (s.fullReset cause a b).mode = if b then .halted else .init := by
  cases b <;> rfl

/-- Every command keeps the map and the mode, or is one of those that may change them. -/
theorem exec_map_mode {c : Instr} {s t : State} (h : exec c s = .next t) :
    s.Steady t ∨ MapOrMode c s t := by
  cases c
  case powerOn a b => cases h; exact .inr (.powerOn (s.fullReset_mode _ a b))
  case resetLine a b => cases h; exact .inr (.resetLine (s.fullReset_mode _ a b))
  case shutterOpened => exact shutterOpened_cases h
  case stopAsserted => exact stopAsserted_cases h
  case mapEnd r => cases h; exact mapEnd_cases s r
  case freeze r => cases h; exact freeze_cases s r
  case restart r => cases h; exact restart_cases s r
  case openSector r =>
    cases h
    exact (serve_opens openAnswer_cases).imp id fun ⟨hc, hm, ho⟩ => .opened (.inl rfl) hc hm ho
  case thaw r =>
    cases h
    exact (serve_opens thawAnswer_cases).imp id fun ⟨hc, hm, ho⟩ => .opened (.inr (.inl rfl)) hc hm ho
  case resume r =>
    cases h
    exact (serve_opens resumeAnswer_cases).imp id fun ⟨hc, hm, ho⟩ => .opened (.inr (.inr rfl)) hc hm ho
  all_goals left
  case shutterClosed => exact SteadyOut.shutterClosed s t h
  case stopReleased => exact SteadyOut.stopReleased s t h
  case stationFrameReceived p bytes => exact SteadyOut.stationFrameReceived s p bytes t h
  case badFrame p tag code => exact SteadyOut.badFrame s p tag code t h
  case unknown p tag code => exact SteadyOut.unknown s p tag code t h
  case currentSample bus v => exact SteadyOut.currentSample s bus v t h
  case mapBegin r sector count neighbours => exact SteadyOut.mapBegin s r sector count neighbours t h
  case mapSites r entries => exact SteadyOut.mapSites s r entries t h
  case enableSet r mask => exact SteadyOut.enableSet s r mask t h
  case enableClear r mask => exact SteadyOut.enableClear s r mask t h
  case loadTargets r entries => exact SteadyOut.loadTargets s r entries t h
  case clearTargets r => exact SteadyOut.clearTargets s r t h
  case readField r => exact SteadyOut.readField s r t h
  case portStatus r => exact SteadyOut.portStatus s r t h
  case setMask r enables => exact SteadyOut.setMask s r enables t h
  case readCause r => exact SteadyOut.readCause s r t h
  case setParamStowAngle r v => exact SteadyOut.stowAngle s r v t h
  case setParamParkBeta r v => exact SteadyOut.parkBeta s r v t h
  case setParamGain r v => exact SteadyOut.partParam t h
  case setParamMaximumCorrection r v => exact SteadyOut.partParam t h
  case setParamTolerance r v => exact SteadyOut.partParam t h
  case setParamIterationLimit r v => exact SteadyOut.partParam t h
  case setParamShareRatio r v => exact SteadyOut.shareRatio s r v t h
  case setParamDeadlinePreset r v => exact SteadyOut.partParam t h
  case setParamDeadlineAction r v => exact SteadyOut.deadlineAction s r v t h
  case setParamLensWaitLimit r v => exact SteadyOut.partParam t h
  case setParamLegTimeLimit r v => exact SteadyOut.partParam t h
  case setParamAttemptLimit r v => exact SteadyOut.partParam t h
  case setParamFailureLimit r v => exact SteadyOut.partParam t h
  case setParamPollInterval r v => exact SteadyOut.partParam t h
  case setParamKeepaliveInterval r v => exact SteadyOut.partParam t h
  case setParamConcurrencyLimit r bus v => exact (ActsServed.concurrencyLimit s r bus v).steady t h
  case setParamThreshold r bus v => exact (ActsServed.threshold s r bus v).steady t h
  case setParamTripCount r bus v => exact (ActsServed.tripCount s r bus v).steady t h
  case setParamStatisticsSelection r bus n o =>
    exact (ActsServed.statisticsSelection s r bus n o).steady t h
  case readMap r first count => exact (ActsServed.readMap s r first count).steady t h
  case clearFault r site => exact (ActsServed.clearFault s r site).steady t h
  case readRobot r first count => exact (ActsServed.readRobot s r first count).steady t h
  case readLens r first count => exact (ActsServed.readLens s r first count).steady t h
  case moveTo r site a b => exact (ActsServed.moveTo s r site a b).steady t h
  case park r site => exact (ActsServed.park s r site).steady t h
  case home r site => exact (ActsServed.home s r site).steady t h
  case abort r site => exact (ActsServed.abort s r site).steady t h
  case abortField r => exact (ActsServed.abortField s r).steady t h
  case readOutcomes r count => exact (ActsServed.readOutcomes s r count).steady t h
  case configure r number => exact (ActsServed.configure s r number).steady t h
  case snapshot r first count => exact (ActsServed.snapshot s r first count).steady t h
  case correct r reports => exact (ActsServed.correct s r reports).steady t h
  case reAnchor r site a b => exact (ActsServed.reAnchor s r site a b).steady t h
  case peerControlEnable r n => exact (ActsServed.peerControlEnable s r n).steady t h
  case peerControlDisable r n => exact (ActsServed.peerControlDisable s r n).steady t h
  case peerControlReset r n => exact (ActsServed.peerControlReset s r n).steady t h
  case readPeer r n => exact (ActsServed.readPeer s r n).steady t h
  case inquire r site item => exact (ActsServed.inquire s r site item).steady t h
  case readInquiry r => exact (ActsServed.readInquiry s r).steady t h
  case busPowerOn r bus => exact (ActsServed.busPowerOn s r bus).steady t h
  case busPowerOff r bus => exact (ActsServed.busPowerOff s r bus).steady t h
  case readBus r bus => exact (ActsServed.readBus s r bus).steady t h
  case deadlineExpiry => exact (ActsOut.deadlineExpiry s).steady t h
  case waitDeadlinePasses site => exact (ActsOut.waitDeadlinePasses s site).steady t h
  case legTimeout site => exact (ActsOut.legTimeout s site).steady t h
  case haltTimeLimit site => exact (ActsOut.haltTimeLimit s site).steady t h
  case legDispatch bus => exact (ActsOut.legDispatch s bus).steady t h
  case haltBroadcast bus => exact (ActsOut.haltBroadcast s bus).steady t h
  case haltAddressed bus => exact (ActsOut.haltAddressed s bus).steady t h
  case poll bus => exact (ActsOut.poll s bus).steady t h
  case setCounts bus => exact (ActsOut.setCounts s bus).steady t h
  case inquireTransaction bus => exact (ActsOut.inquireTransaction s bus).steady t h
  case keepalivePoll bus => exact (ActsOut.keepalivePoll s bus).steady t h
  case robotReplyGood bus reply => exact (ActsOut.robotReplyGood s bus reply).steady t h
  case robotReplyMissing bus => exact (ActsOut.robotReplyMissing s bus).steady t h
  case robotReplyCheckError bus => exact (ActsOut.robotReplyCheckError s bus).steady t h
  case jabber bus => exact (ActsOut.jabber s bus).steady t h
  case blankingEnd bus => exact (ActsOut.blankingEnd s bus).steady t h
  case rollcall bus => exact (ActsOut.rollcall s bus).steady t h
  case rollcallSlotEnd bus slot => exact (ActsOut.rollcallSlotEnd s bus slot).steady t h
  case ident n f => exact (ActsOut.ident s n f).steady t h
  case summary p count entries => exact (ActsOut.summary s p count entries).steady t h
  case summaryClient p count entries => exact (ActsOut.summaryClient s p count entries).steady t h
  case keepalive p => exact (ActsOut.keepalive s p).steady t h
  case claim p n => exact (ActsOut.claim s p n).steady t h
  case withdraw p n => exact (ActsOut.withdraw s p n).steady t h
  case release p n => exact (ActsOut.release s p n).steady t h
  case pin p n => exact (ActsOut.pin s p n).steady t h
  case hold p n => exact (ActsOut.hold s p n).steady t h
  case grant p n => exact (ActsOut.grant s p n).steady t h
  case refuse p n reason => exact (ActsOut.refuse s p n reason).steady t h
  case peerFrameError n => exact (ActsOut.peerFrameError s n).steady t h
  case identSend n => exact (ActsOut.identSend s n).steady t h
  case keepaliveSend n => exact (ActsOut.keepaliveSend s n).steady t h
  case silenceLimit n => exact (ActsOut.silenceLimit s n).steady t h
  case matchedTimeout n => exact (ActsOut.matchedTimeout s n).steady t h
  case syncingTimeout n => exact (ActsOut.syncingTimeout s n).steady t h
  case peerFrameSent n => exact (ActsOut.peerFrameSent s n).steady t h

/-- The map side of the rule: MAP_END in INIT and the full resets alone change it. -/
theorem MapOrMode.map {c : Instr} {s t : State} (h : MapOrMode c s t) :
    s.SameMap t ∨ (∃ r, c = .mapEnd r ∧ s.mode = .init) ∨ (∃ a b, c = .powerOn a b) ∨
      ∃ a b, c = .resetLine a b := by
  cases h with
  | mapEnd init _ => exact .inr (.inl ⟨_, rfl, init⟩)
  | powerOn _ => exact .inr (.inr (.inl ⟨_, _, rfl⟩))
  | resetLine _ => exact .inr (.inr (.inr ⟨_, _, rfl⟩))
  | opened _ _ same _ => exact .inl same
  | freeze _ same _ => exact .inl same
  | shutter _ same _ => exact .inl same
  | stop same _ => exact .inl same
  | restart same _ => exact .inl same

/-- The mode side of the rule: which of these commands leads to each mode. -/
theorem MapOrMode.mode {c : Instr} {s t : State} (h : MapOrMode c s t) (hne : t.mode ≠ s.mode) :
    (t.mode = .opened → s.inputs.shutterOpen = false ∧
      ∃ r, c = .openSector r ∨ c = .thaw r ∨ c = .resume r) ∧
    (t.mode = .halted → (c = .stopAsserted ∨ (∃ r, c = .restart r ∧ s.inputs.stopAsserted = true) ∨
      ∃ a, c = .powerOn a true ∨ c = .resetLine a true)) ∧
    (∀ cause, t.mode = .frozen cause → s.mode = .opened ∧
      ((cause = .freeze ∧ ∃ r, c = .freeze r) ∨ (cause = .shutter ∧ c = .shutterOpened))) ∧
    (t.mode = .init → (∃ r, c = .restart r) ∨ ∃ a b, c = .powerOn a b ∨ c = .resetLine a b) := by
  cases h with
  | mapEnd _ mode => exact absurd mode hne
  | @powerOn a b _ _ mode => cases b <;> simp [mode]
  | @resetLine a b _ _ mode => cases b <;> simp [mode]
  | @opened c r _ _ command closed _ mode => simpa [mode, closed] using ⟨r, command⟩
  | freeze opened _ mode => simp [mode, opened]
  | shutter opened _ mode => simp [mode, opened]
  | stop _ mode => simp [mode]
  | restart _ mode => cases hstop : s.inputs.stopAsserted <;> simp [mode, hstop]

/-- Settles O14: of all commands only those of `MapOrMode` can change the map or the mode, and each of
those does it as the rule says. -/
theorem onlyTheseCommandsChangeMapAndMode : Obligations.OnlyTheseCommandsChangeMapAndMode := by
  refine ⟨fun c s t h => ?_, fun c s t h hne => ?_⟩
  · have hsame : s.SameMap t → t.map = s.map ∧ t.siteLens = s.siteLens ∧ t.digests = s.digests ∧
        (t.lenses.map fun l => (l.a, l.b)) = (s.lenses.map fun l => (l.a, l.b)) ∧
        t.robots.length = s.robots.length :=
      fun ⟨hmap, hsite, hdigests, hsides, hrobots⟩ => ⟨hmap, hsite, hdigests, hsides, hrobots⟩
    rcases exec_map_mode h with hs | hc
    · exact .inl (hsame hs.toSameMap)
    · exact hc.map.imp_left hsame
  · rcases exec_map_mode h with hs | hc
    · exact absurd hs.mode hne
    · exact hc.mode hne

end Sys2Proof.Machine
end

section
/-! Two refutations. Both states hold a CLIENT record on a lens with two sides of this sector, which the room
that `State.QueuesRoomy` counts leaves out: its messages join the queue of link 0 (R135), the last frame that
joins there finds the queue full, and the link departs from UP and denies a claim (R145). -/

namespace Sys2Proof.Machine.FullLink

/-- A robot of bus 0, right after the map's installation. -/
def robot : Robot := Robot.install ⟨0, 0, 0, 0, 0, 0, 0, 0, []⟩

/-- A CLIENT record of sites 0 and 1, both of this sector. -/
def inner (c : ClaimState) : Lens := ⟨.site 0, .site 1, .client { Client.empty with claim := c }⟩

/-- A border lens of link 0 whose claim, of site `j`, waits for its answer. -/
def claiming (j : Nat) : Lens := ⟨.remote 0 0, .site j, .client { Client.empty with claim := .claiming }⟩

/-- A link that is UP, with room for one frame. -/
def link : Link := { Link.reset with state := .up, transmit := List.replicate 63 ⟨0, 0, .keepalive⟩ }

/-- The queue of the one link has room for a message of its one border lens. -/
theorem roomy {s : State} (hl : s.links = [link]) (hb : s.borderList 0 = [0]) : s.QueuesRoomy := by
  intro k u hu
  rw [hl] at hu
  cases k with
  | zero =>
    cases hu
    rw [hb]
    decide
  | succ k => simp at hu

/-! ### A leg that is complete -/

/-- A move of two legs, its first in flight with tag 0. -/
def flight : Move :=
  { Move.fresh .field none [⟨.slew, none, none⟩, ⟨.slew, none, none⟩] none false with tag := some 0 }

/-- A disabled robot in a leg, polled. It has a part in each of three lenses. -/
def polled : State :=
  { State.reset with
    robots := [{ robot with state := .inLeg, move := some flight, enabled := false }]
    lenses := [claiming 0, inner .pinned, inner .pinned]
    links := [link]
    buses := [{ Bus.reset with txn := some ⟨.poll, 0, 1, 3⟩ }] }

/-- The robot stands still at its position, with the leg's tag. -/
def arrived : StatusReply := ⟨.still, 0, 0, 0, true, none⟩

/-- The answer to that reply: the claim of lens 0 has been denied, and the move ends DENIED. -/
theorem polled_answer : ∃ t r, exec (.robotReplyGood 0 (.status arrived)) polled = .next t ∧
    t.robots[0]? = some r ∧ r.lastOutcome = some .denied := ⟨_, _, rfl, rfl, rfl⟩

/-! ### A census that ends -/

/-- A robot that waits for the first leg of its HOME. -/
def homing : Robot := { robot with state := .queued, move := some (Move.fresh .home none homeLegs none false) }

/-- A bus at the last slot of an EMPTY round, which knows the robot of site 0. -/
def lastSlot : Bus :=
  { Bus.reset with
    protocol := .census, census := .start, round := some [.empty, .empty, .empty]
    addresses := [some ⟨0, some 0⟩] }

/-- An OFFLINE robot with no history, and a HOME that waits and whose robot occupies lens 3. -/
def counting : State :=
  { State.reset with
    robots := [robot, homing]
    lenses := [claiming 1, inner .none, inner .none,
      ⟨.site 1, .site 2, .decided { Decided.empty with holder := some (.a, .occupied) }⟩]
    links := [link]
    buses := [lastSlot] }

/-- The census ends: the pins of site 0 fill the link's queue, the claim of site 1 is denied, its HOME ends
LOST, and lens 3 is pinned. -/
theorem counting_answer : ∃ t, exec (.rollcallSlotEnd 0 .empty) counting = .next t ∧
    (t.lenses[3]?).map (·.body) = some (.decided { Decided.empty with pinA := true }) := ⟨_, rfl, rfl⟩

theorem counting_noDenialWaits : counting.NoDenialWaits := by
  intro r hr
  simp only [counting, List.mem_cons, List.not_mem_nil, or_false] at hr
  rcases hr with rfl | rfl <;> rfl

end Sys2Proof.Machine.FullLink

open Sys2Proof Sys2Proof.Machine Sys2Proof.Machine.FullLink

/-- Refutes O53: a boundary with beta stowed gives up the parts of the robot's three lenses, two of which send
on link 0 although they are none of its border lenses. The link goes down, the claim of lens 0 is denied, and
the move of the disabled robot ends DENIED where the statement wants DISABLED. -/
theorem not_legPollsFollowTheirTable : ¬ Obligations.LegPollsFollowTheirTable := by
  intro h
  obtain ⟨t, r, hexec, hr, hout⟩ := polled_answer
  obtain ⟨t', r', hexec', -, hr', -, -, -, -, -, -, -, -, hstill⟩ :=
    h polled 0 _ _ _ flight _ arrived rfl rfl rfl rfl rfl rfl rfl (by decide) (by decide) (by decide) rfl
      (by intro r hr; cases List.mem_singleton.mp hr; rfl)
  cases hexec.symm.trans hexec'
  cases hr.symm.trans hr'
  obtain ⟨-, -, -, hnext⟩ := hstill rfl rfl rfl rfl
  obtain ⟨-, hleg⟩ := hnext ⟨nofun, nofun⟩ (by decide)
  obtain ⟨hdisabled, -, -⟩ := hleg rfl (.inr (roomy rfl rfl))
  obtain ⟨-, -, hlast⟩ := hdisabled rfl
  cases hout.symm.trans hlast

/-- Refutes O47: the discovery pins of site 0 send on link 0 from two lenses that are none of its border lenses.
The link goes down, the claim of site 1 is denied, its HOME ends LOST, and site 1 pins lens 3, of which the
statement wants the pins unchanged. -/
theorem not_censusRunsInRounds : ¬ Obligations.CensusRunsInRounds := by
  intro h
  obtain ⟨t, hexec, hlens⟩ := counting_answer
  obtain ⟨-, -, hslots⟩ := h counting 0 lastSlot rfl
  obtain ⟨-, -, -, hlast⟩ := hslots [.empty, .empty, .empty] .empty rfl
  obtain ⟨-, hends⟩ := hlast (by decide)
  obtain ⟨t', c, b', hexec', -, -, -, -, -, -, -, -, -, -, -, -, -, -, hpins⟩ := hends (.inl (by decide))
  cases hexec.symm.trans hexec'
  obtain ⟨d', hd', hp⟩ := hpins 3 _ _ .a counting_noDenialWaits (roomy rfl rfl) rfl rfl (by
    rintro j r hside ⟨hr, hoff, -⟩
    cases hside
    cases hr
    cases hoff)
  rw [hlens] at hd'
  cases hd'
  cases hp
end

section
/-! The state after a full reset is within every bound that the steps keep. -/

open Sys2Proof Sys2Proof.Machine

/-- A reset link unit has an empty queue and no count (R133). -/
theorem Sys2Proof.Machine.State.reset_links {l : Link} (hl : l ∈ State.reset.links) : l = Link.reset :=
  List.eq_of_mem_replicate hl

/-- A reset bus has its twelve addresses and four counters (R162, R163). -/
theorem Sys2Proof.Machine.State.reset_buses {b : Bus} (hb : b ∈ State.reset.buses) : b = Bus.reset :=
  List.eq_of_mem_replicate hb

/-- Settles O60: a reset state has no lens, no robot and no queued item, and its links, buses and parameters are
the reset ones. -/
theorem resetMeetsTheInvariants : Obligations.ResetMeetsTheInvariants := by
  refine ⟨fun l hl => ?_, ⟨Nat.zero_le _, Nat.zero_le _, Nat.zero_le _, fun l hl => ?_⟩,
    ⟨rfl, rfl, fun b hb => ?_⟩, ⟨Nat.zero_le _, Nat.zero_le _, fun l hl => ?_, fun r hr => ?_⟩, by decide,
    fun r hr => ?_, fun r hr => ?_⟩
  · exact absurd hl List.not_mem_nil
  · rw [State.reset_links hl]; decide
  · rw [State.reset_buses hb]; decide
  · rw [State.reset_links hl]; decide
  all_goals exact absurd hr List.not_mem_nil
end

section
/-! Lists whose members correspond place by place. -/

namespace Sys2Proof.Machine

/-- Two lists have the same places, and the members at each place `i` are related by `R i`. -/
def Matched {α : Type} (R : Nat → α → α → Prop) (l m : List α) : Prop := ∀ i : Nat, Option.Rel (R i) l[i]? m[i]?

namespace Matched

variable {α : Type} {R S : Nat → α → α → Prop} {l m n : List α}

theorem refl (h : ∀ i x, R i x x) (l : List α) : Matched R l l := fun i => by
  cases l[i]? with
  | none => exact .none
  | some x => exact .some (h i x)

theorem trans (h : ∀ i x y z, R i x y → R i y z → R i x z) (h1 : Matched R l m) (h2 : Matched R m n) :
    Matched R l n := fun i => by
  have h1 := h1 i
  have h2 := h2 i
  revert h1 h2
  generalize l[i]? = a, m[i]? = b, n[i]? = c
  rintro (hab | _) (hbc | _)
  · exact .some (h i _ _ _ hab hbc)
  · exact .none

theorem mono (h : ∀ i x y, R i x y → S i x y) (h1 : Matched R l m) : Matched S l m := fun i => by
  have h1 := h1 i
  revert h1
  generalize l[i]? = a, m[i]? = b
  rintro (hab | _)
  · exact .some (h i _ _ hab)
  · exact .none

/-- The member at a place of the first list has its counterpart. -/
theorem get (h : Matched R l m) {i : Nat} {x : α} (hx : l[i]? = some x) :
    ∃ y, m[i]? = some y ∧ R i x y := by
  have := h i
  rw [hx] at this
  generalize m[i]? = b at this ⊢
  cases this with
  | some hxy => exact ⟨_, rfl, hxy⟩

/-- The member at a place of the second list is the counterpart of one. -/
theorem get' (h : Matched R l m) {i : Nat} {y : α} (hy : m[i]? = some y) :
    ∃ x, l[i]? = some x ∧ R i x y := by
  have := h i
  rw [hy] at this
  generalize l[i]? = a at this ⊢
  cases this with
  | some hxy => exact ⟨_, rfl, hxy⟩

/-- A member of the second list is the counterpart of a member of the first. -/
theorem mem (h : Matched R l m) {y : α} (hy : y ∈ m) : ∃ i x, l[i]? = some x ∧ x ∈ l ∧ R i x y := by
  obtain ⟨i, hi⟩ := List.mem_iff_getElem?.mp hy
  obtain ⟨x, hx, hxy⟩ := h.get' hi
  exact ⟨i, x, hx, List.mem_of_getElem? hx, hxy⟩

theorem length (h : Matched R l m) : m.length = l.length := by
  have hle : ∀ i : Nat, m.length ≤ i ↔ l.length ≤ i := fun i => by
    rw [← List.getElem?_eq_none_iff, ← List.getElem?_eq_none_iff]
    have := h i
    revert this
    generalize l[i]? = a, m[i]? = b
    rintro (_ | _) <;> simp
  exact Nat.le_antisymm ((hle _).mpr le_rfl) ((hle _).mp le_rfl)

/-- A change of one member. -/
theorem modify {i : Nat} {f : α → α} (hrefl : ∀ i x, R i x x) (h : ∀ x, l[i]? = some x → R i x (f x)) :
    Matched R l (l.modify i f) := fun j => by
  rw [List.getElem?_modify]
  cases hx : l[j]? with
  | none => exact .none
  | some x =>
    by_cases hij : i = j
    · subst hij
      simpa using h x hx
    · simpa [hij] using hrefl j x

/-- A change of every member. -/
theorem map {f : α → α} (h : ∀ i x, l[i]? = some x → R i x (f x)) : Matched R l (l.map f) := fun i => by
  rw [List.getElem?_map]
  cases hx : l[i]? with
  | none => exact .none
  | some x => exact .some (h i x hx)

/-- Where every counterpart of a member that satisfies `p` is of one that does, no more members satisfy
`p`. -/
theorem countP_le {p : α → Bool} (h : Matched (fun _ x y => p y = true → p x = true) l m) :
    m.countP p ≤ l.countP p := by
  induction l generalizing m with
  | nil =>
    have : m = [] := List.eq_nil_of_length_eq_zero h.length
    simp [this]
  | cons x l ih =>
    cases m with
    | nil => simp
    | cons y m =>
      have hxy : p y = true → p x = true := by
        obtain ⟨z, hz, hxz⟩ := h.get' (i := 0) rfl
        cases hz
        exact hxz
      have := ih (m := m) fun i => h (i + 1)
      by_cases hy : p y = true
      · rw [List.countP_cons_of_pos hy, List.countP_cons_of_pos (hxy hy)]
        omega
      · rw [List.countP_cons_of_neg hy]
        exact this.trans (by rw [List.countP_cons]; omega)

/-- Fewer members satisfy `p` where one that did has a counterpart that does not. -/
theorem countP_lt {p : α → Bool} (h : Matched (fun _ x y => p y = true → p x = true) l m) {i : Nat}
    {x y : α} (hx : l[i]? = some x) (hy : m[i]? = some y) (hpx : p x = true) (hpy : p y = false) :
    m.countP p < l.countP p := by
  induction i generalizing l m with
  | zero =>
    cases l with
    | nil => cases hx
    | cons x' l =>
      cases m with
      | nil => cases hy
      | cons y' m =>
        cases hx
        cases hy
        have := countP_le (l := l) (m := m) fun i => h (i + 1)
        rw [List.countP_cons_of_pos hpx, List.countP_cons_of_neg (by simp [hpy])]
        omega
  | succ i ih =>
    cases l with
    | nil => cases hx
    | cons x' l =>
      cases m with
      | nil => cases hy
      | cons y' m =>
        have hxy : p y' = true → p x' = true := by
          obtain ⟨z, hz, hxz⟩ := h.get' (i := 0) rfl
          cases hz
          exact hxz
        have := ih (l := l) (m := m) (fun i => h (i + 1)) hx hy
        rw [List.countP_cons, List.countP_cons]
        by_cases hy' : p y' = true
        · simp [hy', hxy hy', this]
        · simp [hy']
          omega

end Matched

end Sys2Proof.Machine
end

section
/-! What the end of moves does to robots, links, buses and lens records, as a relation of two states: robots
are told grants and denials, links take messages or go down, queues of the buses change, and holdings are
given up (R57 to R62, R82, R96, R135, R145). -/

namespace Sys2Proof.Machine

/-! ### A robot that is told -/

/-- A move but for the denial it carries. -/
def Move.undenied (m : Move) : Move := { m with pendingDenial := none }

/-- A robot has at most been told: from WAIT_LENS it may be QUEUED (R57), and a claim that waits may have
been denied (R93). -/
structure Robot.Told (r r' : Robot) : Prop where
  rest : r' = { r with state := r'.state, move := r'.move }
  state : r'.state = r.state ∨ (r.state = .waitLens ∧ r'.state = .queued)
  move : r'.move.map Move.undenied = r.move.map Move.undenied
  quiet : r.state ≠ .queued → r.state ≠ .waitLens → r.state ≠ .inLeg → r'.move = r.move

namespace Robot.Told

theorem refl (r : Robot) : r.Told r := ⟨rfl, .inl rfl, rfl, fun _ _ _ => rfl⟩

theorem trans {r r1 r2 : Robot} (h1 : r.Told r1) (h2 : r1.Told r2) : r.Told r2 := by
  refine ⟨?_, ?_, h2.move.trans h1.move, fun hq hw hl => ?_⟩
  · rw [h2.rest, h1.rest]
  · rcases h1.state with h | ⟨hw, hq⟩
    · rw [← h]; exact h2.state
    · refine .inr ⟨hw, ?_⟩
      rcases h2.state with h | ⟨h, -⟩
      · exact h.trans hq
      · rw [hq] at h; cases h
  · have hs : r1.state = r.state := h1.state.resolve_right fun h => hw h.1
    exact (h2.quiet (hs ▸ hq) (hs ▸ hw) (hs ▸ hl)).trans (h1.quiet hq hw hl)

/-- A robot that is told has a move exactly where it had one. -/
theorem isSome {r r' : Robot} (h : r.Told r') : r'.move.isSome = r.move.isSome := by
  simpa using congrArg Option.isSome h.move

/-- A robot that neither waits nor is in a leg is as it was. -/
theorem same {r r' : Robot} (h : r.Told r') (hq : r.state ≠ .queued) (hw : r.state ≠ .waitLens)
    (hl : r.state ≠ .inLeg) : r' = r := by
  rw [h.rest, h.quiet hq hw hl, h.state.resolve_right fun h => hw h.1]

/-- Outside WAIT_LENS a robot that is told keeps its state. -/
theorem keepsState {r r' : Robot} (h : r.Told r') (hw : r.state ≠ .waitLens) : r'.state = r.state :=
  h.state.resolve_right fun h => hw h.1

/-- A robot that is told is at rest with its move exactly where it was. -/
theorem atRest {r r' : Robot} (h : r.Told r') : r'.atRest = r.atRest := by
  unfold Robot.atRest
  rcases h.state with hs | ⟨hw, hq⟩
  · rw [hs]
  · rw [hw, hq]; rfl

/-- The move of a robot that is told, but for its denial. -/
theorem someMove {r r' : Robot} {m : Move} (h : r.Told r') (hm : r.move = some m) :
    ∃ m', r'.move = some m' ∧ m' = { m with pendingDenial := m'.pendingDenial } := by
  have hmap := h.move
  rw [hm] at hmap
  obtain ⟨m', hm', hu⟩ := Option.map_eq_some_iff.mp hmap
  refine ⟨m', hm', ?_⟩
  unfold Move.undenied at hu
  cases m'
  cases m
  simp only [Move.mk.injEq] at hu ⊢
  simpa using hu

theorem noMove {r r' : Robot} (h : r.Told r') (hm : r.move = none) : r'.move = none := by
  have := h.isSome
  rw [hm] at this
  simpa using this

end Robot.Told

/-- What becomes of a robot where moves end: one that does not give up is told, and no move is new. -/
structure Robot.Ebbs (ends : Prop) (r r' : Robot) : Prop where
  told : ¬ ends → r.Told r'
  noNew : r'.move.isSome = true → r.move.isSome = true

/-! ### Links and buses -/

/-- A link unit takes frames while it is UP or goes down, within its bounds. -/
structure Link.Ebbs (u u' : Link) : Prop where
  up : u'.state = .up → u.state = .up ∧ ∀ f ∈ u.transmit, f ∈ u'.transmit
  transmit : u.transmit.length ≤ Config.transmitDepth → u'.transmit.length ≤ Config.transmitDepth
  errors : u.errors ≤ Config.top16 → u'.errors ≤ Config.top16
  drops : u.drops ≤ Config.top8 → u'.drops ≤ Config.top8

theorem Link.Ebbs.refl (u : Link) : u.Ebbs u := ⟨fun h => ⟨h, fun _ hf => hf⟩, id, id, id⟩

theorem Link.Ebbs.trans {u v w : Link} (h1 : u.Ebbs v) (h2 : v.Ebbs w) : u.Ebbs w :=
  ⟨fun h => ⟨(h1.up (h2.up h).1).1, fun f hf => (h2.up h).2 f ((h1.up (h2.up h).1).2 f hf)⟩,
    h2.transmit ∘ h1.transmit, h2.errors ∘ h1.errors, h2.drops ∘ h1.drops⟩

/-- A bus whose dispatch queues alone change. -/
def Bus.Ebbs (b b' : Bus) : Prop := b' = { b with queueA := b'.queueA, queueB := b'.queueB }

theorem Bus.Ebbs.refl (b : Bus) : b.Ebbs b := rfl

theorem Bus.Ebbs.trans {b c d : Bus} (h1 : b.Ebbs c) (h2 : c.Ebbs d) : b.Ebbs d := by
  unfold Bus.Ebbs at *
  rw [h2, h1]

/-! ### Lens records -/

/-- A decided record as holdings are given up. `keeps p`: side `p` is of no robot that gives up. `stands p`:
nor is it a remote side whose link has gone down. -/
structure Decided.Ebbs (keeps stands : Party → Prop) (d d' : Decided) : Prop where
  wf : d.wf = true → d'.wf = true
  free : d.holder = none → d'.holder = none
  unwaited : d.waiter = none → d'.waiter = none
  apart : ∀ p, d.heldBy p = false → d.waiter ≠ some p → d'.heldBy p = false ∧ d'.waiter ≠ some p
  noneOccupies : ∀ p, d'.holder = some (p, .occupied) → d.holder = some (p, .occupied)
  pins : ∀ p, d.holder ≠ some (p, .occupied) → d'.pinned p = d.pinned p
  kept : ∀ p k, d.holder = some (p, k) → keeps p → d'.holder = some (p, k)
  occupied : ∀ p, d.holder = some (p, .occupied) →
    d'.holder = some (p, .occupied) ∨ (d'.holder = none ∧ d'.pinned p = true ∧ d'.waiter = none)
  reserved : ∀ p, d.wf = true → d.holder = some (p, .reserved) → d'.holder = some (p, .reserved) ∨
    (d'.heldBy p = false ∧ d'.waiter ≠ some p ∧ (d.waiter = none → d'.holder = none))
  next : ∀ p q, d.holder = some (p, .reserved) → d.waiter = some q → stands q →
    (d'.holder = some (p, .reserved) ∧ d'.waiter = some q) ∨ d'.holder = some (q, .reserved)

namespace Decided.Ebbs

variable {G S : Party → Prop}

theorem refl (d : Decided) : Decided.Ebbs G S d d :=
  ⟨id, id, id, fun _ h1 h2 => ⟨h1, h2⟩, fun _ h => h, fun _ _ => rfl, fun _ _ h _ => h, fun _ h => .inl h,
    fun _ _ h => .inl h, fun _ _ h1 h2 _ => .inl ⟨h1, h2⟩⟩

/-- Fewer sides keep or stand. -/
theorem mono {G' S' : Party → Prop} {d d' : Decided} (hG : ∀ p, G' p → G p) (hS : ∀ p, S' p → S p)
    (h : Decided.Ebbs G S d d') : Decided.Ebbs G' S' d d' :=
  { h with
    kept := fun p k hp hg => h.kept p k hp (hG p hg)
    next := fun p q hp hq hs => h.next p q hp hq (hS q hs) }

theorem heldBy_false {d : Decided} (h : d.holder = none) (p : Party) : d.heldBy p = false := by
  simp [Decided.heldBy, h]

theorem trans (hSG : ∀ p, S p → G p) {d d1 d2 : Decided} (h1 : Decided.Ebbs G S d d1) (h2 : Decided.Ebbs G S d1 d2) :
    Decided.Ebbs G S d d2 where
  wf h := h2.wf (h1.wf h)
  free h := h2.free (h1.free h)
  unwaited h := h2.unwaited (h1.unwaited h)
  apart p hh hw := by
    obtain ⟨a, b⟩ := h1.apart p hh hw
    exact h2.apart p a b
  noneOccupies p h := h1.noneOccupies p (h2.noneOccupies p h)
  pins p h := (h2.pins p fun h' => h (h1.noneOccupies p h')).trans (h1.pins p h)
  kept p k hp hg := h2.kept p k (h1.kept p k hp hg) hg
  occupied p h := by
    rcases h1.occupied p h with h | ⟨hn, hp, hw⟩
    · exact h2.occupied p h
    · exact .inr ⟨h2.free hn, (h2.pins p (by simp [hn])).trans hp, h2.unwaited hw⟩
  reserved p hwf h := by
    rcases h1.reserved p hwf h with h' | ⟨hn, hw, hf⟩
    · rcases h2.reserved p (h1.wf hwf) h' with h'' | ⟨hn, hw, hf⟩
      · exact .inl h''
      · exact .inr ⟨hn, hw, fun hd => hf (h1.unwaited hd)⟩
    · obtain ⟨hn', hw'⟩ := h2.apart p hn hw
      exact .inr ⟨hn', hw', fun hd => h2.free (hf hd)⟩
  next p q hp hq hs := by
    rcases h1.next p q hp hq hs with ⟨hp1, hq1⟩ | hq1
    · exact h2.next p q hp1 hq1 hs
    · exact .inr (h2.kept q _ hq1 (hSG q hs))

/-- A waiter of a remote side goes where its link goes down (R145). -/
theorem dropWaiter {d : Decided} (h : ∀ q, d.waiter = some q → S q → ∀ p, d.holder ≠ some (p, .reserved)) :
    Decided.Ebbs G S d d.dropWaiter where
  wf := Decided.wf_dropWaiter
  free h := h
  unwaited _ := rfl
  apart _ hh _ := ⟨hh, by simp [Decided.dropWaiter]⟩
  noneOccupies _ h := h
  pins p _ := by cases p <;> rfl
  kept _ _ h _ := h
  occupied _ h := .inl h
  reserved _ _ h := .inl h
  next p q hp hq hs := absurd hp (h q hq hs p)

/-- A side that gives up its holding releases it (R59). -/
theorem release {d : Decided} {p : Party} (hp : d.holder = some (p, .reserved)) (hg : ¬ G p) :
    Decided.Ebbs G S d d.release := by
  rcases d with ⟨h, pa, pb, w, t⟩
  cases hp
  have hpins : ∀ q, (Decided.release ⟨some (p, .reserved), pa, pb, w, t⟩).pinned q =
      Decided.pinned ⟨some (p, .reserved), pa, pb, w, t⟩ q := fun q => by cases q <;> cases w <;> rfl
  refine ⟨Decided.wf_release, nofun, fun h => ?_, fun q hh hw => ?_, fun q h => ?_, fun q _ => hpins q,
    fun q k h hq => ?_, fun q h => ?_, fun q hwf h => ?_, fun q r h hw hs => ?_⟩
  · cases h; rfl
  · cases w <;> simp_all [Decided.release, Decided.heldBy]
  · cases w <;> simp [Decided.release] at h
  · cases h; exact absurd hq hg
  · cases h
  · cases h
    right
    cases w with
    | none => simp [Decided.release, Decided.heldBy]
    | some w =>
      have := ((Decided.wf_iff _).mp hwf).2.2 w rfl
      cases p <;> cases w <;> simp_all [Decided.release, Decided.heldBy, Party.other]
  · cases hw
    exact .inr rfl

/-- A side that gives up an OCCUPIED holding leaves its pin (R62). -/
theorem toPin {d : Decided} {p : Party} (hp : d.holder = some (p, .occupied)) (hg : ¬ G p) :
    Decided.Ebbs G S d (d.toPin p) := by
  have hh : (d.toPin p).holder = none := rfl
  have hw : (d.toPin p).waiter = none := rfl
  have hn : ∀ q, (d.toPin p).heldBy q = false := heldBy_false hh
  refine ⟨fun _ => Decided.wf_toPin p, fun _ => hh, fun _ => hw, fun q _ _ => ⟨hn q, by simp [hw]⟩,
    fun q h => absurd h (by simp [hh]), fun q hq => ?_, fun q k h hq => ?_, fun q h => .inr ⟨hh, ?_, hw⟩,
    fun q _ h => ?_, fun q r h _ _ => ?_⟩
  · have hne : p ≠ q := fun h => hq (h ▸ hp)
    cases p <;> cases q <;> first | rfl | exact absurd rfl hne
  · rw [hp] at h; cases h; exact absurd hq hg
  · rw [hp] at h; cases h
    cases p <;> rfl
  · rw [hp] at h; cases h
  · rw [hp] at h; cases h

end Decided.Ebbs

/-- A client record as holdings are given up. `sends m`: the message `m` about the lens waits in its link's
queue, where the link is UP. -/
structure Client.Ebbs (sends : BorderMessage → Prop) (c c' : Client) : Prop where
  refusal : c'.lastRefusal = c.lastRefusal
  pinned : c.claim = .pinned → c'.claim = .pinned
  none : c.claim = .none → c'.claim = .none
  claiming : c.claim = .claiming → c'.claim = .claiming ∨ c'.claim = .none
  occupied : c.claim = .heldOccupied → c'.claim = .heldOccupied ∨ (c'.claim = .pinned ∧ sends .pin)
  reserved : c.claim = .heldReserved → c'.claim = .heldReserved ∨ (c'.claim = .none ∧ sends .release)

namespace Client.Ebbs

theorem refl {M : BorderMessage → Prop} (c : Client) : Client.Ebbs M c c :=
  ⟨rfl, id, id, .inl, .inl, .inl⟩

theorem mono {M M' : BorderMessage → Prop} {c c' : Client} (hM : ∀ m, M m → M' m) (h : Client.Ebbs M c c') :
    Client.Ebbs M' c c' :=
  { h with
    occupied := fun hc => (h.occupied hc).imp_right fun ⟨h1, h2⟩ => ⟨h1, hM _ h2⟩
    reserved := fun hc => (h.reserved hc).imp_right fun ⟨h1, h2⟩ => ⟨h1, hM _ h2⟩ }

theorem trans {M : BorderMessage → Prop} {c c1 c2 : Client} (h1 : Client.Ebbs M c c1) (h2 : Client.Ebbs M c1 c2) :
    Client.Ebbs M c c2 where
  refusal := h2.refusal.trans h1.refusal
  pinned h := h2.pinned (h1.pinned h)
  none h := h2.none (h1.none h)
  claiming h := by
    rcases h1.claiming h with h | h
    · exact h2.claiming h
    · exact .inr (h2.none h)
  occupied h := by
    rcases h1.occupied h with h | ⟨h, hm⟩
    · exact h2.occupied h
    · exact .inr ⟨h2.pinned h, hm⟩
  reserved h := by
    rcases h1.reserved h with h | ⟨h, hm⟩
    · exact h2.reserved h
    · exact .inr ⟨h2.none h, hm⟩

end Client.Ebbs

end Sys2Proof.Machine
end

section
/-! `State.Ebbs`: the relation of two states as moves end and holdings are given up, with its steps. -/

namespace Sys2Proof.Machine

/-! ### The names of lenses -/

/-- The sides of every lens are the same in both states (R4). -/
def State.SameSides (s t : State) : Prop := (t.lenses.map fun l => (l.a, l.b)) = s.lenses.map fun l => (l.a, l.b)

theorem State.SameSides.lens {s t : State} (h : s.SameSides t) (i : Nat) :
    (t.lenses[i]?.map fun l => (l.a, l.b)) = s.lenses[i]?.map fun l => (l.a, l.b) := by
  have := congrArg (·[i]?) h
  simpa using this

/-- A border list is read from the lenses' sides (R135). -/
theorem State.SameSides.borderList {s t : State} (h : s.SameSides t) (n : Nat) : t.borderList n = s.borderList n := by
  have hlen : t.lenses.length = s.lenses.length := by simpa using congrArg List.length h
  unfold State.borderList
  rw [hlen]
  refine List.filter_congr fun i _ => ?_
  have := h.lens i
  unfold State.lensHas
  cases ht : t.lenses[i]? <;> cases hs : s.lenses[i]? <;> simp_all [Lens.link]

/-- The name of a lens is read from the lenses' sides (R135). -/
theorem State.SameSides.lensName {s t : State} (h : s.SameSides t) (n i : Nat) : t.lensName n i = s.lensName n i := by
  have hpair : t.lenses[i]?.map Lens.pair = s.lenses[i]?.map Lens.pair := by
    have := congrArg (Option.map fun x : LensSide × LensSide => (x.1.index, x.2.index)) (h.lens i)
    rw [Option.map_map, Option.map_map] at this
    exact this
  simp only [State.lensName, h.borderList, hpair]

/-! ### The relation -/

/-- Side `p` of a lens is of no robot that gives up. -/
def Lens.keeps (l : Lens) (E : Nat → Prop) (p : Party) : Prop := ∀ j, E j → l.partyOf j ≠ some p

/-- Side `p` of a lens is of no robot that gives up, and no remote side whose link is down in `t`. -/
def State.stands (t : State) (E : Nat → Prop) (l : Lens) (p : Party) : Prop :=
  l.keeps E p ∧ ∀ k m, l.side p = .remote k m → ∃ u, t.links[k]? = some u ∧ u.state = .up

/-- A lens of `s` and what it has become in `t`, where the robots of `E` give up. -/
structure Lens.Ebbs (E : Nat → Prop) (t : State) (i : Nat) (l l' : Lens) : Prop where
  decided : ∀ d, l.body = .decided d →
    ∃ d', l'.body = .decided d' ∧ Decided.Ebbs (l.keeps E) (t.stands E l) d d'
  client : ∀ c, l.body = .client c → ∃ c', l'.body = .client c' ∧ Client.Ebbs (t.Sends l i) c c'

theorem Lens.Ebbs.refl (E : Nat → Prop) (t : State) (i : Nat) (l : Lens) : Lens.Ebbs E t i l l :=
  ⟨fun d h => ⟨d, h, .refl d⟩, fun c h => ⟨c, h, .refl c⟩⟩

/-- `t` comes from `s` as moves end and holdings are given up: the robots of `E` may give up what they have,
and the lenses of `X` may change otherwise. -/
structure State.Ebbs (E X : Nat → Prop) (s t : State) : Prop where
  frame : t = { s with
    lenses := t.lenses, robots := t.robots, outcomes := t.outcomes, overflow := t.overflow, field := t.field,
    timer := t.timer, links := t.links, buses := t.buses, notices := t.notices }
  busTrip : s.notices.busTrip = true → t.notices.busTrip = true
  inquiryDone : s.notices.inquiryDone = true → t.notices.inquiryDone = true
  robots : Matched (fun i => Robot.Ebbs (E i)) s.robots t.robots
  links : Matched (fun _ => Link.Ebbs) s.links t.links
  buses : Matched (fun _ => Bus.Ebbs) s.buses t.buses
  lenses : Matched (fun i l l' => (l'.a = l.a ∧ l'.b = l.b) ∧ (¬ X i → Lens.Ebbs E t i l l')) s.lenses t.lenses

theorem Robot.Told.ebbs {ends : Prop} {r r' : Robot} (h : r.Told r') : Robot.Ebbs ends r r' :=
  ⟨fun _ => h, fun hm => h.isSome ▸ hm⟩

namespace State.Ebbs

variable {E X : Nat → Prop} {s t u : State}

/-- Lenses that stay as they are. -/
theorem sameLenses (t : State) (l : List Lens) :
    Matched (fun i l l' => (l'.a = l.a ∧ l'.b = l.b) ∧ (¬ X i → Lens.Ebbs E t i l l')) l l :=
  .refl (fun i l => ⟨⟨rfl, rfl⟩, fun _ => .refl E t i l⟩) l

theorem refl (s : State) : s.Ebbs E X s :=
  ⟨rfl, id, id, .refl (fun _ r => (Robot.Told.refl r).ebbs) _, .refl (fun _ => Link.Ebbs.refl) _,
    .refl (fun _ => Bus.Ebbs.refl) _, sameLenses s _⟩

theorem sides (h : s.Ebbs E X t) : s.SameSides t := by
  apply List.ext_getElem?
  intro i
  rw [List.getElem?_map, List.getElem?_map]
  cases hl : s.lenses[i]? with
  | none =>
    have := h.lenses i
    rw [hl] at this
    generalize t.lenses[i]? = b at this ⊢
    cases this
    rfl
  | some l =>
    obtain ⟨l', hl', ⟨ha, hb⟩, -⟩ := h.lenses.get hl
    simp [hl', ha, hb]

/-- A link that is UP in the end was UP, and holds the frames it held. -/
theorem linkUp (h : s.Ebbs E X t) {k : Nat} {v : Link} (hv : t.links[k]? = some v) (hup : v.state = .up) :
    ∃ w, s.links[k]? = some w ∧ w.state = .up ∧ ∀ f ∈ w.transmit, f ∈ v.transmit := by
  obtain ⟨w, hw, hwv⟩ := h.links.get' hv
  exact ⟨w, hw, (hwv.up hup).1, (hwv.up hup).2⟩

/-- A message that waits goes on waiting while its link is UP. -/
theorem sends (h : s.Ebbs E X t) {l : Lens} {i : Nat} {m : BorderMessage} (hm : s.Sends l i m) :
    t.Sends l i m := by
  intro k v hk hv hup
  obtain ⟨w, hw, hwup, hsub⟩ := h.linkUp hv hup
  obtain ⟨f, hf, hfb⟩ := hm k w hk hw hwup
  exact ⟨f, hsub f hf, by rw [hfb, h.sides.lensName]⟩

theorem stands_of (h : s.Ebbs E X t) {l : Lens} {p : Party} (hp : t.stands E l p) : s.stands E l p := by
  refine ⟨hp.1, fun k m hk => ?_⟩
  obtain ⟨v, hv, hup⟩ := hp.2 k m hk
  obtain ⟨w, hw, hwup, -⟩ := h.linkUp hv hup
  exact ⟨w, hw, hwup⟩

theorem partyOf_congr {l l' : Lens} (ha : l'.a = l.a) (hb : l'.b = l.b) (j : Nat) : l'.partyOf j = l.partyOf j := by
  simp [Lens.partyOf, ha, hb]

theorem keeps_congr {l l' : Lens} (ha : l'.a = l.a) (hb : l'.b = l.b) (E : Nat → Prop) :
    l'.keeps E = l.keeps E := by
  funext p
  simp [Lens.keeps, partyOf_congr ha hb]

theorem stands_congr {l l' : Lens} (ha : l'.a = l.a) (hb : l'.b = l.b) (E : Nat → Prop) (t : State) :
    t.stands E l' = t.stands E l := by
  funext p
  cases p <;> simp [State.stands, keeps_congr ha hb, Lens.side, ha, hb]

theorem sends_congr {l l' : Lens} (ha : l'.a = l.a) (hb : l'.b = l.b) (t : State) (i : Nat) :
    t.Sends l' i = t.Sends l i := by
  funext m
  simp [State.Sends, Lens.link, ha, hb]

/-- What a lens has become goes on by a further change. -/
theorem lens_trans (h : t.Ebbs E X u) {i : Nat} {l l' l'' : Lens} (ha : l'.a = l.a) (hb : l'.b = l.b)
    (h1 : Lens.Ebbs E t i l l') (h2 : Lens.Ebbs E u i l' l'') : Lens.Ebbs E u i l l'' where
  decided d hd := by
    obtain ⟨d1, hd1, he1⟩ := h1.decided d hd
    obtain ⟨d2, hd2, he2⟩ := h2.decided d1 hd1
    rw [keeps_congr ha hb, stands_congr ha hb] at he2
    exact ⟨d2, hd2, (he1.mono (fun _ => id) fun _ => h.stands_of).trans (fun _ => And.left) he2⟩
  client c hc := by
    obtain ⟨c1, hc1, he1⟩ := h1.client c hc
    obtain ⟨c2, hc2, he2⟩ := h2.client c1 hc1
    rw [sends_congr ha hb] at he2
    exact ⟨c2, hc2, (he1.mono fun _ => h.sends).trans he2⟩

theorem trans (h1 : s.Ebbs E X t) (h2 : t.Ebbs E X u) : s.Ebbs E X u where
  frame := by rw [h2.frame, h1.frame]
  busTrip h := h2.busTrip (h1.busTrip h)
  inquiryDone h := h2.inquiryDone (h1.inquiryDone h)
  robots := h1.robots.trans (fun _ _ _ _ a b => ⟨fun he => (a.told he).trans (b.told he), fun h => a.noNew (b.noNew h)⟩)
    h2.robots
  links := h1.links.trans (fun _ _ _ _ => Link.Ebbs.trans) h2.links
  buses := h1.buses.trans (fun _ _ _ _ => Bus.Ebbs.trans) h2.buses
  lenses := by
    intro i
    cases hl : s.lenses[i]? with
    | none =>
      have a := h1.lenses i
      have b := h2.lenses i
      rw [hl] at a
      generalize t.lenses[i]? = x at a b
      cases a
      exact b
    | some l =>
      obtain ⟨l', hl', ⟨ha, hb⟩, he1⟩ := h1.lenses.get hl
      obtain ⟨l'', hl'', ⟨ha', hb'⟩, he2⟩ := h2.lenses.get hl'
      rw [hl'']
      exact .some ⟨⟨ha'.trans ha, hb'.trans hb⟩, fun hx => h2.lens_trans ha hb (he1 hx) (he2 hx)⟩

/-- More robots may give up, and more lenses change otherwise. -/
theorem mono {E' X' : Nat → Prop} (hE : ∀ j, E j → E' j) (hX : ∀ i, X i → X' i) (h : s.Ebbs E X t) :
    s.Ebbs E' X' t := by
  have hk : ∀ (l : Lens) p, l.keeps E' p → l.keeps E p := fun l p hp j hj => hp j (hE j hj)
  exact { h with
    robots := h.robots.mono fun i r r' hr => ⟨fun he => hr.told fun h => he (hE i h), hr.noNew⟩
    lenses := h.lenses.mono fun i l l' ⟨hs, hl⟩ => ⟨hs, fun hx =>
      ⟨fun d hd => by
        obtain ⟨d', hd', he⟩ := (hl fun h => hx (hX i h)).decided d hd
        exact ⟨d', hd', he.mono (hk l) fun p hp => ⟨hk l p hp.1, hp.2⟩⟩,
      (hl fun h => hx (hX i h)).client⟩⟩ }

/-! ### Single changes -/

/-- A robot is changed. -/
theorem robot (s : State) {i : Nat} {f : Robot → Robot}
    (h : ∀ r, s.robots[i]? = some r → Robot.Ebbs (E i) r (f r)) : s.Ebbs E X (s.modRobot i f) :=
  { refl (E := E) (X := X) s with
    frame := rfl
    robots := .modify (fun _ r => (Robot.Told.refl r).ebbs) h
    lenses := sameLenses _ _ }

/-- A bus's queues are changed. -/
theorem bus (s : State) (n : Nat) {f : Bus → Bus} (h : ∀ b, Bus.Ebbs b (f b)) : s.Ebbs E X (s.modBus n f) :=
  { refl (E := E) (X := X) s with
    frame := rfl
    buses := .modify (fun _ => Bus.Ebbs.refl) fun b _ => h b
    lenses := sameLenses _ _ }

/-- The outcome queue, the field, the timer or a notice is changed. -/
theorem rest (s : State) (outcomes : List OutcomeRecord) (overflow : Bool) (field : FieldRecord) (timer : Timer)
    (notices : Notices) (hb : s.notices.busTrip = true → notices.busTrip = true)
    (hi : s.notices.inquiryDone = true → notices.inquiryDone = true) :
    s.Ebbs E X { s with outcomes, overflow, field, timer, notices } :=
  { refl (E := E) (X := X) s with frame := rfl, busTrip := hb, inquiryDone := hi, lenses := sameLenses _ _ }

/-- A link is changed. -/
theorem link (s : State) {n : Nat} {f : Link → Link} (h : ∀ u, s.links[n]? = some u → u.Ebbs (f u)) :
    s.Ebbs E X (s.modLink n f) :=
  { refl (E := E) (X := X) s with
    frame := rfl
    links := .modify (fun _ => Link.Ebbs.refl) h
    lenses := sameLenses _ _ }

/-- A lens record is changed. -/
theorem lens (s : State) {i : Nat} {f : LensBody → LensBody}
    (h : ∀ l, s.lenses[i]? = some l → ¬ X i → Lens.Ebbs E s i l { l with body := f l.body }) :
    s.Ebbs E X (s.modLens i f) := by
  refine { refl (E := E) (X := X) s with frame := rfl, lenses := ?_ }
  have hsides : s.SameSides (s.modLens i f) := Acts.map_modify _ _ _ _ fun _ => rfl
  refine .modify (fun i l => ⟨⟨rfl, rfl⟩, fun _ => .refl E _ i l⟩) fun l hl => ⟨⟨rfl, rfl⟩, fun hx => ?_⟩
  have hsends : (s.modLens i f).Sends l i = s.Sends l i := by
    funext m
    simp only [State.Sends, hsides.lensName]
    rfl
  refine ⟨(h l hl hx).decided, fun c hc => ?_⟩
  rw [hsends]
  exact (h l hl hx).client c hc

/-- A decided record is replaced as its holdings are given up. -/
theorem setDecided {i : Nat} {l : Lens} {d d' : Decided} (hl : s.lenses[i]? = some l) (hb : l.body = .decided d)
    (h : ¬ X i → Decided.Ebbs (l.keeps E) (s.stands E l) d d') : s.Ebbs E X (s.setDecided i d') := by
  refine lens s fun l' hl' hx => ?_
  rw [hl] at hl'
  cases hl'
  refine ⟨fun e he => ?_, fun c hc => (nomatch hb.symm.trans hc)⟩
  rw [hb] at he
  cases he
  exact ⟨d', rfl, h hx⟩

/-- A client record is replaced as its holdings are given up. -/
theorem setClient {i : Nat} {l : Lens} {c c' : Client} (hl : s.lenses[i]? = some l) (hb : l.body = .client c)
    (h : ¬ X i → Client.Ebbs (s.Sends l i) c c') : s.Ebbs E X (s.setClient i c') := by
  refine lens s fun l' hl' hx => ?_
  rw [hl] at hl'
  cases hl'
  refine ⟨fun d hd => (nomatch hb.symm.trans hd), fun e he => ?_⟩
  rw [hb] at he
  cases he
  exact ⟨c', rfl, h hx⟩

/-- Changes in a row. -/
theorem foldl {α : Type} {f : State → α → State} (h : ∀ (s : State) x, s.Ebbs E X (f s x)) (l : List α) (s : State) :
    s.Ebbs E X (l.foldl f s) := by
  induction l generalizing s with
  | nil => exact refl s
  | cons x l ih => exact (h s x).trans (ih (f s x))

theorem forLenses {f : Nat → State → State} (h : ∀ (s : State) i, s.Ebbs E X (f i s)) (s : State) :
    s.Ebbs E X (s.forLenses f) := foldl (fun s i => h s i) _ s

theorem forSites {f : Nat → State → State} (h : ∀ (s : State) i, s.Ebbs E X (f i s)) (s : State) :
    s.Ebbs E X (s.forSites f) := foldl (fun s i => h s i) _ s

end State.Ebbs

end Sys2Proof.Machine
end

section
/-! The operations of the link units and of the lens table as steps of `State.Ebbs`. -/

namespace Sys2Proof.Machine

/-! ### Telling robots -/

/-- A robot with a waiting claim is told a denial (R93). -/
theorem Robot.told_deny {r : Robot} (reason : DenyReason)
    (h : r.state = .queued ∨ r.state = .waitLens ∨ r.state = .inLeg) :
    r.Told { r with move := r.move.map fun m => { m with pendingDenial := some reason } } := by
  refine ⟨rfl, .inl rfl, ?_, fun hq hw hl => ?_⟩
  · simp only [Option.map_map]
    rfl
  · rcases h with h | h | h
    · exact absurd h hq
    · exact absurd h hw
    · exact absurd h hl

/-- A robot in WAIT_LENS is told its grant (R57, R81). -/
theorem Robot.told_grant {r : Robot} (h : r.state = .waitLens) : r.Told { r with state := .queued } :=
  ⟨rfl, .inr ⟨h, rfl⟩, rfl, fun _ hw _ => absurd h hw⟩

namespace State.Ebbs

variable {E X : Nat → Prop}

theorem denyRobot (s : State) (site : Nat) (reason : DenyReason) : s.Ebbs E X (s.denyRobot site reason) := by
  unfold State.denyRobot
  split
  · exact refl s
  · rename_i r hr
    split
    · rename_i hst
      refine robot s fun r' hr' => ?_
      rw [hr] at hr'
      cases hr'
      exact (Robot.told_deny reason hst).ebbs
    · exact refl s

theorem joinQueue (s : State) (site : Nat) : s.Ebbs E X (s.joinQueue site) := by
  unfold State.joinQueue
  split
  · exact refl s
  · split
    · exact refl s
    · split <;> exact bus s _ fun _ => rfl

theorem leaveQueues (s : State) (site : Nat) : s.Ebbs E X (s.leaveQueues site) := by
  unfold State.leaveQueues
  split
  · exact refl s
  · exact bus s _ fun _ => rfl

theorem grantRobot (s : State) (site : Nat) : s.Ebbs E X (s.grantRobot site) := by
  unfold State.grantRobot
  split
  · exact refl s
  · rename_i r hr
    split
    · rename_i hw
      refine .trans (robot s fun r' hr' => ?_) (joinQueue _ site)
      rw [hr] at hr'
      cases hr'
      exact (Robot.told_grant hw).ebbs
    · exact refl s

end State.Ebbs

/-! ### Links that go down (R135, R145) -/

/-- The remote party of a lens is a side of the lens's link (R4). -/
theorem Lens.side_remoteParty {l : Lens} {q : Party} {n : Nat} (hq : l.remoteParty = some q)
    (hn : l.link = some n) : ∃ m, l.side q = .remote n m := by
  obtain ⟨a, b, body⟩ := l
  cases a <;> cases b <;> cases q <;> simp_all [Lens.remoteParty, Lens.link, LensSide.link, Lens.side]

namespace State.Ebbs

variable {E X : Nat → Prop}

/-- What a departure of link `n` does to the lenses, seen from a state in which that link is not UP. -/
theorem departLens_lenses {v : State} {n : Nat} (hv : ∀ u, v.links[n]? = some u → u.state ≠ .up) (s : State)
    (i : Nat) : Matched (fun i l l' => (l'.a = l.a ∧ l'.b = l.b) ∧ (¬ X i → Lens.Ebbs E v i l l')) s.lenses
      (s.departLens n i).lenses := by
  have hdeny : ∀ (t : State) (j : Nat) (r : DenyReason), (t.denyRobot j r).lenses = t.lenses := fun t j r => by
    rw [State.denyRobot_sameButRecords t j r]
    unfold State.denyRobot
    split
    · rfl
    · split <;> rfl
  unfold State.departLens
  split
  · exact sameLenses v _
  · rename_i l hl
    split
    · rename_i hlink
      split
      · rename_i d hb
        split
        · rename_i hw
          simp only [Bool.and_eq_true, beq_iff_eq] at hw
          refine .modify (fun i l => ⟨⟨rfl, rfl⟩, fun _ => .refl E v i l⟩) fun l' hl' => ⟨⟨rfl, rfl⟩, fun _ => ?_⟩
          rw [hl] at hl'
          cases hl'
          refine ⟨fun e he => ?_, fun c hc => (nomatch hb.symm.trans hc)⟩
          rw [hb] at he
          cases he
          refine ⟨d.dropWaiter, rfl, .dropWaiter fun q hq hs p _ => ?_⟩
          obtain ⟨m, hm⟩ := Lens.side_remoteParty (hw.2 ▸ hq) hlink
          obtain ⟨u, hu, hup⟩ := hs.2 n m hm
          exact hv u hu hup
        · exact sameLenses v _
      · rename_i c hb
        split
        · rename_i hc
          rw [hdeny]
          refine .modify (fun i l => ⟨⟨rfl, rfl⟩, fun _ => .refl E v i l⟩) fun l' hl' => ⟨⟨rfl, rfl⟩, fun _ => ?_⟩
          rw [hl] at hl'
          cases hl'
          refine ⟨fun d hd => (nomatch hb.symm.trans hd), fun e he => ?_⟩
          rw [hb] at he
          cases he
          exact ⟨_, rfl, rfl, by simp [hc], by simp [hc], fun _ => .inr rfl, by simp [hc], by simp [hc]⟩
        · exact sameLenses v _
    · exact sameLenses v _

/-- The lenses after a departure, seen from a state in which its link is not UP. -/
theorem depart_lenses {v : State} {n : Nat} (hv : ∀ u, v.links[n]? = some u → u.state ≠ .up) (s : State) :
    Matched (fun i l l' => (l'.a = l.a ∧ l'.b = l.b) ∧ (¬ X i → Lens.Ebbs E v i l l')) s.lenses
      (s.depart n).lenses := by
  have hfold : ∀ (places : List Nat) (t : State),
      Matched (fun i l l' => (l'.a = l.a ∧ l'.b = l.b) ∧ (¬ X i → Lens.Ebbs E v i l l')) t.lenses
        (places.foldl (fun t i => t.departLens n i) t).lenses := by
    intro places
    induction places with
    | nil => exact fun t => sameLenses v _
    | cons i rest ih =>
      refine fun t => (departLens_lenses hv t i).trans (fun i l l' l'' h1 h2 => ?_) (ih _)
      refine ⟨⟨h2.1.1.trans h1.1.1, h2.1.2.trans h1.1.2⟩, fun hx => ?_⟩
      exact (refl (E := E) (X := X) v).lens_trans h1.1.1 h1.1.2 (h1.2 hx) (h2.2 hx)
  exact hfold _ (s.modLink n Link.departed)

/-- A departure tells robots denials (R145). -/
theorem depart_robots (s : State) (n : Nat) : Matched (fun _ => Robot.Told) s.robots (s.depart n).robots := by
  have hdeny : ∀ (t : State) (j : Nat) (r : DenyReason), Matched (fun _ => Robot.Told) t.robots (t.denyRobot j r).robots :=
    fun t j r => ((denyRobot (E := fun _ => False) (X := fun _ => False) t j r).robots).mono
      fun _ _ _ h => h.told id
  have hlens : ∀ (t : State) (i : Nat), Matched (fun _ => Robot.Told) t.robots (t.departLens n i).robots := by
    intro t i
    unfold State.departLens
    split
    · exact .refl (fun _ => .refl) _
    · split
      · split
        · split <;> exact .refl (fun _ => .refl) _
        · split
          · exact hdeny (t.modLens i _) _ _
          · exact .refl (fun _ => .refl) _
      · exact .refl (fun _ => .refl) _
  have hfold : ∀ (places : List Nat) (t : State),
      Matched (fun _ => Robot.Told) t.robots (places.foldl (fun t i => t.departLens n i) t).robots := by
    intro places
    induction places with
    | nil => exact fun t => .refl (fun _ => .refl) _
    | cons i rest ih => exact fun t => (hlens t i).trans (fun _ _ _ _ => Robot.Told.trans) (ih _)
  exact hfold _ (s.modLink n Link.departed)

theorem probed_ebbs (s : State) (n : Nat) (u : Link) : u.Ebbs (s.probed n u) :=
  ⟨nofun, fun _ => by simp [State.probed, Config.transmitDepth], id, id⟩

theorem departed_probed_ebbs (s : State) (n : Nat) (u : Link) : u.Ebbs (s.probed n u.departed) :=
  ⟨nofun, fun _ => by simp [State.probed, Config.transmitDepth], id, Acts.satInc_le⟩

theorem enterProbing (s : State) (n : Nat) : s.Ebbs E X (s.enterProbing n) := by
  rw [State.enterProbing_eq]
  exact (link s (f := s.probed n) fun u _ => probed_ebbs s n u).trans
    (rest _ s.outcomes s.overflow s.field s.timer
      { s.notices with peerChange := (s.enterProbing n).notices.peerChange } id id)

/-- A link that is UP departs and enters PROBING. -/
theorem depart_enterProbing (s : State) (n : Nat) : s.Ebbs E X ((s.depart n).enterProbing n) := by
  have hlinks : ((s.depart n).enterProbing n).links =
      s.links.modify n ((s.depart n).probed n ∘ Link.departed) := by
    rw [State.enterProbing_eq, State.depart_eq]
    exact List.modify_modify_eq ..
  have hdown : ∀ u, ((s.depart n).enterProbing n).links[n]? = some u → u.state ≠ .up := by
    rw [hlinks, List.getElem?_modify]
    cases s.links[n]? with
    | none => simp
    | some u => simp [State.probed]
  have hrobots : ((s.depart n).enterProbing n).robots = (s.depart n).robots := by rw [State.enterProbing_eq]
  have hlenses : ((s.depart n).enterProbing n).lenses = (s.depart n).lenses := by rw [State.enterProbing_eq]
  refine ⟨?_, ?_, ?_, ?_, ?_, ?_, ?_⟩
  · rw [State.enterProbing_eq, State.depart_eq]
  · rw [State.enterProbing_eq, State.depart_eq]; exact id
  · rw [State.enterProbing_eq, State.depart_eq]; exact id
  · rw [hrobots]
    exact (depart_robots s n).mono fun _ _ _ h => h.ebbs
  · rw [hlinks]
    exact .modify (fun _ => Link.Ebbs.refl) fun u _ => departed_probed_ebbs _ n u
  · rw [State.enterProbing_eq, State.depart_eq]
    exact .refl (fun _ => Bus.Ebbs.refl) _
  · rw [hlenses]
    exact depart_lenses hdown s

theorem takeDown (s : State) (n : Nat) : s.Ebbs E X (s.takeDown n) := by
  unfold State.takeDown
  split
  · exact refl s
  · split
    · exact depart_enterProbing s n
    · exact enterProbing s n

/-! ### Messages (R135) -/

theorem sendNumbered (s : State) (n : Nat) (b : PeerBody) : s.Ebbs E X (s.sendNumbered n b) := by
  unfold State.sendNumbered
  split
  · exact refl s
  · rename_i u hu
    split
    · rename_i hroom
      refine link s fun u' hu' => ?_
      rw [hu] at hu'
      cases hu'
      exact ⟨fun h => ⟨h, fun f hf => List.mem_append_left _ hf⟩, fun _ => by simpa using hroom, id, id⟩
    · exact takeDown s n

theorem sendBorder (s : State) (n i : Nat) (m : BorderMessage) : s.Ebbs E X (s.sendBorder n i m) := by
  unfold State.sendBorder
  split
  · exact refl s
  · split
    · exact sendNumbered s n _
    · exact refl s

theorem tellGrant (s : State) (i : Nat) (x : LensSide) : s.Ebbs E X (s.tellGrant i x) := by
  cases x with
  | site j => exact grantRobot s j
  | remote n _ => exact sendBorder s n i _

theorem tellDeny (s : State) (i : Nat) (r : RefuseReason) (x : LensSide) : s.Ebbs E X (s.tellDeny i r x) := by
  cases x with
  | site j => exact denyRobot s j _
  | remote n _ => exact sendBorder s n i _

end State.Ebbs

end Sys2Proof.Machine
end

section
/-! The operations on one lens as steps of `State.Ebbs`. -/

namespace Sys2Proof.Machine

namespace State.Ebbs

variable {E X : Nat → Prop}

/-- A link that has been taken down is not UP. -/
theorem takeDown_down (s : State) (n : Nat) {u : Link} (hu : (s.takeDown n).links[n]? = some u) :
    u.state ≠ .up := by
  have hprobing : ∀ (t : State) (u : Link), (t.enterProbing n).links[n]? = some u → u.state ≠ .up := by
    intro t u hu
    rw [State.enterProbing_eq, List.getElem?_modify] at hu
    cases ht : t.links[n]? with
    | none => simp [ht] at hu
    | some v =>
      simp only [ht, if_true, Option.map_eq_map, Option.map_some, Option.some.injEq] at hu
      rw [← hu]
      simp [State.probed]
  unfold State.takeDown at hu
  split at hu
  · rename_i hn
    rw [hn] at hu
    cases hu
  · split at hu
    · exact hprobing _ u hu
    · exact hprobing _ u hu

/-- The message that is sent about a lens waits while its link is UP (R70, R135). -/
theorem sends_sendBorder (s : State) (l : Lens) (i : Nat) (m : BorderMessage) :
    (s.sendBorder (l.link.getD 0) i m).Sends l i m := by
  intro k v hk hv hup
  have hn : l.link.getD 0 = k := by rw [hk]; rfl
  rw [hn] at hv ⊢
  unfold State.sendBorder at hv ⊢
  cases hs : s.links[k]? with
  | none => simp [hs] at hv
  | some u =>
    simp only [hs] at hv ⊢
    by_cases hu : u.state = .up
    · simp only [hu, if_true] at hv ⊢
      unfold State.sendNumbered at hv ⊢
      simp only [hs] at hv ⊢
      by_cases hroom : u.transmit.length < Config.transmitDepth
      · simp only [hroom, if_true, State.modLink_links, List.getElem?_modify, hs, Option.map_eq_map,
          Option.map_some, Option.some.injEq] at hv ⊢
        refine ⟨⟨s.sectorNumber, u.sendSeq, .border m (s.lensName k i)⟩, ?_, rfl⟩
        rw [← hv]
        exact List.mem_append_right _ (List.mem_singleton_self _)
      · simp only [hroom, if_false] at hv
        exact absurd hup (takeDown_down s k hv)
    · simp only [hu, if_false, hs, Option.some.injEq] at hv
      rw [← hv] at hup
      exact absurd hup hu

/-- One lens more: what it has become is shown for it alone. -/
theorem of_lens {s t : State} {i : Nat} (h : s.Ebbs E (fun j => X j ∨ j = i) t)
    (hi : ¬ X i → ∀ l l', s.lenses[i]? = some l → t.lenses[i]? = some l' → Lens.Ebbs E t i l l') : s.Ebbs E X t := by
  refine { h with lenses := fun j => ?_ }
  cases hl : s.lenses[j]? with
  | none =>
    have := h.lenses j
    rw [hl] at this
    generalize t.lenses[j]? = y at this
    cases this
    exact .none
  | some l =>
    obtain ⟨l', hl', hs, he⟩ := h.lenses.get hl
    rw [hl']
    refine .some ⟨hs, fun hx => ?_⟩
    by_cases hij : j = i
    · subst hij
      exact hi hx l l' hl hl'
    · exact he (by simp [hx, hij])

/-! ### Steps of a decided record -/

/-- A record's holding is released by a robot that gives up (R59). -/
theorem releaseDecided {s : State} {i : Nat} {l : Lens} {d : Decided} (hl : s.lenses[i]? = some l)
    (hb : l.body = .decided d) (h : X i ∨ ∃ p, d.holder = some (p, .reserved) ∧ ¬ l.keeps E p) :
    s.Ebbs E X (s.releaseDecided i l d) := by
  have hset : s.Ebbs E X (s.setDecided i d.release) := setDecided hl hb fun hx => by
    obtain ⟨p, hp, hg⟩ := h.resolve_left hx
    exact .release hp hg
  unfold State.releaseDecided
  simp only
  split
  · exact hset.trans (tellGrant _ _ _)
  · exact hset

/-- The waiter behind an OCCUPIED holding is denied (R57). -/
theorem denyWaiter {s : State} {i : Nat} {l : Lens} {d : Decided} (r : RefuseReason) (hl : s.lenses[i]? = some l)
    (hb : l.body = .decided d) (h : X i ∨ ∃ p, d.holder = some (p, .occupied)) :
    s.Ebbs E X (s.denyWaiter i l d r) := by
  unfold State.denyWaiter
  split
  · exact refl s
  · refine .trans (setDecided hl hb fun hx => ?_) (tellDeny _ _ _ _)
    obtain ⟨p, hp⟩ := h.resolve_left hx
    exact .dropWaiter fun q _ _ p' hp' => nomatch hp.symm.trans hp'

/-- An OCCUPIED holding turns into a pin (R62). -/
theorem holdingToPin {s : State} {i : Nat} {l : Lens} {d : Decided} {p : Party} (hl : s.lenses[i]? = some l)
    (hb : l.body = .decided d) (h : X i ∨ d.holder = some (p, .occupied) ∧ ¬ l.keeps E p) :
    s.Ebbs E X (s.holdingToPin i l d p) := by
  have hset : s.Ebbs E X (s.setDecided i (d.toPin p)) := setDecided hl hb fun hx => by
    obtain ⟨hp, hg⟩ := h.resolve_left hx
    exact .toPin hp hg
  unfold State.holdingToPin
  simp only
  split
  · exact hset
  · exact hset.trans (tellDeny _ _ _ _)

/-! ### Steps of a client record -/

/-- A client's claim goes and its message is sent (R69). -/
theorem clientTo {s : State} {i : Nat} {l : Lens} {c : Client} {st : ClaimState} {m : BorderMessage}
    (hl : s.lenses[i]? = some l) (hb : l.body = .client c)
    (h : X i ∨ (c.claim = .claiming ∧ st = .none) ∨ (c.claim = .heldOccupied ∧ st = .pinned ∧ m = .pin) ∨
      (c.claim = .heldReserved ∧ st = .none ∧ m = .release)) : s.Ebbs E X (s.clientTo i l c st m) := by
  have hset : s.Ebbs E (fun j => X j ∨ j = i) (s.setClient i { c with claim := st, deadline := none }) :=
    setClient hl hb fun hx => absurd (.inr rfl) hx
  refine of_lens (hset.trans (sendBorder _ _ i m)) fun hx l0 l' hl0 hl' => ?_
  rw [hl] at hl0
  cases hl0
  have hmid : (s.setClient i { c with claim := st, deadline := none }).lenses[i]? =
      some { l with body := .client { c with claim := st, deadline := none } } := by
    simp [State.setClient, State.modLens, hl]
  obtain ⟨l2, hl2, ⟨ha, hb'⟩, he⟩ :=
    (sendBorder (E := E) (X := X) (s.setClient i { c with claim := st, deadline := none }) (l.link.getD 0) i
      m).lenses.get hmid
  have hl2' : l2 = l' := Option.some.inj (hl2.symm.trans hl')
  subst hl2'
  refine (refl (E := E) (X := X) _).lens_trans (l' := { l with body := .client { c with claim := st, deadline := none } })
    rfl rfl ⟨fun d hd => (nomatch hb.symm.trans hd), fun e he' => ?_⟩ (he hx)
  rw [hb] at he'
  cases he'
  have hsends := sends_sendBorder (s.setClient i { c with claim := st, deadline := none }) l i m
  refine ⟨_, rfl, ?_⟩
  rcases h.resolve_left hx with ⟨hc, rfl⟩ | ⟨hc, rfl, rfl⟩ | ⟨hc, rfl, rfl⟩
  · exact ⟨rfl, by simp [hc], by simp [hc], fun _ => .inr rfl, by simp [hc], by simp [hc]⟩
  · exact ⟨rfl, by simp [hc], by simp [hc], by simp [hc], fun _ => .inr ⟨rfl, hsends⟩, by simp [hc]⟩
  · exact ⟨rfl, by simp [hc], by simp [hc], by simp [hc], by simp [hc], fun _ => .inr ⟨rfl, hsends⟩⟩

/-! ### The robot's part in one lens -/

theorem not_keeps {l : Lens} {site : Nat} {p : Party} (hE : E site) (hp : l.partyOf site = some p) : ¬ l.keeps E p :=
  fun h => h site hE hp

/-- The end of a move at one lens (R61). -/
theorem moveEndLens (s : State) {site i : Nat} (h : E site ∨ X i) : s.Ebbs E X (s.moveEndLens site i) := by
  have hg {l : Lens} {p : Party} (hp : l.partyOf site = some p) (hx : ¬ X i) : ¬ l.keeps E p :=
    not_keeps (h.resolve_right hx) hp
  unfold State.moveEndLens
  split
  · exact refl s
  · rename_i l hl
    split
    · exact refl s
    · rename_i p hp
      split
      · rename_i d hb
        split
        · rename_i hh
          exact releaseDecided hl hb ((Classical.em (X i)).imp_right fun hx => ⟨p, hh, hg hp hx⟩)
        · split
          · rename_i hh
            exact denyWaiter _ hl hb (.inr ⟨p, hh⟩)
          · split
            · rename_i hw
              refine setDecided hl hb fun hx => .dropWaiter fun q hq hs => ?_
              rw [hw] at hq
              cases hq
              exact absurd hs.1 (hg hp hx)
            · exact refl s
      · rename_i c hb
        split
        · rename_i hc
          exact clientTo hl hb (.inr (.inr (.inr ⟨hc, rfl, rfl⟩)))
        · rename_i hc
          exact clientTo hl hb (.inr (.inl ⟨hc, rfl⟩))
        all_goals exact refl s

/-- Loss conversion at one lens (R62). -/
theorem lossLens (s : State) {site i : Nat} (h : E site ∨ X i) : s.Ebbs E X (s.lossLens site i) := by
  have hg {l : Lens} {p : Party} (hp : l.partyOf site = some p) (hx : ¬ X i) : ¬ l.keeps E p :=
    not_keeps (h.resolve_right hx) hp
  unfold State.lossLens
  split
  · exact refl s
  · rename_i l hl
    split
    · exact refl s
    · rename_i p hp
      split
      · rename_i d hb
        split
        · rename_i hh
          exact holdingToPin hl hb ((Classical.em (X i)).imp_right fun hx => ⟨hh, hg hp hx⟩)
        · split
          · rename_i hh
            exact releaseDecided hl hb ((Classical.em (X i)).imp_right fun hx => ⟨p, hh, hg hp hx⟩)
          · exact refl s
      · rename_i c hb
        split
        · rename_i hc
          exact clientTo hl hb (.inr (.inr (.inl ⟨hc, rfl, rfl⟩)))
        · rename_i hc
          exact clientTo hl hb (.inr (.inr (.inr ⟨hc, rfl, rfl⟩)))
        all_goals exact refl s

theorem discoveryLens (s : State) {site i : Nat} (h : X i) : s.Ebbs E X (s.discoveryLens site i) := by
  unfold State.discoveryLens
  split
  · exact refl s
  · rename_i l hl
    split
    · exact refl s
    · split
      · rename_i d hb
        exact setDecided hl hb fun hx => absurd h hx
      · rename_i c hb
        split
        · exact clientTo hl hb (.inl h)
        · exact refl s

theorem vacateLens (s : State) {site i : Nat} (h : X i) : s.Ebbs E X (s.vacateLens site i) := by
  unfold State.vacateLens
  split
  · exact refl s
  · rename_i l hl
    split
    · exact refl s
    · split
      · rename_i d hb
        split
        · exact releaseDecided hl hb (.inl h)
        · split
          · exact setDecided hl hb fun hx => absurd h hx
          · exact refl s
      · rename_i c hb
        split
        · exact clientTo hl hb (.inl h)
        · exact clientTo hl hb (.inl h)
        · exact clientTo hl hb (.inl h)
        all_goals exact refl s

theorem keepTargetLens (s : State) {site i : Nat} (h : X i) : s.Ebbs E X (s.keepTargetLens site i) := by
  unfold State.keepTargetLens
  split
  · exact refl s
  · rename_i l hl
    split
    · exact refl s
    · split
      · rename_i d hb
        split
        · exact setDecided hl hb fun hx => absurd h hx
        · split
          · exact setDecided hl hb fun hx => absurd h hx
          · exact refl s
      · rename_i c hb
        split
        · exact setClient hl hb fun hx => absurd h hx
        · exact clientTo hl hb (.inl h)
        all_goals exact refl s

theorem occupyFacing (s : State) {site i : Nat} (h : X i) : s.Ebbs E X (s.occupyFacing site i) := by
  unfold State.occupyFacing
  split
  · exact refl s
  · rename_i l hl
    split
    · exact refl s
    · split
      · rename_i d hb
        exact setDecided hl hb fun hx => absurd h hx
      · rename_i c hb
        split
        · exact clientTo hl hb (.inl h)
        · exact clientTo hl hb (.inl h)
        all_goals exact refl s

theorem pinFacing (s : State) {site i : Nat} (h : X i) : s.Ebbs E X (s.pinFacing site i) := by
  unfold State.pinFacing
  split
  · exact refl s
  · rename_i l hl
    split
    · exact refl s
    · split
      · rename_i d hb
        exact setDecided hl hb fun hx => absurd h hx
      · rename_i c hb
        split
        · exact clientTo hl hb (.inl h)
        · exact ((setClient hl hb fun hx => absurd h hx).trans (sendBorder _ _ i _)).trans (sendBorder _ _ i _)
        all_goals exact refl s

/-- The claims that the move engine makes (R53, R55). -/
theorem claimFor (s : State) {site i : Nat} (h : X i) : s.Ebbs E X (s.claimFor site i).1 := by
  unfold State.claimFor
  split
  · exact refl s
  · rename_i l hl
    split
    · rename_i d hb
      split
      · exact refl s
      · exact setDecided hl hb fun hx => absurd h hx
    · rename_i c hb
      split
      · exact refl s
      · split
        · exact refl s
        · split
          · split
            · exact clientTo hl hb (.inl h)
            · exact takeDown s _
          all_goals exact refl s

theorem setWaitDeadline (s : State) {site i : Nat} (h : X i) : s.Ebbs E X (s.setWaitDeadline site i) := by
  unfold State.setWaitDeadline
  simp only
  split
  · exact refl s
  · rename_i l hl
    split
    · rename_i d hb
      split
      · exact refl s
      · exact setDecided hl hb fun hx => absurd h hx
    · rename_i c hb
      split
      · exact setClient hl hb fun hx => absurd h hx
      · exact refl s

theorem endWait (s : State) {site i : Nat} (h : X i) : s.Ebbs E X (s.endWait site i) := by
  unfold State.endWait
  split
  · exact refl s
  · rename_i l hl
    split
    · rename_i d hb
      split
      · exact setDecided hl hb fun hx => absurd h hx
      · exact refl s
    · rename_i c hb
      split
      · exact clientTo hl hb (.inl h)
      · exact refl s

theorem occupyTarget (s : State) {site i : Nat} (h : X i) : s.Ebbs E X (s.occupyTarget site i) := by
  unfold State.occupyTarget
  split
  · exact refl s
  · rename_i l hl
    split
    · rename_i d hb
      split
      · exact refl s
      · exact setDecided hl hb fun hx => absurd h hx
    · rename_i c hb
      split
      · exact clientTo hl hb (.inl h)
      · exact refl s

/-! ### Over every lens of a robot -/

theorem moveEndLenses (s : State) {site : Nat} (h : E site) : s.Ebbs E X (s.moveEndLenses site) :=
  forLenses (fun t _ => moveEndLens t (.inl h)) s

theorem lossConvert (s : State) {site : Nat} (h : E site) : s.Ebbs E X (s.lossConvert site) :=
  forLenses (fun t _ => lossLens t (.inl h)) s

theorem discoveryPins (s : State) (site : Nat) : s.Ebbs E (fun _ => True) (s.discoveryPins site) :=
  forLenses (fun t _ => discoveryLens t trivial) s

theorem foldRelease (s : State) (site : Nat) : s.Ebbs E (fun _ => True) (s.foldRelease site) :=
  forLenses (fun t _ => vacateLens t trivial) s

theorem applyConsistent (s : State) (site : Nat) (p : Pos) : s.Ebbs E (fun _ => True) (s.applyConsistent site p) := by
  refine forLenses (fun t i => ?_) s
  split
  · exact occupyFacing t trivial
  · split
    · exact keepTargetLens t trivial
    · exact vacateLens t trivial

theorem applyInconsistent (s : State) {site : Nat} (p : Pos) (hE : E site) (hX : ∀ i, s.facingLens site p = some i → X i) :
    s.Ebbs E X (s.applyInconsistent site p) := by
  refine forLenses (fun t i => ?_) s
  split
  · rename_i hf
    exact pinFacing t (hX i hf)
  · exact lossLens t (.inl hE)

end State.Ebbs

end Sys2Proof.Machine
end

section
/-! The end of moves as steps of `State.Ebbs`, what becomes of the robot, and the denials that an event settles
(R93, R96). -/

namespace Sys2Proof.Machine

/-! ### The robot of a move that has ended -/

/-- The record of an end in its robot (R96 step 5, R125). -/
def Robot.recorded (r : Robot) (kind : MoveKind) (o : MoveOutcome) : Robot :=
  let x := { r with lastOutcome := some o }
  if o = .done ∧ (kind = .field ∨ kind = .moveTo ∨ kind = .home) then x.resetIterations else x

/-- A robot whose move of this kind has ended with outcome `out` (R96). -/
def Robot.finished (r : Robot) (st : RobotState) (kind : MoveKind)
    (out : Option (MoveOutcome × Option DenyReason)) : Robot :=
  let x := { r with state := st, move := none, pollTime := none }
  match out with
  | none => x
  | some (o, _) => x.recorded kind o

theorem Robot.finished_move (r : Robot) (st : RobotState) (kind : MoveKind)
    (out : Option (MoveOutcome × Option DenyReason)) : (r.finished st kind out).move = none := by
  unfold Robot.finished Robot.recorded
  rcases out with _ | ⟨o, reason⟩
  · rfl
  · simp only
    split <;> rfl

theorem Robot.finished_state (r : Robot) (st : RobotState) (kind : MoveKind)
    (out : Option (MoveOutcome × Option DenyReason)) : (r.finished st kind out).state = st := by
  unfold Robot.finished Robot.recorded
  rcases out with _ | ⟨o, reason⟩
  · rfl
  · simp only
    split <;> rfl

/-- The end of a move reads nothing of what a robot can be told. -/
theorem Robot.Told.finished {r r' : Robot} (h : r.Told r') (st : RobotState) (kind : MoveKind)
    (out : Option (MoveOutcome × Option DenyReason)) : r'.finished st kind out = r.finished st kind out := by
  rw [h.rest]
  rfl

namespace State.Ebbs

variable {E X : Nat → Prop}

/-! ### The end of a move (R96) -/

theorem appendOutcome (s : State) (o : OutcomeRecord) : s.Ebbs E X (s.appendOutcome o) :=
  rest s _ s.overflow s.field s.timer s.notices id id

theorem endField (s : State) : s.Ebbs E X s.endField := by
  unfold State.endField
  split
  · exact rest s s.outcomes s.overflow _ _ _ id id
  · exact refl s

theorem countFieldEnd (s : State) (o : MoveOutcome) : s.Ebbs E X (s.countFieldEnd o) :=
  (rest s s.outcomes s.overflow _ s.timer s.notices id id).trans (endField _)

theorem recordEnd (s : State) {site : Nat} (kind : MoveKind) (limited : Bool) (o : MoveOutcome)
    (reason : Option DenyReason) (h : E site) : s.Ebbs E X (s.recordEnd site kind limited o reason) := by
  unfold State.recordEnd
  split
  · exact refl s
  · rename_i r _
    have hrobot : ∀ u : State, u.Ebbs E X (u.modRobot site fun r => r.recorded kind o) := fun u =>
      robot u fun r _ => ⟨fun hn => absurd h hn, fun hm => by
        unfold Robot.recorded at hm
        simp only at hm
        split at hm <;> exact hm⟩
    have ht := (appendOutcome (E := E) (X := X) s ⟨site, kind, o, r.believed, r.epoch, limited, reason⟩).trans (hrobot _)
    simp only
    split
    · exact ht.trans (countFieldEnd _ o)
    · exact ht

theorem finishMove (s : State) {site : Nat} (st : RobotState) (out : Option (MoveOutcome × Option DenyReason))
    (h : E site) : s.Ebbs E X (s.finishMove site st out) := by
  unfold State.finishMove
  split
  · exact refl s
  · have ht := ((moveEndLenses (X := X) s h).trans (leaveQueues _ site)).trans
      (robot _ (f := fun r => { r with state := st, move := none, pollTime := none })
        fun r _ => ⟨fun hn => absurd h hn, nofun⟩)
    simp only
    split
    · exact ht
    · exact ht.trans (recordEnd _ _ _ _ _ h)

/-- A robot's belief goes (R19, R20). -/
theorem forget (s : State) {site : Nat} (h : E site) :
    s.Ebbs E X (s.modRobot site fun r => { r.forget with anchor := none }) :=
  robot s fun _ _ => ⟨fun hn => absurd h hn, id⟩

theorem loseWith (s : State) {site : Nat} (cause : LostCause) (out : Option (MoveOutcome × Option DenyReason))
    (h : E site) : s.Ebbs E X (s.loseWith site cause out) := by
  have ht := (forget (X := X) s h).trans (lossConvert _ h)
  unfold State.loseWith
  simp only
  split
  · exact ht.trans (robot _ fun _ _ => ⟨fun hn => absurd h hn, id⟩)
  · exact ht.trans (finishMove _ _ _ h)

theorem lose (s : State) {site : Nat} (cause : LostCause) (h : E site) : s.Ebbs E X (s.lose site cause) :=
  loseWith s cause _ h

theorem endAtRest (s : State) {site : Nat} (out : Option (MoveOutcome × Option DenyReason)) (h : E site) :
    s.Ebbs E X (s.endAtRest site out) := by
  unfold State.endAtRest
  split
  · exact refl s
  · split
    · exact refl s
    · split
      · exact loseWith s _ out h
      · exact finishMove s _ out h

theorem endDenied (s : State) {site : Nat} (h : E site) : s.Ebbs E X (s.endDenied site) := by
  unfold State.endDenied
  split
  · exact refl s
  · exact endAtRest s _ h

end State.Ebbs

/-! ### What becomes of the robot -/

theorem State.recordEnd_robot {s : State} {site : Nat} {r : Robot} (kind : MoveKind) (limited : Bool)
    (o : MoveOutcome) (reason : Option DenyReason) (hr : s.robots[site]? = some r) :
    (s.recordEnd site kind limited o reason).robots[site]? = some (r.recorded kind o) := by
  have hfield : ∀ (t : State) (o : MoveOutcome), (t.countFieldEnd o).robots = t.robots := fun t o => by
    unfold State.countFieldEnd State.endField
    split <;> rfl
  have hmod : ((s.appendOutcome ⟨site, kind, o, r.believed, r.epoch, limited, reason⟩).modRobot site
      fun r => r.recorded kind o).robots[site]? = some (r.recorded kind o) := by
    simp [State.appendOutcome, hr]
  unfold State.recordEnd
  simp only [hr]
  split
  · rw [hfield]; exact hmod
  · exact hmod

/-- A move that ends leaves its robot as `Robot.finished` says (R96). -/
theorem State.finishMove_robot {s : State} {site : Nat} {r : Robot} {m : Move} (st : RobotState)
    (out : Option (MoveOutcome × Option DenyReason)) (hr : s.robots[site]? = some r) (hm : r.move = some m) :
    (s.finishMove site st out).robots[site]? = some (r.finished st m.kind out) := by
  have hlenses := (Ebbs.moveEndLenses (E := fun j => j = site) (X := fun _ => False) s rfl)
  have htold : ∃ r1, ((s.moveEndLenses site).leaveQueues site).robots[site]? = some r1 ∧ r.Told r1 := by
    obtain ⟨r1, hr1, he⟩ := ((Ebbs.forLenses (E := fun _ => False) (X := fun _ => True)
      (fun t i => Ebbs.moveEndLens t (.inr trivial)) s).trans (Ebbs.leaveQueues _ site)).robots.get hr
    exact ⟨r1, hr1, he.told id⟩
  obtain ⟨r1, hr1, ht⟩ := htold
  have hmod : (((s.moveEndLenses site).leaveQueues site).modRobot site
      fun r => { r with state := st, move := none, pollTime := none }).robots[site]? =
        some { r1 with state := st, move := none, pollTime := none } := by
    simp [hr1]
  unfold State.finishMove
  simp only [hr, Option.bind_some, hm]
  rw [← ht.finished]
  split
  · exact hmod
  · exact recordEnd_robot _ _ _ _ hmod

/-- A robot that is lost (R19): belief and anchor go, and a move it has ends. -/
def Robot.lostWith (r : Robot) (cause : LostCause) (out : Option (MoveOutcome × Option DenyReason)) : Robot :=
  let x := { r.forget with anchor := none }
  match r.move with
  | none => { x with state := .lost cause, pollTime := none }
  | some m => x.finished (.lost cause) m.kind out

theorem State.loseWith_robot {s : State} {site : Nat} {r : Robot} (cause : LostCause)
    (out : Option (MoveOutcome × Option DenyReason)) (hr : s.robots[site]? = some r) :
    (s.loseWith site cause out).robots[site]? = some (r.lostWith cause out) := by
  have hforget : (s.modRobot site fun r => { r.forget with anchor := none }).robots[site]? =
      some { r.forget with anchor := none } := by simp [hr]
  obtain ⟨r1, hr1, he⟩ := (Ebbs.forLenses (E := fun _ => False) (X := fun _ => True)
    (fun t i => Ebbs.lossLens (site := site) t (.inr trivial))
    (s.modRobot site fun r => { r.forget with anchor := none })).robots.get hforget
  have ht := he.told id
  unfold State.loseWith Robot.lostWith
  cases hm : r.move with
  | none =>
    simp only [hr, Option.bind_some, hm]
    have hmod : ((((s.modRobot site fun r => { r.forget with anchor := none }).lossConvert site).modRobot site
        fun r => { r with state := .lost cause, pollTime := none }).robots[site]?) =
          some { r1 with state := .lost cause, pollTime := none } := by
      simp only [State.modRobot_robots, List.getElem?_modify_eq]
      exact congrArg (Option.map _) hr1
    rw [hmod, ht.rest, ht.noMove hm]
    simp [Robot.forget, hm]
  | some m =>
    simp only [hr, Option.bind_some, hm]
    obtain ⟨m1, hm1, hmm⟩ := ht.someMove hm
    have hkind : m1.kind = m.kind := by rw [hmm]
    rw [← ht.finished, ← hkind]
    exact finishMove_robot _ _ hr1 hm1

theorem Robot.lostWith_move (r : Robot) (cause : LostCause) (out : Option (MoveOutcome × Option DenyReason)) :
    (r.lostWith cause out).move = none := by
  unfold Robot.lostWith
  cases hm : r.move with
  | none => exact hm
  | some m => exact Robot.finished_move _ _ _ _

theorem Robot.lostWith_state (r : Robot) (cause : LostCause) (out : Option (MoveOutcome × Option DenyReason)) :
    (r.lostWith cause out).state = .lost cause := by
  unfold Robot.lostWith
  cases r.move with
  | none => rfl
  | some m => exact Robot.finished_state _ _ _ _

/-- A move that ends while it is not in flight leaves no move (R93). -/
theorem State.endAtRest_robot {s : State} {site : Nat} {r : Robot} (out : Option (MoveOutcome × Option DenyReason))
    (hr : s.robots[site]? = some r) :
    ∃ r', (s.endAtRest site out).robots[site]? = some r' ∧ r'.move = none := by
  unfold State.endAtRest
  simp only [hr]
  split
  · exact ⟨r, hr, by assumption⟩
  · rename_i m hm
    split
    · exact ⟨_, loseWith_robot _ _ hr, Robot.lostWith_move _ _ _⟩
    · exact ⟨_, finishMove_robot _ _ hr hm, Robot.finished_move _ _ _ _⟩

/-! ### The denials of an event (R93, R96) -/

theorem Robot.deniedAtRest_atRest {r : Robot} {reason : DenyReason} (h : r.deniedAtRest = some reason) :
    r.atRest = true := by
  unfold Robot.deniedAtRest at h
  split at h
  · rename_i hst
    rcases hst with hst | hst <;> simp [Robot.atRest, hst]
  · cases h

theorem Robot.deniedAtRest_move {r : Robot} {reason : DenyReason} (h : r.deniedAtRest = some reason) :
    r.move.isSome = true := by
  unfold Robot.deniedAtRest at h
  split at h
  · cases hm : r.move with
    | none => simp [hm] at h
    | some m => rfl
  · cases h

/-- With no move there is no denial. -/
theorem Robot.deniedAtRest_none {r : Robot} (h : r.move = none) : r.deniedAtRest = none := by
  unfold Robot.deniedAtRest
  split
  · rw [h]; rfl
  · rfl

/-- No denial waits exactly where there is no next one to settle. -/
theorem State.noDenialWaits_iff (s : State) : s.NoDenialWaits ↔ s.firstDenied = none := by
  constructor
  · intro h
    cases hf : s.firstDenied with
    | none => rfl
    | some site =>
      have hs := firstDenied_some hf
      cases hr : s.robots[site]? with
      | none => simp [hr] at hs
      | some r => simp [hr, h r (List.mem_of_getElem? hr)] at hs
  · intro h r hr
    obtain ⟨i, hi⟩ := List.mem_iff_getElem?.mp hr
    have hlt : i < s.robots.length := by
      by_contra hge
      simp [List.getElem?_eq_none (Nat.le_of_not_lt hge)] at hi
    have := List.find?_eq_none.mp ((firstDenied_none s).mp h) i (List.mem_range.mpr hlt)
    cases hd : r.deniedAtRest with
    | none => rfl
    | some reason => simp [hi, hd] at this

/-- The robot of the next denial, and what its end makes of it. -/
theorem State.endDenied_robot {s : State} {site : Nat} (h : s.firstDenied = some site) :
    ∃ r r', s.robots[site]? = some r ∧ r.atRest = true ∧ r.move.isSome = true ∧
      (s.endDenied site).robots[site]? = some r' ∧ r'.move = none := by
  obtain ⟨reason, hd⟩ := Option.isSome_iff_exists.mp (firstDenied_some h)
  cases hr : s.robots[site]? with
  | none => simp [hr] at hd
  | some r =>
    have hdr : r.deniedAtRest = some reason := by simpa [hr] using hd
    obtain ⟨r', hr', hm⟩ := endAtRest_robot (some (.denied, some reason)) hr
    refine ⟨r, r', rfl, Robot.deniedAtRest_atRest hdr, Robot.deniedAtRest_move hdr, ?_, hm⟩
    unfold State.endDenied
    simpa [hr, hdr] using hr'

/-- Denials end the moves of robots at rest, which have none in the end. -/
theorem State.settleDenials_ebbs (n : Nat) (s : State) : ∃ E : Nat → Prop,
    s.Ebbs E (fun _ => False) (s.settleDenials n) ∧ ∀ j, E j →
      (∃ r, s.robots[j]? = some r ∧ r.atRest = true) ∧
        ∃ r', (s.settleDenials n).robots[j]? = some r' ∧ r'.move = none := by
  induction n generalizing s with
  | zero => exact ⟨fun _ => False, .refl s, fun _ h => h.elim⟩
  | succ n ih =>
    unfold State.settleDenials
    split
    · exact ⟨fun _ => False, .refl s, fun _ h => h.elim⟩
    · rename_i site hf
      obtain ⟨r, r1, hr, hrest, -, hr1, hm1⟩ := endDenied_robot hf
      have h1 : s.Ebbs (fun j => j = site) (fun _ => False) (s.endDenied site) := .endDenied s rfl
      obtain ⟨E, h2, hE⟩ := ih (s.endDenied site)
      refine ⟨fun j => j = site ∨ E j,
        (h1.mono (fun _ => .inl) fun _ => id).trans (h2.mono (fun _ => .inr) fun _ => id), fun j hj => ?_⟩
      by_cases hjs : j = site
      · subst hjs
        obtain ⟨r2, hr2, he⟩ := h2.robots.get hr1
        refine ⟨⟨r, hr, hrest⟩, r2, hr2, ?_⟩
        cases hm2 : r2.move with
        | none => rfl
        | some m =>
          have := he.noNew (by simp [hm2])
          simp [hm1] at this
      · obtain ⟨⟨y, hy, hyr⟩, hend⟩ := hE j (hj.resolve_left hjs)
        obtain ⟨y0, hy0, he⟩ := h1.robots.get' hy
        exact ⟨⟨y0, hy0, (he.told hjs).atRest ▸ hyr⟩, hend⟩

theorem State.settle_ebbs (s : State) : ∃ E : Nat → Prop,
    s.Ebbs E (fun _ => False) s.settle ∧ ∀ j, E j →
      (∃ r, s.robots[j]? = some r ∧ r.atRest = true) ∧
        ∃ r', s.settle.robots[j]? = some r' ∧ r'.move = none := settleDenials_ebbs _ s

/-- Where there are as many rounds as moves, no denial is left. -/
theorem State.settleDenials_noDenialWaits (n : Nat) (s : State)
    (h : s.robots.countP (fun r => r.move.isSome) ≤ n) : (s.settleDenials n).NoDenialWaits := by
  induction n generalizing s with
  | zero =>
    intro r hr
    have hnone : ∀ x ∈ s.robots, ¬ x.move.isSome = true := List.countP_eq_zero.mp (Nat.le_zero.mp h)
    exact Robot.deniedAtRest_none (by simpa using hnone r hr)
  | succ n ih =>
    unfold State.settleDenials
    split
    · rename_i hf
      exact (noDenialWaits_iff s).mpr hf
    · rename_i site hf
      obtain ⟨r, r1, hr, -, hm, hr1, hm1⟩ := endDenied_robot hf
      have he : s.Ebbs (fun j => j = site) (fun _ => False) (s.endDenied site) := .endDenied s rfl
      have hlt := Matched.countP_lt (p := fun r : Robot => r.move.isSome)
        (he.robots.mono fun _ _ _ h => h.noNew) hr hr1 hm (by simp [hm1])
      exact ih _ (by omega)

/-- An event leaves no denial (R93, R96). -/
theorem State.settle_noDenialWaits (s : State) : s.settle.NoDenialWaits :=
  settleDenials_noDenialWaits _ s List.countP_le_length

/-- The close of an event changes what the settled state holds in its outcome queue alone. -/
theorem State.closeEvent_rest (s t : State) : ∃ outcomes overflow notices,
    s.closeEvent t = { t with outcomes, overflow, notices } ∧ notices.busTrip = t.notices.busTrip ∧
      notices.inquiryDone = t.notices.inquiryDone := by
  unfold State.closeEvent
  simp only
  split
  · exact ⟨_, _, _, rfl, rfl, rfl⟩
  · exact ⟨_, _, _, rfl, rfl, rfl⟩

/-- The close of an event, as a step in which the robots of `E` give up (R93, R96). -/
theorem State.close_ebbs (s t : State) : ∃ E : Nat → Prop,
    t.Ebbs E (fun _ => False) (s.close t) ∧ ∀ j, E j →
      (∃ r, t.robots[j]? = some r ∧ r.atRest = true) ∧
        ∃ r', (s.close t).robots[j]? = some r' ∧ r'.move = none := by
  obtain ⟨E, he, hE⟩ := t.settle_ebbs
  obtain ⟨outcomes, overflow, notices, hclose, hb, hi⟩ := s.closeEvent_rest t.settle
  unfold State.close
  rw [hclose]
  exact ⟨E, he.trans (.rest _ outcomes overflow _ _ notices (hb ▸ id) (hi ▸ id)), hE⟩

theorem State.close_noDenialWaits (s t : State) : (s.close t).NoDenialWaits := by
  obtain ⟨outcomes, overflow, notices, hclose, -⟩ := s.closeEvent_rest t.settle
  unfold State.close
  rw [hclose]
  exact t.settle_noDenialWaits

end Sys2Proof.Machine
end

section
/-! `State.Sustains`: a robot that has a move exactly in the four states of a move still does, and the saturating
counts and the transmit queues stay within their bounds (R18, R72, R26, R125, R133, R135, R152). The move
engine's operations sustain. -/

namespace Sys2Proof.Machine

/-! ### Robots and links -/

/-- The four states of a move (R18, R72). -/
def RobotState.moves (st : RobotState) : Bool := st == .queued || st == .inLeg || st == .waitLens || st == .halting

theorem Robot.moveMatchesState_iff (r : Robot) : r.moveMatchesState = true ↔ r.move.isSome = r.state.moves :=
  beq_iff_eq

/-- The saturating counts of a robot record (R26, R125, R152). -/
def Robot.InCounts (r : Robot) : Prop :=
  r.epoch ≤ Config.top32 ∧ r.iterations ≤ Config.iterationTop ∧ r.failures ≤ Config.failureTop

/-- A change of a robot record that keeps its move in the states of a move, and its counts in range. -/
structure Robot.Sustains (r r' : Robot) : Prop where
  moves : r.moveMatchesState = true → r'.moveMatchesState = true
  counts : r.InCounts → r'.InCounts

namespace Robot.Sustains

variable {r r' r'' : Robot}

theorem refl (r : Robot) : r.Sustains r := ⟨id, id⟩

theorem trans (h1 : r.Sustains r') (h2 : r'.Sustains r'') : r.Sustains r'' :=
  ⟨h2.moves ∘ h1.moves, h2.counts ∘ h1.counts⟩

/-- A robot that comes to have no move, in a state with none. -/
theorem resting (hm : r'.move = none) (hs : r'.state.moves = false) (hc : r.InCounts → r'.InCounts) :
    r.Sustains r' := ⟨fun _ => (moveMatchesState_iff r').mpr (by rw [hm, hs]; rfl), hc⟩

/-- A robot that comes to have a move, in a state with one. -/
theorem moving (hm : r'.move.isSome = true) (hs : r'.state.moves = true) (hc : r.InCounts → r'.InCounts) :
    r.Sustains r' := ⟨fun _ => (moveMatchesState_iff r').mpr (by rw [hm, hs]), hc⟩

/-- A robot goes from one state with no move to another. -/
theorem stillResting (h : r.state.moves = false) (hm : r'.move = r.move) (hs : r'.state.moves = false)
    (hc : r.InCounts → r'.InCounts) : r.Sustains r' :=
  ⟨fun hr => (moveMatchesState_iff r').mpr (by rw [hm, (moveMatchesState_iff r).mp hr, h, hs]), hc⟩

/-- A robot goes from one state with a move to another. -/
theorem stillMoving (h : r.state.moves = true) (hm : r'.move.isSome = r.move.isSome) (hs : r'.state.moves = true)
    (hc : r.InCounts → r'.InCounts) : r.Sustains r' :=
  ⟨fun hr => (moveMatchesState_iff r').mpr (by rw [hm, (moveMatchesState_iff r).mp hr, h, hs]), hc⟩

/-- A robot that is told keeps its move in the states of a move. -/
theorem told (h : r.Told r') : r.Sustains r' := by
  refine ⟨fun hr => ?_, fun hc => by rw [h.rest]; exact hc⟩
  rw [moveMatchesState_iff] at hr ⊢
  rw [h.isSome, hr]
  rcases h.state with hs | ⟨hw, hq⟩
  · rw [hs]
  · rw [hw, hq]; rfl

theorem bumpEpoch (r : Robot) : r.Sustains r.bumpEpoch :=
  ⟨id, fun ⟨he, hi, hf⟩ => ⟨Acts.satInc_le he, hi, hf⟩⟩

theorem resetIterations (r : Robot) : r.Sustains r.resetIterations :=
  ⟨id, fun ⟨he, _, hf⟩ => ⟨he, Nat.zero_le _, hf⟩⟩

theorem recorded (r : Robot) (kind : MoveKind) (o : MoveOutcome) : r.Sustains (r.recorded kind o) := by
  unfold Robot.recorded
  simp only
  split
  · exact ⟨id, (resetIterations r).counts⟩
  · exact ⟨id, id⟩

end Robot.Sustains

/-- A change of a link unit that keeps its counts and its transmit queue in range (R133, R135, R136). -/
structure Link.Sustains (u u' : Link) : Prop where
  transmit : u.transmit.length ≤ Config.transmitDepth → u'.transmit.length ≤ Config.transmitDepth
  errors : u.errors ≤ Config.top16 → u'.errors ≤ Config.top16
  drops : u.drops ≤ Config.top8 → u'.drops ≤ Config.top8

theorem Link.Sustains.refl (u : Link) : u.Sustains u := ⟨id, id, id⟩

theorem Link.Sustains.trans {u v w : Link} (h1 : u.Sustains v) (h2 : v.Sustains w) : u.Sustains w :=
  ⟨h2.transmit ∘ h1.transmit, h2.errors ∘ h1.errors, h2.drops ∘ h1.drops⟩

/-! ### States -/

/-- `t` comes from `s` by changes of robots and links that keep them in their bounds. -/
structure State.Sustains (s t : State) : Prop where
  robots : Matched (fun _ => Robot.Sustains) s.robots t.robots
  links : Matched (fun _ => Link.Sustains) s.links t.links

namespace State.Sustains

variable {s t u : State}

/-- The robots and the links stay as they are. -/
theorem same (hr : t.robots = s.robots) (hl : t.links = s.links) : s.Sustains t := by
  refine ⟨?_, ?_⟩
  · rw [hr]; exact .refl (fun _ => .refl) _
  · rw [hl]; exact .refl (fun _ => .refl) _

theorem refl (s : State) : s.Sustains s := same rfl rfl

theorem trans (h1 : s.Sustains t) (h2 : t.Sustains u) : s.Sustains u :=
  ⟨h1.robots.trans (fun _ _ _ _ => .trans) h2.robots, h1.links.trans (fun _ _ _ _ => .trans) h2.links⟩

/-- What the end of moves does to other robots and to the links sustains. -/
theorem ebbs {X : Nat → Prop} (h : s.Ebbs (fun _ => False) X t) : s.Sustains t :=
  ⟨h.robots.mono fun _ _ _ hr => .told (hr.told id),
    h.links.mono fun _ _ _ hl => ⟨hl.transmit, hl.errors, hl.drops⟩⟩

theorem robot (s : State) {i : Nat} {f : Robot → Robot} (h : ∀ r, s.robots[i]? = some r → r.Sustains (f r)) :
    s.Sustains (s.modRobot i f) :=
  ⟨.modify (fun _ => .refl) h, .refl (fun _ => .refl) _⟩

theorem link (s : State) {n : Nat} {f : Link → Link} (h : ∀ u, s.links[n]? = some u → u.Sustains (f u)) :
    s.Sustains (s.modLink n f) :=
  ⟨.refl (fun _ => .refl) _, .modify (fun _ => .refl) h⟩

theorem bus (s : State) (n : Nat) (f : Bus → Bus) : s.Sustains (s.modBus n f) := same rfl rfl

theorem foldl {α : Type} {f : State → α → State} (h : ∀ (s : State) x, s.Sustains (f s x)) (l : List α) (s : State) :
    s.Sustains (l.foldl f s) := by
  induction l generalizing s with
  | nil => exact refl s
  | cons x l ih => exact (h s x).trans (ih _)

theorem forSites {f : Nat → State → State} (h : ∀ (s : State) i, s.Sustains (f i s)) (s : State) :
    s.Sustains (s.forSites f) := foldl (fun s i => h s i) _ s

theorem modMove (s : State) (site : Nat) (f : Move → Move) : s.Sustains (s.modMove site f) :=
  robot s fun r _ => ⟨fun hr => by
    rw [Robot.moveMatchesState_iff] at hr ⊢
    simpa using hr, id⟩

/-! ### The end of a move -/

theorem recordEnd (s : State) (site : Nat) (kind : MoveKind) (limited : Bool) (o : MoveOutcome)
    (reason : Option DenyReason) : s.Sustains (s.recordEnd site kind limited o reason) := by
  unfold State.recordEnd
  split
  · exact refl s
  · rename_i r _
    have ht : s.Sustains ((s.appendOutcome ⟨site, kind, o, r.believed, r.epoch, limited, reason⟩).modRobot site
        fun r => r.recorded kind o) :=
      (ebbs (X := fun _ => False) (.appendOutcome s _)).trans (robot _ fun r _ => .recorded r kind o)
    simp only
    split
    · exact ht.trans (ebbs (X := fun _ => False) (.countFieldEnd _ o))
    · exact ht

theorem moveEndLenses (s : State) (site : Nat) : s.Sustains (s.moveEndLenses site) :=
  ebbs (X := fun _ => True) (.forLenses (fun t _ => .moveEndLens t (.inr trivial)) s)

theorem lossConvert (s : State) (site : Nat) : s.Sustains (s.lossConvert site) :=
  ebbs (X := fun _ => True) (.forLenses (fun t _ => .lossLens t (.inr trivial)) s)

theorem leaveQueues (s : State) (site : Nat) : s.Sustains (s.leaveQueues site) :=
  ebbs (X := fun _ => False) (.leaveQueues s site)

theorem finishMove (s : State) (site : Nat) {st : RobotState} (out : Option (MoveOutcome × Option DenyReason))
    (h : st.moves = false) : s.Sustains (s.finishMove site st out) := by
  unfold State.finishMove
  split
  · exact refl s
  · have ht := ((moveEndLenses s site).trans (leaveQueues _ site)).trans
      (robot _ (i := site) (f := fun r => { r with state := st, move := none, pollTime := none })
        fun _ _ => .resting rfl h id)
    simp only
    split
    · exact ht
    · exact ht.trans (recordEnd _ _ _ _ _ _)

/-- A robot that is lost (R19). -/
theorem loseWith (s : State) (site : Nat) (cause : LostCause) (out : Option (MoveOutcome × Option DenyReason)) :
    s.Sustains (s.loseWith site cause out) := by
  have hforget : s.Sustains (s.modRobot site fun r => { r.forget with anchor := none }) :=
    robot s fun _ _ => ⟨id, id⟩
  have ht := hforget.trans (lossConvert _ site)
  unfold State.loseWith
  simp only
  split
  · rename_i hm
    refine ht.trans (robot _ fun r1 hr1 => .resting ?_ rfl id)
    obtain ⟨r0, hr0, he⟩ := (Ebbs.forLenses (E := fun _ => False) (X := fun _ => True)
      (fun t i => Ebbs.lossLens (site := site) t (.inr trivial))
      (s.modRobot site fun r => { r.forget with anchor := none })).robots.get' hr1
    obtain ⟨r, hr, rfl⟩ : ∃ r, s.robots[site]? = some r ∧ r0 = { r.forget with anchor := none } := by
      rw [State.modRobot_robots, List.getElem?_modify_eq] at hr0
      obtain ⟨r, hr, h0⟩ := Option.map_eq_some_iff.mp hr0
      exact ⟨r, hr, h0.symm⟩
    exact (he.told id).noMove (by simpa [hr, Robot.forget] using hm)
  · exact ht.trans (finishMove _ site out rfl)

theorem lose (s : State) (site : Nat) (cause : LostCause) : s.Sustains (s.lose site cause) := loseWith s site cause _

theorem endAtRest (s : State) (site : Nat) (out : Option (MoveOutcome × Option DenyReason)) :
    s.Sustains (s.endAtRest site out) := by
  unfold State.endAtRest
  split
  · exact refl s
  · split
    · exact refl s
    · split
      · exact loseWith s site _ out
      · exact finishMove s site out rfl

theorem endDenied (s : State) (site : Nat) : s.Sustains (s.endDenied site) := by
  unfold State.endDenied
  split
  · exact refl s
  · exact endAtRest s site _

theorem settleDenials (n : Nat) (s : State) : s.Sustains (s.settleDenials n) := by
  induction n generalizing s with
  | zero => exact refl s
  | succ n ih =>
    unfold State.settleDenials
    split
    · exact refl s
    · exact (endDenied s _).trans (ih _)

theorem settle (s : State) : s.Sustains s.settle := settleDenials _ s

theorem closeEvent (s t : State) : t.Sustains (s.closeEvent t) := by
  obtain ⟨_, _, _, h, -⟩ := s.closeEvent_rest t
  rw [h]
  exact same rfl rfl

theorem close (h : s.Sustains t) : s.Sustains (s.close t) := (h.trans (settle t)).trans (closeEvent _ _)

theorem sweep (s : State) (act : Nat → State → State) (h : ∀ i (t : State), t.Sustains (act i t)) :
    s.Sustains (s.sweep act) := close (forSites (fun t i => h i t) s)

/-! ### Admission (R77, R81) -/

/-- A leg that becomes ready leaves its robot QUEUED or in WAIT_LENS with its move (R81). -/
theorem readied (s : State) {site : Nat} {f : Robot → Robot} {m : Move}
    (h : ∀ r, s.robots[site]? = some r → (f r).move = some m ∧ (r.InCounts → (f r).InCounts)) :
    s.Sustains ((s.modRobot site f).readyLeg site) := by
  have hmod : ∀ g : Robot → Robot, (s.modRobot site f).modRobot site g = s.modRobot site (g ∘ f) := fun g =>
    congrArg (fun l => { s with robots := l }) (List.modify_modify_eq ..)
  have hready : ∀ st : RobotState, st.moves = true →
      s.Sustains ((s.modRobot site f).modRobot site fun r => { r with state := st, pollTime := none }) := by
    intro st hst
    rw [hmod]
    refine robot s fun r hr => .moving ?_ hst (h r hr).2
    exact (congrArg Option.isSome (h r hr).1)
  unfold State.readyLeg
  split
  · rename_i hnone
    cases hr : s.robots[site]? with
    | none =>
      refine same ?_ rfl
      rw [State.modRobot_robots]
      exact List.modify_eq_self (List.getElem?_eq_none_iff.mp hr)
    | some r => simp [hr, (h r hr).1] at hnone
  · split
    · exact (hready .waitLens rfl).trans (ebbs (X := fun _ => True) (.setWaitDeadline _ trivial))
    · exact (hready .queued rfl).trans (ebbs (X := fun _ => True) (.joinQueue _ site))

theorem startMove (s : State) (site : Nat) (m : Move) : s.Sustains (s.startMove site m) :=
  readied s fun _ _ => ⟨rfl, id⟩

theorem admissionClaim (s : State) (site : Nat) (l : Option Nat) : s.Sustains (s.admissionClaim site l).1 := by
  unfold State.admissionClaim
  split
  · exact refl s
  · split
    · exact refl s
    · exact ebbs (X := fun _ => True) (.claimFor s trivial)

theorem tryMove (s : State) (site : Nat) (k : MoveKind) (x : Site) (p q : Pos) (l : Bool) :
    s.Sustains (s.tryMove site k x p q l).1 := by
  unfold State.tryMove
  split
  · exact recordEnd s site k l _ _
  · simp only
    split
    · exact ((admissionClaim s site _).trans (settle _)).trans (recordEnd _ _ _ _ _ _)
    · exact (admissionClaim s site _).trans (startMove _ _ _)
    · exact (admissionClaim s site _).trans (startMove _ _ _)

theorem admitMove (s : State) (site : Nat) (k : MoveKind) (x : Site) (p q : Pos) (l : Bool) :
    s.Sustains (s.admitMove site k x p q l).1 := close (tryMove s site k x p q l)

/-! ### Reports -/

theorem accept (s : State) (site : Nat) {f : Robot → Robot}
    (h : ∀ r, s.robots[site]? = some r → r.bumpEpoch.Sustains (f r.bumpEpoch)) : s.Sustains (s.accept site f) :=
  (robot s (f := fun r => f r.bumpEpoch) fun r hr => (Robot.Sustains.bumpEpoch r).trans (h r hr)).trans (same rfl rfl)

theorem applyConsistent (s : State) (site : Nat) (p : Pos) : s.Sustains (s.applyConsistent site p) :=
  ebbs (.applyConsistent s site p)

theorem inconsistentReport (s : State) (site : Nat) (p : Pos) : s.Sustains (s.inconsistentReport site p) := by
  have hpins : s.Sustains (s.applyInconsistent site p) := by
    refine ebbs (X := fun _ => True) (.forLenses (fun t i => ?_) s)
    split
    · exact .pinFacing t trivial
    · exact .lossLens t (.inr trivial)
  have hfault : ∀ u : State, u.Sustains (u.modRobot site fun r => { r with fault := some .inconsistent }) :=
    fun u => robot u fun _ _ => ⟨id, id⟩
  exact (hpins.trans (hfault _)).trans (lose _ site _)

/-! ### Halts (R89, R91) -/

theorem queueHalt (s : State) (site : Nat) : s.Sustains (s.queueHalt site) := bus s _ _

theorem enterHalting (s : State) {site : Nat} (cause : HaltCause)
    (h : ∀ r, s.robots[site]? = some r → r.state.moves = true) : s.Sustains (s.enterHalting site cause) :=
  robot s fun r hr => .stillMoving (h r hr) (by simp) rfl id

theorem abortRobot (s : State) (site : Nat) : s.Sustains (s.abortRobot site) := by
  unfold State.abortRobot
  split
  · exact refl s
  · rename_i r hr
    split
    · exact endAtRest s site _
    · split
      · rename_i hleg
        refine (queueHalt s site).trans (enterHalting _ _ fun r' hr' => ?_)
        rw [State.queueHalt, State.modBus_robots, hr] at hr'
        cases hr'
        rw [hleg]
        rfl
      · exact refl s

/-! ### Legs (R84 to R90) -/

theorem readyLeg (s : State) (site : Nat) : s.Sustains (s.readyLeg site) := by
  cases hm : (s.robots[site]?).bind (·.move) with
  | none =>
    unfold State.readyLeg
    simp only [hm]
    exact refl s
  | some m =>
    have hid : s.modRobot site id = s := congrArg (fun l => { s with robots := l }) (List.modify_id ..)
    have := readied s (site := site) (f := id) (m := m) fun r hr => ⟨by simpa [hr] using hm, id⟩
    rwa [hid] at this

theorem nextLeg (s : State) (site : Nat) : s.Sustains (s.nextLeg site) :=
  (modMove s site _).trans (readyLeg _ site)

theorem afterLeg (s : State) (site : Nat) (p : Pos) : s.Sustains (s.afterLeg site p) := by
  unfold State.afterLeg
  split
  · exact refl s
  · split
    · exact (robot s (f := fun x => { x with fault := some .stall }) fun _ _ => ⟨id, id⟩).trans
        (finishMove _ site _ rfl)
    · split
      · exact finishMove s site _ rfl
      · split
        · exact finishMove s site _ rfl
        · exact nextLeg s site

theorem clearDispatch (s : State) (site : Nat) : s.Sustains (s.clearDispatch site) := modMove s site _

theorem legComplete (s : State) (site : Nat) (p : Pos) : s.Sustains (s.legComplete site p) := by
  unfold State.legComplete
  split
  · exact (((applyConsistent s site p).trans (accept _ site fun _ _ => ⟨id, id⟩)).trans (clearDispatch _ _)).trans
      (afterLeg _ _ _)
  · exact inconsistentReport s site p

theorem foldRelease (s : State) (site : Nat) : s.Sustains (s.foldRelease site) := ebbs (.foldRelease s site)

theorem foldComplete (s : State) (site : Nat) (p : Pos) : s.Sustains (s.foldComplete site p) := by
  have h := ((accept s site (f := fun r =>
      { r with dirBeta := axisMemory r.dirBeta r.beta p.beta, beta := some p.beta }) fun _ _ => ⟨id, id⟩).trans
        (clearDispatch _ site)).trans (foldRelease _ site)
  unfold State.foldComplete
  simp only
  split
  · exact h
  · split
    · exact h.trans (endAtRest _ _ _)
    · exact h.trans (nextLeg _ _)

theorem seekComplete (s : State) (site : Nat) (p : Pos) : s.Sustains (s.seekComplete site p) := by
  unfold State.seekComplete
  split
  · exact ((applyConsistent s site p).trans (accept _ site fun _ _ => ⟨id, id⟩)).trans (finishMove _ site _ rfl)
  · exact inconsistentReport s site p

theorem completeLeg (s : State) (site : Nat) (m : Move) (p : Pos) : s.Sustains (s.completeLeg site m p) := by
  unfold State.completeLeg
  split
  · exact foldComplete s site p
  · split
    · exact seekComplete s site p
    · exact legComplete s site p

theorem setFault (s : State) (site : Nat) (f : Option FaultCode) :
    s.Sustains (s.modRobot site fun r => { r with fault := f }) := robot s fun _ _ => ⟨id, id⟩

theorem faultReply (s : State) (site : Nat) (m : Move) (rep : StatusReply) : s.Sustains (s.faultReply site m rep) := by
  have h := setFault s site (rep.fault.map FaultCode.ofReply)
  unfold State.faultReply
  simp only
  split
  · exact ((h.trans (applyConsistent _ _ _)).trans (accept _ site fun _ _ => ⟨id, id⟩)).trans
      (finishMove _ site _ rfl)
  · exact h.trans (inconsistentReport _ _ _)

theorem endHome (s : State) (site : Nat) (out : Option (MoveOutcome × Option DenyReason)) :
    s.Sustains (s.endHome site out) := by
  unfold State.endHome
  split
  · exact refl s
  · exact loseWith s site _ out

theorem homeFault (s : State) (site : Nat) (m : Move) (rep : StatusReply) : s.Sustains (s.homeFault site m rep) :=
  (setFault s site _).trans (endHome _ site _)

theorem legReply (s : State) (site : Nat) (m : Move) (rep : StatusReply) : s.Sustains (s.legReply site m rep) := by
  unfold State.legReply
  split
  · exact lose s site _
  · split
    · split
      · exact homeFault s site m rep
      · exact faultReply s site m rep
    · split
      · split
        · exact (lose s site _).trans (queueHalt _ site)
        · exact lose s site _
      · split
        · exact refl s
        · exact completeLeg s site m _

theorem stallFault (s : State) (site : Nat) (m : Move) : s.Sustains (s.stallFault site m) := by
  unfold State.stallFault
  split
  · exact setFault s site _
  · exact refl s

/-- A halt leaves its robot in a state with no move (R90). -/
theorem ending_moves (c : HaltCause) : c.ending.2.moves = false := by cases c <;> rfl

theorem haltComplete (s : State) (site : Nat) (m : Move) (p : Pos) : s.Sustains (s.haltComplete site m p) := by
  unfold State.haltComplete
  split
  · exact (stallFault s site m).trans (endHome _ site _)
  · split
    · exact (((applyConsistent s site p).trans (accept _ site fun _ _ => ⟨id, id⟩)).trans (stallFault _ _ _)).trans
        (finishMove _ site _ (ending_moves _))
    · exact inconsistentReport s site p

theorem haltReply (s : State) (site : Nat) (m : Move) (rep : StatusReply) : s.Sustains (s.haltReply site m rep) := by
  unfold State.haltReply
  split
  · exact lose s site _
  · split
    · split
      · exact homeFault s site m rep
      · exact faultReply s site m rep
    · exact refl s
    · exact haltComplete s site m _

/-! ### Robots at rest and LOST (R23, R24) -/

/-- A robot in a state with no move stays as it is where a report is applied to the lenses. -/
theorem applyConsistent_robot {s : State} {site : Nat} {r r' : Robot} (p : Pos) (hr : s.robots[site]? = some r)
    (h : r.state.moves = false) (hr' : (s.applyConsistent site p).robots[site]? = some r') : r' = r := by
  obtain ⟨r0, hr0, he⟩ := (Ebbs.applyConsistent (E := fun _ => False) s site p).robots.get' hr'
  rw [hr] at hr0
  cases hr0
  refine (he.told id).same ?_ ?_ ?_ <;> intro hst <;> rw [hst] at h <;> cases h

theorem recover (s : State) {site : Nat} {r : Robot} (rep : StatusReply) (hr : s.robots[site]? = some r)
    (h : r.state.moves = false) : s.Sustains (s.recover site rep) := by
  refine (applyConsistent s site _).trans (accept _ site fun r' hr' => ?_)
  rw [applyConsistent_robot _ hr h hr']
  refine .stillResting h rfl ?_ id
  simp only
  generalize Option.isSome _ = faulted
  cases faulted <;> rfl

theorem lostReply (s : State) {site : Nat} {r : Robot} {cause : LostCause} (rep : StatusReply)
    (hr : s.robots[site]? = some r) (h : r.state = .lost cause) : s.Sustains (s.lostReply site cause rep) := by
  have hst : r.state.moves = false := by rw [h]; rfl
  have hlost : ∀ cause, s.Sustains (s.modRobot site fun r => { r with state := .lost cause }) := fun cause =>
    robot s fun r' hr' => by
      rw [hr] at hr'
      cases hr'
      exact .stillResting hst rfl rfl id
  unfold State.lostReply
  split
  · exact refl s
  · split
    · exact hlost _
    · split
      · exact (hlost _).trans (queueHalt _ site)
      · split
        · exact recover s rep hr hst
        · exact inconsistentReport s site _

theorem stillReply (s : State) (site : Nat) (r : Robot) (rep : StatusReply) : s.Sustains (s.stillReply site r rep) := by
  unfold State.stillReply
  split
  · exact lose s site _
  · split
    · exact (lose s site _).trans (queueHalt _ site)
    · split
      · exact refl s
      · exact lose s site _

/-! ### Loss of power (R20) -/

theorem goOffline (s : State) (site : Nat) : s.Sustains (s.goOffline site) := by
  have hforget : s.Sustains (s.modRobot site fun r => { r.forget with anchor := none }) :=
    robot s fun _ _ => ⟨id, id⟩
  unfold State.goOffline
  simp only
  refine (hforget.trans (finishMove _ site _ rfl)).trans (robot _ fun r' hr' => .resting ?_ rfl ?_)
  · cases hr : (s.modRobot site fun r => { r.forget with anchor := none }).robots[site]? with
    | none =>
      obtain ⟨r, hr0, -⟩ := (Ebbs.finishMove (E := fun _ => True) (X := fun _ => True)
        (s.modRobot site fun r => { r.forget with anchor := none }) _ _ trivial).robots.get' hr'
      rw [hr] at hr0
      cases hr0
    | some r =>
      cases hm : r.move with
      | none =>
        rw [State.finishMove, hr, Option.bind_some, hm] at hr'
        simp only [hr] at hr'
        cases hr'
        exact hm
      | some m =>
        rw [finishMove_robot _ _ hr hm] at hr'
        cases hr'
        exact Robot.finished_move _ _ _ _
  · exact fun ⟨he, hi, _⟩ => ⟨he, hi, Nat.zero_le _⟩

theorem failInquiryPower (s : State) (l : List Nat) : s.Sustains (s.failInquiryPower l) := by
  unfold State.failInquiryPower
  split
  · split
    · exact same rfl rfl
    · exact refl s
  all_goals exact refl s

theorem lossAt (s : State) (l : List Nat) (i : Nat) : s.Sustains (s.lossAt l i) := by
  refine forSites (fun u site => ?_) s
  split
  · exact ebbs (X := fun _ => True) (.lossLens u (.inr trivial))
  · exact refl u

theorem powerLoss (s : State) (l : List Nat) : s.Sustains (s.powerLoss l) := by
  unfold State.powerLoss
  simp only
  refine .trans ?_ (sweep _ _ fun i t => ?_)
  · exact ((foldl (fun s b => bus s b _) l s).trans (failInquiryPower _ l)).trans (foldl (fun t i => lossAt t l i) _ _)
  · split
    · exact goOffline t i
    · exact refl t

end State.Sustains

end Sys2Proof.Machine
end

section
/-! The bus controllers', the arbiter's and the link units' operations sustain (`State.Sustains`). -/

namespace Sys2Proof.Machine

namespace State.Sustains

/-! ### Transactions (R151 to R154) -/

theorem endTxn (s : State) (n : Nat) : s.Sustains (s.endTxn n) := bus s n _

theorem beginTxn (s : State) (n : Nat) (kind : TxnKind) (site : Nat) : s.Sustains (s.beginTxn n kind site) := bus s n _

theorem inquiryEnds (s : State) (slot : Nat → Nat → Inquiry) : s.Sustains (s.inquiryEnds slot) := by
  unfold State.inquiryEnds
  split <;> exact same rfl rfl

theorem silentEvent (s : State) (site : Nat) : s.Sustains (s.silentEvent site) := (bus s _ _).trans (lose _ site _)

/-- A robot that is anchoring returns to LOST (R131). -/
theorem anchorFails (s : State) {site : Nat} (h : s.robotIs site .anchoring = true) :
    s.Sustains (s.anchorFails site) :=
  robot s fun r hr => by
    have hst : r.state = .anchoring := by simpa [State.robotIs, hr] using h
    exact .stillResting (by rw [hst]; rfl) rfl rfl id

theorem failedTxnEffect (s : State) (t : Txn) : s.Sustains (s.failedTxnEffect t) := by
  unfold State.failedTxnEffect
  split
  · split
    · exact lose s _ _
    · exact refl s
  · exact refl s
  · exact refl s
  · split
    · rename_i h
      exact anchorFails s (Bool.and_elim_left h)
    · exact refl s
  · split
    · exact refl s
    · exact inquiryEnds s _

/-- A failure is counted, up to the top of the count (R152). -/
theorem countFailure (s : State) (site : Nat) :
    s.Sustains (s.modRobot site fun r => { r with failures := satInc Config.failureTop r.failures }) :=
  robot s fun _ _ => ⟨id, fun ⟨he, hi, hf⟩ => ⟨he, hi, Acts.satInc_le hf⟩⟩

theorem txnFailed (s : State) (n : Nat) (t : Txn) : s.Sustains (s.txnFailed n t) := by
  have h := (((endTxn s n).trans (bus _ n fun b => b.count .failedTransactions)).trans
    (countFailure _ t.site)).trans (failedTxnEffect _ t)
  unfold State.txnFailed
  simp only
  split
  · exact h.trans (silentEvent _ _)
  · exact h

theorem attemptFailed (s : State) (n : Nat) (t : Txn) : s.Sustains (s.attemptFailed n t) := by
  unfold State.attemptFailed
  split
  · exact txnFailed s n t
  · split
    · exact endTxn s n
    · exact bus s n _

theorem replyTaken (s : State) (n site : Nat) : s.Sustains (s.replyTaken n site) :=
  (bus s n _).trans (robot _ fun _ _ => ⟨id, fun ⟨he, hi, _⟩ => ⟨he, hi, Nat.zero_le _⟩⟩)

theorem statusTaken (s : State) (n site : Nat) (rep : StatusReply) : s.Sustains (s.statusTaken n site rep) :=
  (replyTaken s n site).trans (robot _ fun _ _ => ⟨id, id⟩)

theorem acceptLeg (s : State) (site : Nat) : s.Sustains (s.acceptLeg site) :=
  robot s fun r _ => by
    split
    · rename_i hst
      have : r.state.moves = true := by rcases hst with h | h <;> rw [h] <;> rfl
      exact .stillMoving this (by simp) this id
    · exact .refl r

theorem pollReply (s : State) (site : Nat) (rep : StatusReply) : s.Sustains (s.pollReply site rep) := by
  unfold State.pollReply
  split
  · exact refl s
  · rename_i r hr
    split
    · split
      · exact legReply s site _ rep
      · exact refl s
    · split
      · exact haltReply s site _ rep
      · exact refl s
    · exact stillReply s site r rep
    · exact stillReply s site r rep
    · rename_i hst
      exact lostReply s rep hr hst
    all_goals exact refl s

theorem anchorAccepted (s : State) {site : Nat} {r : Robot} (p : Pos) (hr : s.robots[site]? = some r)
    (h : r.state = .anchoring) : s.Sustains (s.anchorAccepted site p) := by
  have hst : r.state.moves = false := by rw [h]; rfl
  unfold State.anchorAccepted
  split
  · refine (applyConsistent s site p).trans (accept _ site fun r' hr' => ?_)
    rw [applyConsistent_robot p hr hst hr']
    refine .stillResting hst rfl ?_ id
    simp only
    generalize Option.isSome _ = faulted
    cases faulted <;> rfl
  · exact inconsistentReport s site p

theorem setCountsReply (s : State) (site : Nat) (rep : StatusReply) : s.Sustains (s.setCountsReply site rep) := by
  unfold State.setCountsReply
  split
  · exact refl s
  · rename_i r hr
    split
    · rename_i hst
      split
      · exact refl s
      · split
        · exact anchorAccepted s _ hr hst
        · exact anchorFails s (by simp [State.robotIs, hr, hst])
    · exact refl s

theorem goodReply (s : State) (n : Nat) (t : Txn) (reply : BusReply) : s.Sustains (s.goodReply n t reply) := by
  unfold State.goodReply
  split
  · simp only
    split
    · exact ((statusTaken s n _ _).trans (endTxn _ n)).trans (acceptLeg _ _)
    · exact (statusTaken s n _ _).trans (attemptFailed _ n t)
  · exact ((statusTaken s n _ _).trans (endTxn _ n)).trans (pollReply _ _ _)
  · exact ((statusTaken s n _ _).trans (endTxn _ n)).trans (setCountsReply _ _ _)
  · exact (replyTaken s n _).trans (endTxn _ n)
  · simp only
    split
    · exact (replyTaken s n _).trans (endTxn _ n)
    · exact ((replyTaken s n _).trans (endTxn _ n)).trans (inquiryEnds _ _)
  · exact (bus s n _).trans (attemptFailed _ n t)

/-! ### The arbiter and the census -/

theorem enterTarget (s : State) (site : Nat) (leg : Leg) : s.Sustains (s.enterTarget site leg) := by
  unfold State.enterTarget
  split
  · split
    · exact ebbs (X := fun _ => True) (.occupyTarget s trivial)
    · exact refl s
  · exact refl s

/-- The head of a queue goes into its leg with its move (R83). -/
theorem dispatchLeg (s : State) (n : Nat) {site : Nat} {r : Robot} (leg : Leg) (hr : s.robots[site]? = some r)
    (hm : r.move.isSome = true) : s.Sustains (s.dispatchLeg n site r leg) := by
  have hdispatch : s.Sustains ((s.modBus n fun b => b.popQueue s.params.share).modRobot site Robot.dispatch) :=
    (bus s n _).trans (robot _ fun r' hr' => by
      rw [State.modBus_robots, hr] at hr'
      cases hr'
      exact .moving (by simpa [Robot.dispatch] using hm) rfl id)
  exact close ((hdispatch.trans (enterTarget _ site leg)).trans (beginTxn _ n _ site))

theorem cleanSerial (s : State) (n : Nat) (serial : Serial) : s.Sustains (s.cleanSerial n serial) := by
  unfold State.cleanSerial
  split
  · exact refl s
  · simp only
    split
    · exact bus s n _
    · split
      · exact bus s n _
      · split
        · exact same rfl rfl
        · split
          · exact bus s n _
          · exact bus s n _

theorem discover (s : State) (site : Nat) : s.Sustains (s.discover site) := by
  unfold State.discover
  split
  · exact refl s
  · rename_i r hr
    split
    · rename_i hst
      have hlost : s.Sustains (s.modRobot site fun x => { x with state := .lost .power }) :=
        robot s fun r' hr' => by
          rw [hr] at hr'
          cases hr'
          exact .stillResting (by rw [hst]; rfl) rfl rfl id
      simp only
      split
      · exact hlost.trans (ebbs (.discoveryPins _ site))
      · exact hlost
    · exact refl s

theorem endCensus (s : State) (n : Nat) (result : CensusResult) : s.Sustains (s.endCensus n result) := by
  unfold State.endCensus
  refine (bus s n _).trans (sweep _ _ fun i u => ?_)
  split
  · exact discover u i
  · exact refl u

theorem finishRound (s : State) (n : Nat) (slots : List SlotJudgement) : s.Sustains (s.finishRound n slots) := by
  have h := ((bus s n fun b => { b with round := none, lastFrames := [] }).trans
    (foldl (fun u serial => cleanSerial u n serial) (cleanSerials slots) _)).trans
      (bus _ n fun b => { b with nextWindow := windowAfter b.nextWindow slots })
  unfold State.finishRound
  simp only
  split
  · exact h
  · split
    · exact h.trans (endCensus _ n _)
    · split
      · exact h.trans (endCensus _ n _)
      · exact h

theorem trip (s : State) (n : Nat) (cause : TripCause) : s.Sustains (s.trip n cause) := by
  have htripped : s.Sustains (s.modBus n fun b => b.tripped cause).latchBusTrip := same rfl rfl
  exact htripped.trans (powerLoss _ [n])

/-! ### Link units -/

/-- A change of a link that leaves its queue and its counts. -/
theorem linkSame (s : State) (n : Nat) {f : Link → Link}
    (h : ∀ u, (f u).transmit = u.transmit ∧ (f u).errors = u.errors ∧ (f u).drops = u.drops) :
    s.Sustains (s.modLink n f) :=
  link s fun u _ => by
    obtain ⟨ht, he, hd⟩ := h u
    exact ⟨by rw [ht]; exact id, by rw [he]; exact id, by rw [hd]; exact id⟩

theorem enterLink (s : State) (n : Nat) (st : LinkState) {f : Link → Link} (h : ∀ u, Link.Sustains u (f u)) :
    s.Sustains (s.enterLink n st f) := by
  have hmod : s.Sustains (s.modLink n fun x => { f x with state := st, since := s.now, takenAt := s.now }) :=
    link s fun u _ => ⟨(h u).transmit, (h u).errors, (h u).drops⟩
  unfold State.enterLink
  split
  · exact refl s
  · simp only
    split
    · exact hmod
    · exact hmod.trans (same rfl rfl)

theorem enterProbing (s : State) (n : Nat) : s.Sustains (s.enterProbing n) :=
  ebbs (X := fun _ => False) (.enterProbing s n)

theorem takeDown (s : State) (n : Nat) : s.Sustains (s.takeDown n) := ebbs (X := fun _ => False) (.takeDown s n)

theorem sendNumbered (s : State) (n : Nat) (b : PeerBody) : s.Sustains (s.sendNumbered n b) :=
  ebbs (X := fun _ => False) (.sendNumbered s n b)

theorem sendBorder (s : State) (n i : Nat) (m : BorderMessage) : s.Sustains (s.sendBorder n i m) :=
  ebbs (X := fun _ => False) (.sendBorder s n i m)

theorem enterDisabled (s : State) (n : Nat) : s.Sustains (s.enterDisabled n) :=
  enterLink s n _ fun _ => ⟨fun _ => Nat.zero_le _, id, id⟩

theorem enterFault (s : State) (n : Nat) : s.Sustains (s.enterFault n) :=
  enterLink s n _ fun _ => ⟨fun _ => Nat.zero_le _, id, id⟩

theorem enterUp (s : State) (n : Nat) : s.Sustains (s.enterUp n) := enterLink s n _ .refl

theorem joinTransmit (s : State) (n : Nat) (f : PeerFrame) : s.Sustains (s.joinTransmit n f) := by
  unfold State.joinTransmit
  split
  · exact refl s
  · rename_i u hu
    split
    · rename_i hroom
      refine link s fun u' hu' => ?_
      rw [hu] at hu'
      cases hu'
      exact ⟨fun _ => by simpa using hroom, id, id⟩
    · exact takeDown s n

theorem sendIdent (s : State) (n : Nat) (ack : Bool) : s.Sustains (s.sendIdent n ack) :=
  (linkSame s n (f := fun l => { l with identAt := s.now }) fun _ => ⟨rfl, rfl, rfl⟩).trans (joinTransmit _ n _)

theorem enterMatched (s : State) (n : Nat) : s.Sustains (s.enterMatched n) :=
  (enterLink s n _ (f := fun l => { l with partnerAck := false }) fun _ => ⟨id, id, id⟩).trans (sendIdent _ n true)

theorem enterSyncing (s : State) (n : Nat) : s.Sustains (s.enterSyncing n) :=
  (enterLink s n _ (f := fun l =>
    { l with sendSeq := 0, recvSeq := 0, sentSummary := s.summaryEntries n }) fun _ => ⟨id, id, id⟩).trans (sendNumbered _ n _)

theorem frameError (s : State) (n : Nat) : s.Sustains (s.frameError n) := by
  have h : s.Sustains (s.modLink n fun x => { x with errors := satInc Config.top16 x.errors }) :=
    link s fun u _ => ⟨id, Acts.satInc_le, id⟩
  unfold State.frameError
  split
  · exact refl s
  · simp only
    split
    · exact refl s
    · exact h
    · exact h.trans (takeDown _ n)
    · exact h.trans (takeDown _ n)
    · exact h.trans (takeDown _ n)
    · exact h

/-! ### Frames taken -/

theorem touch (s : State) (n : Nat) : s.Sustains (s.touch n) := linkSame s n fun _ => ⟨rfl, rfl, rfl⟩

theorem advanceRecv (s : State) (n : Nat) : s.Sustains (s.advanceRecv n) := linkSame s n fun _ => ⟨rfl, rfl, rfl⟩

theorem summaryTaken (s : State) (n : Nat) : s.Sustains (s.summaryTaken n) := linkSame s n fun _ => ⟨rfl, rfl, rfl⟩

theorem recordIdent (s : State) (n : Nat) (f : Ident) (acks : Bool) : s.Sustains (s.recordIdent n f acks) :=
  linkSame s n fun _ => ⟨rfl, rfl, rfl⟩

theorem probingIdent (s : State) (n : Nat) (f : Ident) : s.Sustains (s.probingIdent n f) := by
  unfold State.probingIdent
  split
  · exact refl s
  · rename_i l _
    have h : s.Sustains ((s.recordIdent n f false).modLink n fun x =>
        { x with matchCount := l.matchAfter (s.identMatches n f) f }) :=
      (recordIdent s n f false).trans (linkSame _ n fun _ => ⟨rfl, rfl, rfl⟩)
    simp only
    split
    · exact h.trans (enterMatched _ n)
    · exact h

theorem matchedIdent (s : State) (n : Nat) (f : Ident) : s.Sustains (s.matchedIdent n f) := by
  have h := recordIdent s n f true
  unfold State.matchedIdent
  simp only
  split
  · exact h.trans (enterProbing _ n)
  · split
    · exact h.trans (enterSyncing _ n)
    · exact h

theorem syncingIdent (s : State) (n : Nat) (f : Ident) : s.Sustains (s.syncingIdent n f) := by
  have h := recordIdent s n f true
  unfold State.syncingIdent
  simp only
  split
  · exact h
  · exact h.trans (enterProbing _ n)

theorem releaseDecided {s : State} {i : Nat} {l : Lens} {d : Decided} (hl : s.lenses[i]? = some l)
    (hb : l.body = .decided d) : s.Sustains (s.releaseDecided i l d) :=
  ebbs (X := fun _ => True) (.releaseDecided hl hb (.inl trivial))

theorem holdingToPin {s : State} {i : Nat} {l : Lens} {d : Decided} (p : Party) (hl : s.lenses[i]? = some l)
    (hb : l.body = .decided d) : s.Sustains (s.holdingToPin i l d p) :=
  ebbs (X := fun _ => True) (.holdingToPin hl hb (.inl trivial))

theorem setDecided (s : State) (i : Nat) (d : Decided) : s.Sustains (s.setDecided i d) := same rfl rfl

theorem setClient (s : State) (i : Nat) (c : Client) : s.Sustains (s.setClient i c) := same rfl rfl

theorem adoptLens {s : State} {i : Nat} {l : Lens} {d : Decided} (p : Party) (e : Option SummaryState)
    (hl : s.lenses[i]? = some l) (hb : l.body = .decided d) : s.Sustains (s.adoptLens i l d p e) := by
  unfold State.adoptLens
  split
  · split
    · exact setDecided s i _
    · split
      · exact refl s
      · split <;> exact setDecided s i _
  · split
    · exact holdingToPin p hl hb
    · exact setDecided s i _
  · split
    · exact releaseDecided hl hb
    · split
      · exact setDecided s i _
      · exact refl s

theorem adoptPosition (entries : List SummaryEntry) (a : State × List Nat) (x : Nat × Nat) :
    a.1.Sustains (Machine.adoptPosition entries a x).1 := by
  unfold Machine.adoptPosition
  split
  · exact refl _
  · rename_i l hl
    split
    · rename_i p d _ hb
      exact adoptLens p _ hl hb
    · exact refl _

/-- Steps in a row that also gather something. -/
theorem foldl_fst {α β : Type} {f : State × β → α → State × β} (h : ∀ (a : State × β) x, a.1.Sustains (f a x).1)
    (l : List α) (a : State × β) : a.1.Sustains (l.foldl f a).1 := by
  induction l generalizing a with
  | nil => exact refl a.1
  | cons x l ih => exact (h a x).trans (ih (f a x))

theorem adopt (s : State) (n : Nat) (entries : List SummaryEntry) : s.Sustains (s.adopt n entries) := by
  have hfold := (summaryTaken s n).trans
    (foldl_fst (adoptPosition entries) (s.borderList n).zipIdx (s.summaryTaken n, []))
  unfold State.adopt
  simp only
  refine close ?_
  split
  · exact (hfold.trans (linkSame _ n fun _ => ⟨by rfl, by rfl, by rfl⟩)).trans (enterUp _ n)
  · exact (hfold.trans (linkSame _ n fun _ => ⟨by rfl, by rfl, by rfl⟩)).trans (enterFault _ n)

theorem comparePosition (n : Nat) (sent : List (Nat × SummaryState)) (s : State) (x : Nat × Nat) :
    s.Sustains (Machine.comparePosition n sent s x) := by
  unfold Machine.comparePosition
  split
  · exact refl s
  · split
    · exact refl s
    · split
      · exact refl s
      · exact sendBorder s n _ _

theorem followSummary (s : State) (n : Nat) : s.Sustains (s.followSummary n) :=
  close (((summaryTaken s n).trans (enterUp _ n)).trans (foldl (comparePosition n _) _ _))

theorem claimMessage (t : State) (i : Nat) (l : Lens) (d : Decided) (p : Party) :
    t.Sustains (Machine.claimMessage t i l d p) := by
  unfold Machine.claimMessage
  simp only
  split
  · exact sendBorder t _ i _
  · split
    · exact refl t
    · split
      · exact setDecided t i _
      · exact (setDecided t i _).trans (sendBorder _ _ i _)

theorem withdrawMessage {t : State} {i : Nat} {l : Lens} {d : Decided} (p : Party) (hl : t.lenses[i]? = some l)
    (hb : l.body = .decided d) : t.Sustains (Machine.withdrawMessage t i l d p) := by
  unfold Machine.withdrawMessage
  split
  · exact setDecided t i _
  · split
    · exact releaseDecided hl hb
    · exact refl t

theorem releaseMessage {t : State} {i : Nat} {l : Lens} {d : Decided} (p : Party) (hl : t.lenses[i]? = some l)
    (hb : l.body = .decided d) : t.Sustains (Machine.releaseMessage t i l d p) := by
  unfold Machine.releaseMessage
  split
  · exact releaseDecided hl hb
  · split
    · exact setDecided t i _
    · exact refl t

theorem pinMessage {t : State} {i : Nat} {l : Lens} {d : Decided} (p : Party) (hl : t.lenses[i]? = some l)
    (hb : l.body = .decided d) : t.Sustains (Machine.pinMessage t i l d p) := by
  unfold Machine.pinMessage
  split
  · exact holdingToPin p hl hb
  · exact setDecided t i _

theorem holdMessage (t : State) (i : Nat) (l : Lens) (d : Decided) (p : Party) :
    t.Sustains (Machine.holdMessage t i l d p) := by
  unfold Machine.holdMessage
  split
  · exact setDecided t i _
  · split
    · exact takeDown t _
    · split
      · exact setDecided t i _
      · exact refl t

theorem grantMessage (t : State) (i : Nat) (l : Lens) (c : Client) : t.Sustains (Machine.grantMessage t i l c) := by
  unfold Machine.grantMessage
  split
  · exact (setClient t i _).trans (ebbs (X := fun _ => False) (.tellGrant _ i l.b))
  · exact sendBorder t _ i _
  all_goals exact refl t

theorem refuseMessage (reason : RefuseReason) (t : State) (i : Nat) (l : Lens) (c : Client) :
    t.Sustains (Machine.refuseMessage reason t i l c) := by
  unfold Machine.refuseMessage
  split
  · exact (setClient t i _).trans (ebbs (X := fun _ => False) (.denyRobot _ l.b.index .refused))
  · exact refl t

/-! ### The limits of time -/

theorem cutSite (i : Nat) (s : State) : s.Sustains (s.cutSite i) := by
  unfold State.cutSite
  split
  · exact endAtRest s i _
  · exact refl s

theorem timeoutWait (s : State) (site : Nat) : s.Sustains (s.timeoutWait site) := by
  unfold State.timeoutWait
  refine .trans ?_ (endAtRest _ site _)
  split
  · exact ebbs (X := fun _ => True) (.endWait s trivial)
  · exact refl s

end State.Sustains

end Sys2Proof.Machine
end

section
/-! `State.Safe`: what every step keeps of moves, queues, shape, counts and parameters, with the ways to show it. -/

namespace Sys2Proof.Machine

/-- `t` keeps every bound of `s` on moves, denials, queues, shape, counts and parameters. -/
structure State.Safe (s t : State) : Prop where
  moves : s.MovesSound → t.MovesSound
  denials : s.NoDenialWaits → t.NoDenialWaits
  queues : s.QueuesSound → t.QueuesSound
  shape : s.ShapeSound → t.ShapeSound
  counts : s.CountsSound → t.CountsSound
  inRange : s.params.inRange = true → t.params.inRange = true

namespace State.Safe

variable {s t u : State}

theorem refl (s : State) : s.Safe s := ⟨id, id, id, id, id, id⟩

theorem trans (h1 : s.Safe t) (h2 : t.Safe u) : s.Safe u :=
  ⟨h2.moves ∘ h1.moves, h2.denials ∘ h1.denials, h2.queues ∘ h1.queues, h2.shape ∘ h1.shape, h2.counts ∘ h1.counts,
    h2.inRange ∘ h1.inRange⟩

/-! ### Changes within the bounds of `Acts` and `State.Sustains` -/

/-- A change that acts within its bounds, leaves no denial and keeps the outcome queue's capacity. -/
theorem of_acts (ha : Acts s t) (hs : s.Sustains t) (hd : s.NoDenialWaits → t.NoDenialWaits)
    (ho : s.outcomes.length ≤ Config.outcomeDepth → t.outcomes.length ≤ Config.outcomeDepth) : s.Safe t where
  moves h r hr := by
    obtain ⟨_, x, -, hx, hxr⟩ := hs.robots.mem hr
    exact hxr.moves (h x hx)
  denials := hd
  queues h := by
    obtain ⟨hout, hseq, hmet, hlinks⟩ := h
    refine ⟨ho hout, by rw [ha.keeps.sequencer]; exact hseq, by rw [ha.keeps.metrology]; exact hmet, fun l hl => ?_⟩
    obtain ⟨_, x, -, hx, hxl⟩ := hs.links.mem hl
    exact hxl.transmit (hlinks x hx)
  shape h := by
    obtain ⟨hlinks, hbuses, hshaped⟩ := h
    exact ⟨ha.keeps.links.trans hlinks, ha.keeps.buses.trans hbuses, ha.busesShaped hshaped⟩
  counts h := by
    obtain ⟨hseq, hmet, hlinks, hrobots⟩ := h
    refine ⟨by rw [ha.keeps.sequencer]; exact hseq, by rw [ha.keeps.metrology]; exact hmet, fun l hl => ?_,
      fun r hr => ?_⟩
    · obtain ⟨_, x, -, hx, hxl⟩ := hs.links.mem hl
      exact ⟨hxl.errors (hlinks x hx).1, hxl.drops (hlinks x hx).2⟩
    · obtain ⟨_, x, -, hx, hxr⟩ := hs.robots.mem hr
      exact hxr.counts (hrobots x hx)
  inRange h := by rw [ha.keeps.params]; exact h

/-- An event that closes (R93, R96, R97). -/
theorem close {v : State} (hv : v.outcomes.length ≤ Config.outcomeDepth → s.outcomes.length ≤ Config.outcomeDepth)
    (ha : Acts v t) (hs : v.Sustains t) : v.Safe (s.close t) :=
  of_acts ((ha.trans (.settle t)).trans (.closeEvent s _)) ((hs.trans (.settle t)).trans (.closeEvent s _))
    (fun _ => s.close_noDenialWaits t) fun h => closeEvent_capacity s _ (hv h)

/-- An event that began in `s` closes. -/
theorem closed (ha : Acts s t) (hs : s.Sustains t) : s.Safe (s.close t) := close id ha hs

/-- An event over the sites closes. -/
theorem sweep (s : State) {act : Nat → State → State} (ha : ∀ i (t : State), Acts t (act i t))
    (hs : ∀ i (t : State), t.Sustains (act i t)) : s.Safe (s.sweep act) :=
  closed (.forSites (fun t i => ha i t) s) (.forSites (fun t i => hs i t) s)

/-- A change that leaves the robots and the outcome queue. -/
theorem quiet (ha : Acts s t) (hs : s.Sustains t) (hr : t.robots = s.robots) (ho : t.outcomes = s.outcomes) :
    s.Safe t :=
  of_acts ha hs (fun h => by unfold State.NoDenialWaits; rw [hr]; exact h) (by rw [ho]; exact id)

/-- A robot is changed, and comes to have no denial that waits. -/
theorem robot (s : State) {i : Nat} {f : Robot → Robot}
    (h : ∀ r, s.robots[i]? = some r → r.Sustains (f r) ∧ (r.deniedAtRest = none → (f r).deniedAtRest = none)) :
    s.Safe (s.modRobot i f) :=
  of_acts (.robot s i f) (.robot s fun r hr => (h r hr).1) (fun hd r hr => by
    rcases Acts.mem_modify hr with hm | ⟨x, hx, rfl⟩
    · exact hd r hm
    · exact (h x hx).2 (hd x (List.mem_of_getElem? hx))) id

/-- A robot is changed in nothing that a move or a count is. -/
theorem robotSame (s : State) (i : Nat) {f : Robot → Robot} (hs : ∀ r : Robot, r.Sustains (f r))
    (hst : ∀ r, (f r).state = r.state) (hm : ∀ r, (f r).move = r.move) : s.Safe (s.modRobot i f) :=
  robot s fun r _ => ⟨hs r, fun hd => by
    unfold Robot.deniedAtRest at hd ⊢
    rw [hst, hm]
    exact hd⟩

theorem bus (s : State) (n : Nat) {f : Bus → Bus} (h : ∀ b : Bus, b.Shaped → (f b).Shaped) : s.Safe (s.modBus n f) :=
  quiet (.bus s n f h) (.bus s n f) rfl rfl

/-- A transaction begins once its bus has been changed. -/
theorem beginTxn (s : State) (n site : Nat) {f : Bus → Bus} (kind : TxnKind)
    (h : ∀ b : Bus, b.Shaped → (f b).Shaped) : s.Safe ((s.modBus n f).beginTxn n kind site) :=
  (bus s n h).trans (quiet (.beginTxn _ n kind site) (.beginTxn _ n kind site) rfl rfl)

/-! ### Changes of other parts -/

/-- The robots, the links, the buses, the outcomes, the ports and the parameters stay as they are. -/
theorem rest (hrobots : t.robots = s.robots) (hlinks : t.links = s.links) (hbuses : t.buses = s.buses)
    (houtcomes : t.outcomes = s.outcomes) (hseq : t.sequencer = s.sequencer) (hmet : t.metrology = s.metrology)
    (hparams : t.params = s.params) : s.Safe t := by
  refine ⟨?_, ?_, ?_, ?_, ?_, by rw [hparams]; exact id⟩
  · unfold State.MovesSound; rw [hrobots]; exact id
  · unfold State.NoDenialWaits; rw [hrobots]; exact id
  · unfold State.QueuesSound; rw [houtcomes, hseq, hmet, hlinks]; exact id
  · unfold State.ShapeSound; rw [hlinks, hbuses]; exact id
  · unfold State.CountsSound; rw [hseq, hmet, hlinks, hrobots]; exact id

/-- The buses are changed one by one, within their shape. -/
theorem busMap (s : State) (f : Bus → Bus) (h : ∀ b : Bus, b.Shaped → (f b).Shaped) :
    s.Safe { s with buses := s.buses.map f } := by
  refine ⟨id, id, id, fun ⟨hlinks, hbuses, hshaped⟩ => ⟨hlinks, by simpa using hbuses, fun b hb => ?_⟩, id, id⟩
  obtain ⟨x, hx, rfl⟩ := List.mem_map.mp hb
  exact h x (hshaped x hx)

/-- A parameter is set within its range. -/
theorem params (s : State) (f : Params → Params) (h : s.params.inRange = true → (f s.params).inRange = true) :
    s.Safe { s with params := f s.params } := ⟨id, id, id, id, id, h⟩

/-- A port's record is changed within its capacity and its error count's range (R173, R174). -/
theorem port (s : State) (p : PortId) {f : StationPort → StationPort}
    (hq : ∀ x : StationPort, x.queue.length ≤ Config.requestDepth → (f x).queue.length ≤ Config.requestDepth)
    (he : ∀ x : StationPort, x.errors ≤ Config.top16 → (f x).errors ≤ Config.top16) : s.Safe (s.modPort p f) := by
  cases p
  · exact ⟨id, id, fun ⟨ho, hs, hm, hl⟩ => ⟨ho, hq _ hs, hm, hl⟩, id, fun ⟨hs, hm, hl, hr⟩ => ⟨he _ hs, hm, hl, hr⟩, id⟩
  · exact ⟨id, id, fun ⟨ho, hs, hm, hl⟩ => ⟨ho, hs, hq _ hm, hl⟩, id, fun ⟨hs, hm, hl, hr⟩ => ⟨hs, he _ hm, hl, hr⟩, id⟩

/-! ### Requests (R174, R175) -/

/-- A request taken leaves a queue that is not longer (R174). -/
theorem dropTaken_length (tag code : Byte) (l : List QueuedRequest) : (dropTaken tag code l).length ≤ l.length := by
  cases l with
  | nil => exact Nat.le_refl _
  | cons q rest =>
    rw [dropTaken]
    split
    · exact Nat.le_succ _
    · exact Nat.le_refl _

theorem takeRequest (s : State) (p : PortId) (tag code : Byte) : s.Safe (s.takeRequest p tag code) :=
  port s p (fun _ h => (dropTaken_length tag code _).trans h) fun _ h => h

theorem respond (s : State) (p : PortId) (r : Response) : s.Safe (s.respond p r) :=
  port s p (fun _ h => h) fun _ h => h

theorem answerOnly (s : State) (p : PortId) (tag code : Byte) (st : Status) : s.Safe (s.answerOnly p tag code st) :=
  (takeRequest s p tag code).trans (respond _ p _)

/-- A request whose rule is safe. -/
theorem serve (s : State) (r : Req) (code : Byte) (rights : Rights) {act : State → Answer}
    (h : ∀ t : State, t.Safe (act t).state) : s.Safe (s.serve r code rights act) := by
  have htake := takeRequest s r.port r.tag code
  unfold State.serve
  split
  · exact refl s
  · exact answerOnly s _ _ _ _
  · simp only
    split
    · exact htake.trans (respond _ _ _)
    · split
      · exact htake.trans (respond _ _ _)
      · exact (htake.trans (h _)).trans (respond _ _ _)

end State.Safe

end Sys2Proof.Machine
end

section
/-! The commands that are no requests are safe (`State.Safe`). -/

namespace Sys2Proof.Machine

/-- The command answers a next state that keeps every bound. -/
def SafeOut (s : State) (o : Host.Outcome State Fault Refusal) : Prop := ∀ t, o = .next t → s.Safe t

theorem SafeOut.next {s t : State} (h : s.Safe t) : SafeOut s (.next t) := by
  intro u hu
  cases hu
  exact h

/-- A command that changes nothing. -/
theorem SafeOut.same (s : State) : SafeOut s (.next s) := next (.refl s)

/-! ### Link units that are not UP -/

/-- A link that is not UP is taken down without a departure. -/
theorem State.takeDown_robots {s : State} {n : Nat} (h : ∀ u, s.links[n]? = some u → u.state ≠ .up) :
    (s.takeDown n).robots = s.robots := by
  unfold State.takeDown
  split
  · rfl
  · rename_i u hu
    rw [if_neg (h u hu), State.enterProbing_eq]

theorem State.takeDown_outcomes (s : State) (n : Nat) : (s.takeDown n).outcomes = s.outcomes := by
  unfold State.takeDown
  split
  · rfl
  · split
    · rw [State.enterProbing_eq, State.depart_eq]
    · rw [State.enterProbing_eq]

/-- A link is in the state it has entered. -/
theorem State.enterLink_state {s : State} {n : Nat} {st : LinkState} {f : Link → Link} {u : Link}
    (h : (s.enterLink n st f).links[n]? = some u) : u.state = st := by
  have hmod : ∀ (t : State), t.links = (s.modLink n fun x =>
      { f x with state := st, since := s.now, takenAt := s.now }).links → t.links[n]? = some u → u.state = st := by
    intro t ht hu
    rw [ht, State.modLink_links, List.getElem?_modify_eq] at hu
    obtain ⟨x, -, rfl⟩ := Option.map_eq_some_iff.mp hu
    rfl
  unfold State.enterLink at h
  split at h
  · rename_i hn
    rw [hn] at h
    cases h
  · simp only at h
    split at h <;> exact hmod _ rfl h

theorem State.enterLink_robots (s : State) (n : Nat) (st : LinkState) (f : Link → Link) :
    (s.enterLink n st f).robots = s.robots ∧ (s.enterLink n st f).outcomes = s.outcomes := by
  unfold State.enterLink
  split
  · exact ⟨rfl, rfl⟩
  · simp only
    split <;> exact ⟨rfl, rfl⟩

/-- Where a link is not UP, a frame that joins its queue tells no robot. -/
theorem State.joinTransmit_robots {s : State} {n : Nat} (f : PeerFrame)
    (h : ∀ u, s.links[n]? = some u → u.state ≠ .up) :
    (s.joinTransmit n f).robots = s.robots ∧ (s.joinTransmit n f).outcomes = s.outcomes := by
  unfold State.joinTransmit
  split
  · exact ⟨rfl, rfl⟩
  · split
    · exact ⟨rfl, rfl⟩
    · exact ⟨takeDown_robots h, takeDown_outcomes s n⟩

theorem State.sendNumbered_robots {s : State} {n : Nat} (b : PeerBody)
    (h : ∀ u, s.links[n]? = some u → u.state ≠ .up) :
    (s.sendNumbered n b).robots = s.robots ∧ (s.sendNumbered n b).outcomes = s.outcomes := by
  unfold State.sendNumbered
  split
  · exact ⟨rfl, rfl⟩
  · split
    · exact ⟨rfl, rfl⟩
    · exact ⟨takeDown_robots h, takeDown_outcomes s n⟩

theorem State.sendIdent_robots {s : State} {n : Nat} (ack : Bool)
    (h : ∀ u, s.links[n]? = some u → u.state ≠ .up) :
    (s.sendIdent n ack).robots = s.robots ∧ (s.sendIdent n ack).outcomes = s.outcomes := by
  refine State.joinTransmit_robots (s := s.modLink n fun l => { l with identAt := s.now }) _ fun u hu => ?_
  rw [State.modLink_links, List.getElem?_modify_eq] at hu
  obtain ⟨x, hx, rfl⟩ := Option.map_eq_some_iff.mp hu
  exact h x hx

namespace State.Safe

theorem enterProbing (s : State) (n : Nat) : s.Safe (s.enterProbing n) :=
  quiet (.enterProbing s n) (.enterProbing s n) (by rw [State.enterProbing_eq]) (by rw [State.enterProbing_eq])

theorem sendIdent {s : State} {n : Nat} (ack : Bool) (h : ∀ u, s.links[n]? = some u → u.state ≠ .up) :
    s.Safe (s.sendIdent n ack) :=
  quiet (.sendIdent s n ack) (.sendIdent s n ack) (sendIdent_robots ack h).1 (sendIdent_robots ack h).2

theorem enterMatched (s : State) (n : Nat) : s.Safe (s.enterMatched n) := by
  obtain ⟨hrobots, houtcomes⟩ := sendIdent_robots (s := s.enterLink n .matched fun l => { l with partnerAck := false })
    (n := n) true fun u hu => by rw [enterLink_state hu]; decide
  exact quiet (.enterMatched s n) (.enterMatched s n) (hrobots.trans (enterLink_robots s n _ _).1)
    (houtcomes.trans (enterLink_robots s n _ _).2)

theorem enterSyncing (s : State) (n : Nat) : s.Safe (s.enterSyncing n) := by
  obtain ⟨hrobots, houtcomes⟩ := sendNumbered_robots (s := s.enterLink n .syncing fun l =>
    { l with sendSeq := 0, recvSeq := 0, sentSummary := s.summaryEntries n })
    (n := n) (.summary (s.summaryEntries n)) fun u hu => by rw [enterLink_state hu]; decide
  exact quiet (.enterSyncing s n) (.enterSyncing s n) (hrobots.trans (enterLink_robots s n _ _).1)
    (houtcomes.trans (enterLink_robots s n _ _).2)

theorem touch (s : State) (n : Nat) : s.Safe (s.touch n) := quiet (.touch s n) (.touch s n) rfl rfl

theorem recordIdent (s : State) (n : Nat) (f : Ident) (acks : Bool) : s.Safe (s.recordIdent n f acks) :=
  quiet (.recordIdent s n f acks) (.recordIdent s n f acks) rfl rfl

/-! ### Frames of peers -/

theorem probingIdent (s : State) (n : Nat) (f : Ident) : s.Safe (s.probingIdent n f) := by
  unfold State.probingIdent
  split
  · exact refl s
  · rename_i l _
    have h : s.Safe ((s.recordIdent n f false).modLink n fun x =>
        { x with matchCount := l.matchAfter (s.identMatches n f) f }) :=
      (recordIdent s n f false).trans (quiet (Acts.linkSame _ n _ fun _ => ⟨rfl, rfl, rfl⟩)
        (Sustains.linkSame _ n fun _ => ⟨rfl, rfl, rfl⟩) rfl rfl)
    simp only
    split
    · exact h.trans (enterMatched _ n)
    · exact h

theorem matchedIdent (s : State) (n : Nat) (f : Ident) : s.Safe (s.matchedIdent n f) := by
  have h := recordIdent s n f true
  unfold State.matchedIdent
  simp only
  split
  · exact h.trans (enterProbing _ n)
  · split
    · exact h.trans (enterSyncing _ n)
    · exact h

theorem syncingIdent (s : State) (n : Nat) (f : Ident) : s.Safe (s.syncingIdent n f) := by
  have h := recordIdent s n f true
  unfold State.syncingIdent
  simp only
  split
  · exact h
  · exact h.trans (enterProbing _ n)

theorem takeIdent (s : State) (n : Nat) (f : Ident) : s.Safe (s.takeIdent n f) := by
  unfold State.takeIdent
  split
  · exact refl s
  · split
    · exact refl s
    · exact probingIdent s n f
    · exact matchedIdent s n f
    · exact syncingIdent s n f
    · exact closed ((Acts.takeDown s n).trans (.probingIdent _ n f))
        ((Sustains.takeDown s n).trans (.probingIdent _ n f))
    · exact touch s n

theorem frameError (s : State) (n : Nat) : s.Safe (s.close (s.frameError n)) := closed (.frameError s n) (.frameError s n)

/-- Both sides' part in a SUMMARY ends with the close of its event. -/
theorem syncSummary (s : State) (n : Nat) (entries : List SummaryEntry) : s.Safe (s.syncSummary n entries) := by
  have hclose : (s.syncSummary n entries).NoDenialWaits ∧ (s.outcomes.length ≤ Config.outcomeDepth →
      (s.syncSummary n entries).outcomes.length ≤ Config.outcomeDepth) := by
    unfold State.syncSummary
    split
    · exact ⟨close_noDenialWaits _ _, closeEvent_capacity _ _⟩
    · exact ⟨close_noDenialWaits _ _, closeEvent_capacity _ _⟩
  have hsustains : s.Sustains (s.syncSummary n entries) := by
    unfold State.syncSummary
    split
    · exact .adopt s n entries
    · exact .followSummary s n
  exact of_acts (.syncSummary s n entries) hsustains (fun _ => hclose.1) hclose.2

theorem takeSummary (s : State) (h : PeerHeader) (count : Nat) (entries : List SummaryEntry) :
    s.Safe (s.takeSummary h count entries) := by
  unfold State.takeSummary
  split
  · exact refl s
  · split
    · exact refl s
    · split
      · exact frameError s _
      · split
        · simp only
          split
          · exact (enterSyncing s _).trans (syncSummary _ _ entries)
          · exact enterSyncing s _
        · exact syncSummary s _ entries
        · exact quiet ((Acts.touch s _).trans (.advanceRecv _ _)) ((Sustains.touch s _).trans (.advanceRecv _ _)) rfl rfl
        · exact refl s
        · exact touch s _
        · exact touch s _

theorem takeNumbered (s : State) (h : PeerHeader) (good : Bool) {act : State → State}
    (hact : ∀ t : State, Acts t (act t) ∧ t.Sustains (act t)) : s.Safe (s.takeNumbered h good act) := by
  unfold State.takeNumbered
  split
  · exact refl s
  · split
    · exact refl s
    · split
      · exact frameError s _
      · split
        · exact closed (((Acts.touch s _).trans (.advanceRecv _ _)).trans (hact _).1)
            (((Sustains.touch s _).trans (.advanceRecv _ _)).trans (hact _).2)
        · exact touch s _

theorem arbiterMessage (s : State) (h : PeerHeader) (n : LensName)
    {act : State → Nat → Lens → Decided → Party → State}
    (hact : ∀ (t : State) (i : Nat) (l : Lens) (d : Decided) (p : Party), t.lenses[i]? = some l →
      l.body = .decided d → Acts t (act t i l d p) ∧ t.Sustains (act t i l d p)) :
    s.Safe (s.arbiterMessage h n act) := by
  refine takeNumbered s h _ fun t => ?_
  split
  · exact ⟨.refl t, .refl t⟩
  · split
    · exact ⟨.refl t, .refl t⟩
    · rename_i l hl
      split
      · rename_i p d _ hb
        exact hact t _ l d p hl hb
      · exact ⟨.refl t, .refl t⟩

theorem clientMessage (s : State) (h : PeerHeader) (n : LensName) {act : State → Nat → Lens → Client → State}
    (hact : ∀ (t : State) (i : Nat) (l : Lens) (c : Client), Acts t (act t i l c) ∧ t.Sustains (act t i l c)) :
    s.Safe (s.clientMessage h n act) := by
  refine takeNumbered s h _ fun t => ?_
  split
  · exact ⟨.refl t, .refl t⟩
  · split
    · exact ⟨.refl t, .refl t⟩
    · split
      · exact hact t _ _ _
      · exact ⟨.refl t, .refl t⟩

end State.Safe

/-! ### The outcome queue in loss conversion -/

/-- Telling robots and neighbours makes no outcome record. -/
theorem State.tell_outcomes (s : State) (i : Nat) (x : LensSide) (r : RefuseReason) :
    (s.tellGrant i x).outcomes = s.outcomes ∧ (s.tellDeny i r x).outcomes = s.outcomes := by
  have hsend : ∀ (n : Nat) (m : BorderMessage), (s.sendBorder n i m).outcomes = s.outcomes := fun n m => by
    unfold State.sendBorder State.sendNumbered
    split
    · rfl
    · split
      · split
        · rfl
        · split
          · rfl
          · exact takeDown_outcomes s n
      · rfl
  have hjoin : ∀ (t : State) (j : Nat), (t.joinQueue j).outcomes = t.outcomes := fun t j => by
    unfold State.joinQueue
    split
    · rfl
    · split
      · rfl
      · split <;> rfl
  cases x with
  | site j =>
    refine ⟨?_, ?_⟩
    · show (s.grantRobot j).outcomes = s.outcomes
      unfold State.grantRobot
      split
      · rfl
      · split
        · exact hjoin _ j
        · rfl
    · show (s.denyRobot j _).outcomes = s.outcomes
      unfold State.denyRobot
      split
      · rfl
      · split <;> rfl
  | remote n m => exact ⟨hsend n _, hsend n _⟩

theorem State.clientTo_outcomes (s : State) (i : Nat) (l : Lens) (c : Client) (st : ClaimState) (m : BorderMessage) :
    (s.clientTo i l c st m).outcomes = s.outcomes := by
  unfold State.clientTo State.sendBorder State.sendNumbered
  split
  · rfl
  · split
    · split
      · rfl
      · split
        · rfl
        · exact takeDown_outcomes _ _
    · rfl

theorem State.lossLens_outcomes (s : State) (site i : Nat) : (s.lossLens site i).outcomes = s.outcomes := by
  unfold State.lossLens
  split
  · rfl
  · split
    · rfl
    · split
      · split
        · unfold State.holdingToPin
          simp only
          split
          · rfl
          · exact (tell_outcomes _ _ _ _).2
        · split
          · unfold State.releaseDecided
            simp only
            split
            · exact (tell_outcomes _ _ _ .taken).1
            · rfl
          · rfl
      · split
        · exact clientTo_outcomes _ _ _ _ _ _
        · exact clientTo_outcomes _ _ _ _ _ _
        all_goals rfl

/-- Changes in a row that each make no outcome record. -/
theorem State.foldl_outcomes {α : Type} {f : State → α → State} (h : ∀ s x, (f s x).outcomes = s.outcomes)
    (l : List α) (s : State) : (l.foldl f s).outcomes = s.outcomes := by
  induction l generalizing s with
  | nil => rfl
  | cons x l ih => exact (ih _).trans (h s x)

theorem State.lossAt_outcomes (s : State) (l : List Nat) (i : Nat) : (s.lossAt l i).outcomes = s.outcomes := by
  refine foldl_outcomes (fun u site => ?_) _ s
  simp only
  split
  · exact lossLens_outcomes u site i
  · rfl

theorem State.failInquiryPower_outcomes (s : State) (l : List Nat) : (s.failInquiryPower l).outcomes = s.outcomes := by
  unfold State.failInquiryPower
  split
  · split <;> rfl
  all_goals rfl

namespace State.Safe

theorem powerLoss (s : State) (l : List Nat) : s.Safe (s.powerLoss l) := by
  unfold State.powerLoss
  simp only
  have hdown : s.Sustains (((l.foldl (fun u b => u.modBus b Bus.powerDown) s).failInquiryPower l).forLenses
      fun i u => u.lossAt l i) :=
    ((Sustains.foldl (fun s b => .bus s b _) l s).trans (.failInquiryPower _ l)).trans
      (.foldl (fun t i => Sustains.lossAt t l i) _ _)
  have hacts : Acts s (((l.foldl (fun u b => u.modBus b Bus.powerDown) s).failInquiryPower l).forLenses
      fun i u => u.lossAt l i) :=
    ((Acts.foldl (fun s b => .bus s b _ fun _ h => Acts.powerDown_shaped h) l s).trans (.failInquiryPower _ l)).trans
      (.forLenses (fun t i => .lossAt t l i) _)
  refine close (fun h => ?_) (hacts.trans (.forSites (fun t i => ?_) _)) (hdown.trans (.forSites (fun t i => ?_) _))
  · refine (congrArg List.length ?_).trans_le h
    calc (State.forLenses ((l.foldl (fun u b => u.modBus b Bus.powerDown) s).failInquiryPower l)
          fun i u => u.lossAt l i).outcomes
        = ((l.foldl (fun u b => u.modBus b Bus.powerDown) s).failInquiryPower l).outcomes :=
          foldl_outcomes (fun u i => lossAt_outcomes u l i) _ _
      _ = (l.foldl (fun u b => u.modBus b Bus.powerDown) s).outcomes := failInquiryPower_outcomes _ l
      _ = s.outcomes := foldl_outcomes (f := fun u b => u.modBus b Bus.powerDown) (fun _ _ => rfl) l s
  · split
    · exact .goOffline t i
    · exact .refl t
  · split
    · exact .goOffline t i
    · exact .refl t

theorem trip (s : State) (n : Nat) (cause : TripCause) : s.Safe (s.trip n cause) := by
  have htripped : s.Safe (s.modBus n fun b => b.tripped cause) := bus s n fun _ h => h
  have hlatch : (s.modBus n fun b => b.tripped cause).Safe (s.modBus n fun b => b.tripped cause).latchBusTrip :=
    rest rfl rfl rfl rfl rfl rfl rfl
  exact (htripped.trans hlatch).trans (powerLoss _ [n])

/-! ### The census -/

theorem cleanSerial (s : State) (n : Nat) (serial : Serial) : s.Safe (s.cleanSerial n serial) := by
  have hsame : (s.cleanSerial n serial).robots = s.robots ∧ (s.cleanSerial n serial).outcomes = s.outcomes := by
    unfold State.cleanSerial
    split
    · exact ⟨rfl, rfl⟩
    · simp only
      split
      · exact ⟨rfl, rfl⟩
      · split
        · exact ⟨rfl, rfl⟩
        · split
          · exact ⟨rfl, rfl⟩
          · split <;> exact ⟨rfl, rfl⟩
  exact quiet (.cleanSerial s n serial) (.cleanSerial s n serial) hsame.1 hsame.2

theorem foldl {α : Type} {f : State → α → State} (h : ∀ (s : State) x, s.Safe (f s x)) (l : List α) (s : State) :
    s.Safe (l.foldl f s) := by
  induction l generalizing s with
  | nil => exact refl s
  | cons x l ih => exact (h s x).trans (ih _)

theorem endCensus (s : State) (n : Nat) (result : CensusResult) : s.Safe (s.endCensus n result) := by
  unfold State.endCensus
  refine (bus s n (f := fun b => { b with
    protocol := .running, census := { b.census with result := result }, round := none,
    keepaliveTime := some s.now, lastPolled := none, lastKeepalive := none }) fun _ h => h).trans
      (sweep _ (fun i u => ?_) fun i u => ?_)
  · split
    · exact .discover u i
    · exact .refl u
  · split
    · exact .discover u i
    · exact .refl u

theorem finishRound (s : State) (n : Nat) (slots : List SlotJudgement) : s.Safe (s.finishRound n slots) := by
  have h := ((bus s n (f := fun b => { b with round := none, lastFrames := [] }) fun _ h => h).trans
    (foldl (fun u serial => cleanSerial u n serial) (cleanSerials slots) _)).trans
      (bus _ n (f := fun b => { b with nextWindow := windowAfter b.nextWindow slots }) fun _ h => h)
  unfold State.finishRound
  simp only
  split
  · exact h
  · split
    · exact h.trans (endCensus _ n _)
    · split
      · exact h.trans (endCensus _ n _)
      · exact h

/-- A sample of the supply monitor (R47, R169). -/
theorem convert (s : State) (n : Nat) (b : Bus) (v : Nat) : s.Safe (s.convert n b v) := by
  have h : s.Safe { s.modBus n (fun x => x.takeSample v) with conversionDue := false } :=
    (bus s n (f := fun x => x.takeSample v) fun _ h => h).trans (rest rfl rfl rfl rfl rfl rfl rfl)
  unfold State.convert
  simp only
  split
  · exact h
  · split
    · exact h.trans (trip _ n _)
    · exact h.trans (bus _ n fun _ h => h)

end State.Safe

/-! ### The commands -/

namespace SafeOut

theorem arbiterMessage (s : State) (h : PeerHeader) (n : LensName)
    {act : State → Nat → Lens → Decided → Party → State}
    (hact : ∀ (t : State) (i : Nat) (l : Lens) (d : Decided) (p : Party), t.lenses[i]? = some l →
      l.body = .decided d → Acts t (act t i l d p) ∧ t.Sustains (act t i l d p)) :
    SafeOut s (.next (s.arbiterMessage h n act)) := next (.arbiterMessage s h n hact)

theorem identSend (s : State) (n : Nat) : SafeOut s (execIdentSend n s) := by
  have hdown : ∀ st : LinkState, st ≠ .up → s.linkIs n st = true → ∀ u, s.links[n]? = some u → u.state ≠ .up := by
    intro st hst h u hu
    have : u.state = st := by simpa [State.linkIs, hu] using h
    rwa [this]
  unfold execIdentSend
  split
  · rename_i h
    exact next (.sendIdent _ (hdown .probing (by decide) h))
  · split
    · rename_i h
      exact next (.sendIdent _ (hdown .matched (by decide) h))
    · exact same s

theorem keepaliveSend (s : State) (n : Nat) : SafeOut s (execKeepaliveSend n s) := by
  unfold execKeepaliveSend
  split
  · exact next (.closed (.sendNumbered s n _) (.sendNumbered s n _))
  · exact same s

theorem silenceLimit (s : State) (n : Nat) : SafeOut s (execSilenceLimit n s) := by
  unfold execSilenceLimit
  split
  · exact next (.closed (.takeDown s n) (.takeDown s n))
  · exact same s

theorem matchedTimeout (s : State) (n : Nat) : SafeOut s (execMatchedTimeout n s) := by
  unfold execMatchedTimeout
  split
  · exact next (.enterProbing s n)
  · exact same s

theorem syncingTimeout (s : State) (n : Nat) : SafeOut s (execSyncingTimeout n s) := by
  unfold execSyncingTimeout
  split
  · exact next (.enterProbing s n)
  · exact same s

theorem peerFrameSent (s : State) (n : Nat) : SafeOut s (execPeerFrameSent n s) := by
  refine next (.quiet ((ActsOut.peerFrameSent s n).acts rfl) (.link s fun u _ => ?_) rfl rfl)
  split
  · exact .refl u
  · exact ⟨fun h => by rw [List.length_tail]; omega, id, id⟩

/-! #### The limits of time -/

theorem deadlineExpiry (s : State) : SafeOut s (execDeadlineExpiry s) := by
  have h : s.Safe s.expireTimer := .rest rfl rfl rfl rfl rfl rfl rfl
  unfold execDeadlineExpiry
  split
  · split
    · exact next h
    · have hcut : s.expireTimer.Safe s.expireTimer.markCut := .rest rfl rfl rfl rfl rfl rfl rfl
      exact next ((h.trans hcut).trans (.sweep _ Acts.cutSite State.Sustains.cutSite))
  · exact same s

theorem waitDeadlinePasses (s : State) (site : Nat) : SafeOut s (execWaitDeadlinePasses site s) := by
  unfold execWaitDeadlinePasses
  split
  · exact next (.closed (.timeoutWait s site) (.timeoutWait s site))
  · exact same s

theorem legTimeout (s : State) (site : Nat) : SafeOut s (execLegTimeout site s) := by
  unfold execLegTimeout
  split
  · rename_i h
    have hqueue : s.Safe (s.queueHalt site) := .quiet (.queueHalt s site) (.queueHalt s site) rfl rfl
    refine next (hqueue.trans (.robot _ fun r hr => ⟨.stillMoving ?_ (by simp) rfl id, fun _ => ?_⟩))
    · rw [State.queueHalt, State.modBus_robots] at hr
      have hleg : r.state = .inLeg := by
        simp only [State.legRuns, hr, Option.any_some, Bool.and_eq_true, beq_iff_eq] at h
        exact h.1
      rw [hleg]
      rfl
    · simp [Robot.deniedAtRest]
  · exact same s

theorem haltTimeLimit (s : State) (site : Nat) : SafeOut s (execHaltTimeLimit site s) := by
  unfold execHaltTimeLimit
  split
  · exact next (.closed ((Acts.lose s site _).trans (.queueHalt _ site))
      ((State.Sustains.lose s site _).trans (.queueHalt _ site)))
  · exact same s

/-! #### The arbiter's places and the robots' replies -/

theorem haltBroadcast (s : State) (n : Nat) : SafeOut s (execHaltBroadcast n s) :=
  next (.quiet ((ActsOut.haltBroadcast s n).acts rfl) (.bus s n _) rfl rfl)

theorem haltAddressed (s : State) (n : Nat) : SafeOut s (execHaltAddressed n s) := by
  unfold execHaltAddressed
  split
  · exact same s
  · split
    · exact same s
    · split
      · exact next (.beginTxn s n _ _ fun _ h => h)
      · exact same s

theorem legDispatch (s : State) (n : Nat) : SafeOut s (execLegDispatch n s) := by
  unfold execLegDispatch
  split
  · exact same s
  · split
    · split
      · exact same s
      · split
        · exact same s
        · rename_i site _ _ r hr
          split
          · exact same s
          · rename_i leg hleg
            have hm : r.move.isSome = true := by
              cases hm : r.move with
              | none => simp [hm] at hleg
              | some m => rfl
            exact next (.of_acts (.dispatchLeg s n site r leg) (.dispatchLeg s n leg hr hm)
              (fun _ => State.close_noDenialWaits _ _) (closeEvent_capacity _ _))
    · exact same s

theorem poll (s : State) (n : Nat) : SafeOut s (execPoll n s) := by
  unfold execPoll
  split
  · exact same s
  · split
    · split
      · exact same s
      · exact next ((State.Safe.robotSame s _ (f := fun r => { r with pollTime := some s.now }) (fun _ => ⟨id, id⟩)
          (fun _ => rfl) fun _ => rfl).trans (.beginTxn _ n _ _ fun _ h => h))
    · exact same s

theorem setCounts (s : State) (n : Nat) : SafeOut s (execSetCounts n s) := by
  unfold execSetCounts
  split
  · exact same s
  · split
    · split
      · exact next (.beginTxn s n _ _ fun _ h => h)
      · exact same s
    · exact same s
    · exact same s

theorem inquireTransaction (s : State) (n : Nat) : SafeOut s (execInquireTransaction n s) := by
  unfold execInquireTransaction
  split
  · exact same s
  · split
    · split
      · exact next (.beginTxn s n _ _ fun _ h => h)
      · exact same s
    · exact same s
    · exact same s

theorem keepalivePoll (s : State) (n : Nat) : SafeOut s (execKeepalivePoll n s) := by
  unfold execKeepalivePoll
  split
  · exact same s
  · split
    · split
      · exact same s
      · exact next (.beginTxn s n _ _ fun _ h => h)
    · exact same s

theorem robotReplyGood (s : State) (n : Nat) (reply : BusReply) : SafeOut s (execRobotReplyGood n reply s) := by
  unfold execRobotReplyGood
  split
  · exact same s
  · exact next (.closed (.goodReply s n _ reply) (.goodReply s n _ reply))

theorem robotReplyMissing (s : State) (n : Nat) : SafeOut s (execRobotReplyMissing n s) := by
  unfold execRobotReplyMissing
  split
  · exact same s
  · exact next (.closed ((Acts.bus s n _ fun _ h => Acts.count_shaped _ h).trans (.attemptFailed _ n _))
      ((State.Sustains.bus s n _).trans (.attemptFailed _ n _)))

theorem robotReplyCheckError (s : State) (n : Nat) : SafeOut s (execRobotReplyCheckError n s) := by
  unfold execRobotReplyCheckError
  split
  · exact same s
  · exact next (.closed (.checkError s n _) ((State.Sustains.bus s n _).trans (.attemptFailed _ n _)))

/-! #### The supply monitor and the census -/

theorem currentSample (s : State) (n milliamps : Nat) : SafeOut s (execCurrentSample n milliamps s) := by
  unfold execCurrentSample
  split
  · split
    · exact same s
    · exact next (.convert s n _ _)
  · exact same s

theorem jabber (s : State) (n : Nat) : SafeOut s (execJabber n s) := by
  unfold execJabber
  split
  · exact next (.trip s n _)
  · exact same s

theorem blankingEnd (s : State) (n : Nat) : SafeOut s (execBlankingEnd n s) :=
  next (.quiet ((ActsOut.blankingEnd s n).acts rfl) (.bus s n _) rfl rfl)

theorem rollcall (s : State) (n : Nat) : SafeOut s (execRollcall n s) :=
  next (.quiet ((ActsOut.rollcall s n).acts rfl) (.bus s n _) rfl rfl)

theorem rollcallSlotEnd (s : State) (n : Nat) (slot : SlotJudgement) : SafeOut s (execRollcallSlotEnd n slot s) := by
  unfold execRollcallSlotEnd
  split
  · exact same s
  · split
    · exact same s
    · rename_i slots _
      have h : s.Safe (s.modBus n fun x => { x.countSlot slot with round := some (slots ++ [slot]) }) :=
        .bus s n fun _ h => Acts.countSlot_shaped slot h
      simp only
      split
      · exact next h
      · exact next (h.trans (.finishRound _ n _))

/-! #### Inputs and station frames -/

theorem shutterClosed (s : State) : SafeOut s (execShutterClosed s) := by
  unfold execShutterClosed
  split
  · exact next (.rest rfl rfl rfl rfl rfl rfl rfl)
  · exact same s

theorem stopReleased (s : State) : SafeOut s (execStopReleased s) := by
  unfold execStopReleased
  split
  · exact next (.rest rfl rfl rfl rfl rfl rfl rfl)
  · exact same s

theorem stopAsserted (s : State) : SafeOut s (execStopAsserted s) := by
  unfold execStopAsserted
  split
  · exact same s
  · have hmode : s.Safe ({ s with inputs := s.inputs.assertStop }.enterMode .halted) :=
      .rest rfl rfl rfl rfl rfl rfl rfl
    refine next ((hmode.trans (.busMap _ Bus.stopOff fun b h => ?_)).trans (.powerLoss _ _))
    unfold Bus.stopOff
    split <;> exact h

theorem haltSite (cause : HaltCause) (out : Option (MoveOutcome × Option DenyReason)) (i : Nat) (s : State) :
    s.Sustains (s.haltSite cause out i) := by
  unfold State.haltSite
  split
  · exact .refl s
  · rename_i r hr
    split
    · exact .endAtRest s i out
    · exact .endAtRest s i out
    · rename_i hst
      refine .enterHalting s cause fun r' hr' => ?_
      rw [hr] at hr'
      cases hr'
      rw [hst]
      rfl
    · split
      · exact .modMove s i _
      · exact .refl s
    all_goals exact .refl s

/-- Every move ends or halts (R104, R107). -/
theorem haltMoves (s : State) (cause : HaltCause) (out : Option (MoveOutcome × Option DenyReason)) :
    s.Safe (s.haltMoves cause out) :=
  (State.Safe.foldl (f := State.queueBroadcast) (fun t b => State.Safe.bus t b fun _ h => h) s.legBuses s).trans
    (.sweep _ (Acts.haltSite cause out) (haltSite cause out))

theorem shutterOpened (s : State) : SafeOut s (execShutterOpened s) := by
  unfold execShutterOpened
  split
  · exact same s
  · simp only
    split
    · have hfrozen : s.Safe (State.enterMode { s with inputs := s.inputs.openShutter } (.frozen .shutter)) :=
        .rest rfl rfl rfl rfl rfl rfl rfl
      exact next (hfrozen.trans (haltMoves _ _ _))
    · exact next (.rest rfl rfl rfl rfl rfl rfl rfl)

theorem stationFrameReceived (s : State) (p : PortId) (bytes : List Byte) :
    SafeOut s (execStationFrameReceived p bytes s) := by
  unfold execStationFrameReceived
  split
  · exact next (.port s p (fun _ h => h) fun _ h => Acts.satInc_le h)
  · refine next (.port s p (fun x h => ?_) fun x h => ?_)
    · unfold StationPort.enqueue
      split
      · simpa using by assumption
      · exact h
    · unfold StationPort.enqueue
      split <;> exact h

theorem badFrame (s : State) (p : PortId) (tag code : Byte) : SafeOut s (execBadFrame p tag code s) := by
  refine next ?_
  unfold State.answerBadFrame
  split
  · exact .refl s
  · exact .answerOnly s p tag code _
  · split
    · exact .answerOnly s p tag code _
    · exact .refl s

theorem unknown (s : State) (p : PortId) (tag code : Byte) : SafeOut s (execUnknown p tag code s) := by
  refine next ?_
  unfold State.answerUnknown
  split
  · exact .refl s
  · split
    · exact .refl s
    · exact .answerOnly s p tag code _
    · exact .answerOnly s p tag code _

/-- A full reset meets every bound. -/
theorem fullReset (s : State) (cause : ResetCause) (a b : Bool) : s.Safe (s.fullReset cause a b) := by
  obtain ⟨-, hqueues, hshape, hcounts, hrange, hmoves, hdenials⟩ := resetMeetsTheInvariants
  have hreset : s.Safe State.reset :=
    ⟨fun _ => hmoves, fun _ => hdenials, fun _ => hqueues, fun _ => hshape, fun _ => hcounts, fun _ => hrange⟩
  refine hreset.trans ?_
  cases b <;> exact .rest rfl rfl rfl rfl rfl rfl rfl

end SafeOut

end Sys2Proof.Machine
end

section
/-! The requests are safe (`State.Safe`), and with them every step. -/

namespace Sys2Proof.Machine

/-! ### What a leg that becomes ready changes -/

/-- A leg that becomes ready changes of the robots its own alone, whose move it keeps. -/
theorem State.readyLeg_robots (s : State) (site : Nat) : ∃ f : Robot → Robot,
    (s.readyLeg site).robots = s.robots.modify site f ∧ (∀ r, (f r).move = r.move) ∧
      (s.readyLeg site).outcomes = s.outcomes := by
  have hwait : ∀ (t : State) (i : Nat), (t.setWaitDeadline site i).robots = t.robots ∧
      (t.setWaitDeadline site i).outcomes = t.outcomes := fun t i => by
    unfold State.setWaitDeadline
    simp only
    split
    · exact ⟨rfl, rfl⟩
    · split
      · split <;> exact ⟨rfl, rfl⟩
      · split <;> exact ⟨rfl, rfl⟩
  have hjoin : ∀ t : State, (t.joinQueue site).robots = t.robots ∧ (t.joinQueue site).outcomes = t.outcomes := fun t => by
    unfold State.joinQueue
    split
    · exact ⟨rfl, rfl⟩
    · split
      · exact ⟨rfl, rfl⟩
      · split <;> exact ⟨rfl, rfl⟩
  unfold State.readyLeg
  split
  · exact ⟨id, (List.modify_id ..).symm, fun _ => rfl, rfl⟩
  · split
    · exact ⟨_, (hwait _ _).1, fun _ => rfl, (hwait _ _).2⟩
    · exact ⟨_, (hjoin _).1, fun _ => rfl, (hjoin _).2⟩

namespace State.Sustains

/-- A departure from UP (R145). -/
theorem depart (s : State) (n : Nat) : s.Sustains (s.depart n) := by
  refine ⟨(Ebbs.depart_robots s n).mono fun _ _ _ h => .told h, ?_⟩
  rw [depart_eq]
  exact .modify (fun _ => .refl) fun _ _ => ⟨fun _ => Nat.zero_le _, id, Acts.satInc_le⟩

theorem departIfUp (s : State) (n : Nat) : s.Sustains (s.departIfUp n) := by
  unfold State.departIfUp
  split
  · exact depart s n
  · exact refl s

end State.Sustains

namespace State.Safe

/-! ### Robots and moves -/

theorem atSite (t : State) (site : Nat) {f : Site → Robot → State → Answer}
    (h : ∀ x rob, t.site? site = some x → t.robots[site]? = some rob → t.Safe (f x rob t).state) :
    t.Safe (Machine.atSite t site f).state := by
  unfold Machine.atSite
  split
  · exact refl t
  · split
    · rename_i x rob hx hr
      exact h x rob hx hr
    · exact refl t

theorem admitMove (s : State) (site : Nat) (k : MoveKind) (x : Site) (p q : Pos) (l : Bool) :
    s.Safe (s.admitMove site k x p q l).1 := closed (.tryMove s site k x p q l) (.tryMove s site k x p q l)

theorem moveToAnswer (site : Nat) (q : Pos) (x : Site) (rob : Robot) (t : State) :
    t.Safe (Machine.moveToAnswer site q x rob t).state := by
  unfold Machine.moveToAnswer
  split
  · exact refl t
  · split
    · exact refl t
    · exact admitMove t site _ x _ q _

theorem parkAnswer (site : Nat) (x : Site) (rob : Robot) (t : State) :
    t.Safe (Machine.parkAnswer site x rob t).state := by
  unfold Machine.parkAnswer
  split
  · exact refl t
  · exact admitMove t site _ x _ _ _

/-- A fresh move has no denial (R72). -/
theorem startMove (s : State) (site : Nat) {m : Move} (hm : m.pendingDenial = none) : s.Safe (s.startMove site m) := by
  obtain ⟨f, hrobots, hmove, houtcomes⟩ := (s.modRobot site fun r => { r with move := some m }).readyLeg_robots site
  refine of_acts (.startMove s site m) (.startMove s site m) (fun h r hr => ?_) fun ho => ?_
  · unfold State.startMove at hr
    rw [hrobots, State.modRobot_robots, List.modify_modify_eq] at hr
    rcases Acts.mem_modify hr with hr | ⟨x, -, rfl⟩
    · exact h r hr
    · unfold Robot.deniedAtRest
      split
      · simp [hmove, hm]
      · rfl
  · unfold State.startMove
    rw [houtcomes]
    exact ho

theorem homeAnswer (site : Nat) (rob : Robot) (t : State) :
    t.Safe (Machine.homeAnswer site rob t).state := by
  unfold Machine.homeAnswer
  split
  · exact refl t
  · have hforget : t.Safe (t.modRobot site fun r => { r.forget with fault := none }) :=
      robotSame t site (fun _ => ⟨id, id⟩) (fun _ => rfl) fun _ => rfl
    exact hforget.trans (startMove _ site rfl)

theorem abortField (t : State) : t.Safe (t.sweep fun i u => if t.robots[i]?.any Robot.inField then u.abortRobot i else u) := by
  refine sweep t (fun i u => ?_) fun i u => ?_
  · split
    · exact .abortRobot u i
    · exact .refl u
  · split
    · exact .abortRobot u i
    · exact .refl u

/-- A change of the outcome queue's latch, the field, the timer, the notices or the slots beside it. -/
theorem outcomesDropped (s : State) (count : Nat) : s.Safe { s with outcomes := s.outcomes.drop count } :=
  of_acts (.rest s _ s.overflow s.field s.timer s.notices s.inquiry s.posChanged) (.same rfl rfl) id fun h => by
    rw [List.length_drop]
    omega

theorem readOutcomes (count : Nat) (t : State) : t.Safe (Machine.readOutcomes count t).state := by
  have clear : ∀ u : State, u.Safe u.clearOverflow := fun u => rest rfl rfl rfl rfl rfl rfl rfl
  unfold Machine.readOutcomes
  split
  · exact refl t
  · split
    · exact clear t
    · simp only [okWith]
      split
      · exact (outcomesDropped t count).trans (clear _)
      · exact outcomesDropped t count

/-! ### Enable map and faults -/

theorem setEnabled (t : State) (mask : List Bool) (v : Bool) : t.Safe (t.setEnabled mask v) := by
  have hmem : ∀ r ∈ (t.setEnabled mask v).robots, ∃ x ∈ t.robots, r = x ∨ r = { x with enabled := v } := by
    intro r hr
    obtain ⟨i, hi⟩ := List.mem_iff_getElem?.mp hr
    rw [State.setEnabled, List.getElem?_mapIdx] at hi
    obtain ⟨x, hx, rfl⟩ := Option.map_eq_some_iff.mp hi
    refine ⟨x, List.mem_of_getElem? hx, ?_⟩
    split
    · exact .inr rfl
    · exact .inl rfl
  refine ⟨fun h r hr => ?_, fun h r hr => ?_, id, id, fun ⟨hs, hm, hl, hrobots⟩ => ⟨hs, hm, hl, fun r hr => ?_⟩, id⟩
  · obtain ⟨x, hx, rfl | rfl⟩ := hmem r hr
    · exact h _ hx
    · exact h x hx
  · obtain ⟨x, hx, rfl | rfl⟩ := hmem r hr
    · exact h _ hx
    · exact h x hx
  · obtain ⟨x, hx, rfl | rfl⟩ := hmem r hr
    · exact hrobots _ hx
    · exact hrobots x hx

theorem disableSite (before : State) (mask : List Bool) (i : Nat) (t : State) :
    t.Sustains (State.disableSite before mask i t) := by
  unfold State.disableSite
  split
  · exact .endAtRest t i _
  · exact .refl t

theorem clearFault (t : State) {site : Nat} (h : t.robotIs site .faulted = true) :
    t.Safe (t.modRobot site Robot.clearFault) :=
  robot t fun r hr => by
    have hst : r.state = .faulted := by simpa [State.robotIs, hr] using h
    exact ⟨.stillResting (by rw [hst]; rfl) rfl rfl id, fun _ => rfl⟩

/-! ### Fields and targets -/

/-- The field and the timer are changed. -/
theorem field (t : State) (f : FieldRecord) (x : Timer) : t.Safe { t with field := f, timer := x } :=
  rest rfl rfl rfl rfl rfl rfl rfl

theorem configureSite (i : Nat) (t : State) : t.Safe (Machine.configureSite i t).1 := by
  have skip : t.Safe t.countNotAttempted := field t _ _
  unfold Machine.configureSite
  split
  · split
    · exact skip
    · split
      · exact skip
      · split
        · exact field t _ _
        · split
          · exact skip
          · have hadmitted : t.Safe t.countAdmitted := field t _ _
            exact hadmitted.trans (admitMove _ i _ _ _ _ _)
  · exact skip

theorem configureSites (t : State) : t.Safe (Machine.configureSites t).1 := by
  have hfold : ∀ (l : List Nat) (a : State × Nat), a.1.Safe (l.foldl (fun a i =>
      let b := Machine.configureSite i a.1
      (b.1, a.2 + b.2)) a).1 := by
    intro l
    induction l with
    | nil => exact fun a => refl a.1
    | cons i l ih =>
      intro a
      exact (configureSite i a.1).trans (ih ((Machine.configureSite i a.1).1, a.2 + (Machine.configureSite i a.1).2))
  exact hfold _ (t, 0)

theorem endField (t : State) : t.Safe t.endField := by
  unfold State.endField
  split
  · exact rest rfl rfl rfl rfl rfl rfl rfl
  · exact refl t

theorem configureAnswer (number : Nat) (t : State) : t.Safe (Machine.configureAnswer number t).state := by
  unfold Machine.configureAnswer
  split
  · exact refl t
  · split
    · exact refl t
    · split
      · exact refl t
      · exact (((field t { FieldRecord.reset with number := number } t.timer).trans (configureSites _)).trans
          (field _ _ _)).trans (endField _)

theorem writeTarget (t : State) (e : TargetArg) : t.Safe (t.writeTarget e) := by
  unfold State.writeTarget
  split
  · exact (robotSame t e.site Robot.Sustains.resetIterations (fun _ => rfl) fun _ => rfl).trans
      (rest rfl rfl rfl rfl rfl rfl rfl)
  · exact refl t

/-! ### Metrology -/

theorem admitReport (t : State) (c : CorrectionReport) (x : Site) (p q : Pos) (limited : Bool) :
    t.Safe (Machine.admitReport t c x p q limited).1 := by
  have h := admitMove t c.site .correction x p q limited
  have hiterate : ∀ u : State, u.Safe (u.modRobot c.site Robot.iterate) := fun u =>
    robotSame u c.site (fun _ => ⟨id, fun ⟨he, hi, hf⟩ => ⟨he, Acts.satInc_le hi, hf⟩⟩) (fun _ => rfl) fun _ => rfl
  unfold Machine.admitReport
  simp only
  split
  · exact h
  · exact h.trans (hiterate _)
  · exact h

theorem stageReport (t : State) (c : CorrectionReport) (x : Site) (r : Robot) :
    t.Safe (Machine.stageReport t c x r).1 := by
  unfold Machine.stageReport
  split
  · exact robotSame t c.site (fun _ => ⟨id, id⟩) (fun _ => rfl) fun _ => rfl
  · split
    · exact robotSame t c.site (fun _ => ⟨id, id⟩) (fun _ => rfl) fun _ => rfl
    · split
      · exact robotSame t c.site (fun _ => ⟨id, fun ⟨he, hi, hf⟩ => ⟨he, Acts.satInc_le hi, hf⟩⟩) (fun _ => rfl)
          fun _ => rfl
      · exact admitReport t c x _ _ _

theorem takeReports (reports : List CorrectionReport) (t : State) : t.Safe (Machine.takeReports t reports).1 := by
  have htake : ∀ (c : CorrectionReport) (t : State), t.Safe (takeReport t c).1 := fun c t => by
    unfold takeReport
    split
    · exact refl t
    · split
      · exact stageReport t c _ _
      · exact refl t
  induction reports generalizing t with
  | nil => exact refl t
  | cons c rest ih => exact (htake c t).trans (ih _)

theorem reAnchorAnswer {site : Nat} (p : Pos) (x : Site) {rob : Robot} (t : State) (hr : t.robots[site]? = some rob) :
    t.Safe (Machine.reAnchorAnswer site p x rob t).state := by
  unfold Machine.reAnchorAnswer
  split
  · exact refl t
  · split
    · exact refl t
    · rename_i hst
      split
      · exact refl t
      · have hanchor : t.Safe (t.modRobot site fun r => { r with state := .anchoring, anchor := some p }) :=
          robot t fun r hr' => by
            rw [hr] at hr'
            cases hr'
            refine ⟨.stillResting ?_ rfl rfl id, fun _ => rfl⟩
            rw [not_not.mp hst]
            rfl
        exact hanchor.trans (bus _ _ fun _ h => h)

/-! ### Links and buses -/

theorem enableAnswer (n : Nat) (t : State) : t.Safe (Machine.enableAnswer n t).state := by
  unfold Machine.enableAnswer
  split
  · exact refl t
  · split
    · exact enterProbing t n
    · exact refl t

theorem disableAnswer (n : Nat) (t : State) : t.Safe (Machine.disableAnswer n t).state := by
  unfold Machine.disableAnswer
  split
  · exact refl t
  · split
    · exact refl t
    · exact closed ((Acts.departIfUp t n).trans (.enterDisabled _ n))
        ((Sustains.departIfUp t n).trans (.enterDisabled _ n))

theorem resetAnswer (n : Nat) (t : State) : t.Safe (Machine.resetAnswer n t).state := by
  unfold Machine.resetAnswer
  split
  · exact refl t
  · split
    · exact refl t
    · exact closed ((Acts.departIfUp t n).trans (.enterProbing _ n))
        ((Sustains.departIfUp t n).trans (.enterProbing _ n))

theorem readPeerAnswer (n : Nat) (t : State) : t.Safe (Machine.readPeerAnswer n t).state := by
  refine quiet (.readPeerAnswer n t) ?_ ?_ ?_
  all_goals unfold Machine.readPeerAnswer; split
  · exact .refl t
  · exact .link t fun u _ => ⟨id, fun _ => Nat.zero_le _, fun _ => Nat.zero_le _⟩
  all_goals rfl

theorem inquireAnswer (site item : Nat) (rob : Robot) (t : State) :
    t.Safe (Machine.inquireAnswer site item rob t).state := by
  unfold Machine.inquireAnswer
  split
  · exact refl t
  · split
    · exact refl t
    · split
      · exact refl t
      · have hslot : t.Safe { t with inquiry := .pending site item } := rest rfl rfl rfl rfl rfl rfl rfl
        exact hslot.trans (bus _ _ fun _ h => h)

theorem readInquiryAnswer (t : State) : t.Safe (Machine.readInquiryAnswer t).state := by
  unfold Machine.readInquiryAnswer
  split <;> exact rest rfl rfl rfl rfl rfl rfl rfl

theorem powerOnAnswer (n : Nat) (t : State) : t.Safe (Machine.powerOnAnswer n t).state := by
  unfold Machine.powerOnAnswer
  split
  · exact refl t
  · split
    · exact refl t
    · split
      · exact refl t
      · split
        · exact refl t
        · split
          · exact refl t
          · exact bus t n fun _ h => h

theorem powerOffAnswer (n : Nat) (t : State) : t.Safe (Machine.powerOffAnswer n t).state := by
  unfold Machine.powerOffAnswer
  split
  · exact refl t
  · split
    · exact refl t
    · split
      · exact refl t
      · exact bus t n fun _ h => h
      · split
        · exact refl t
        · exact (bus t n (f := Bus.requestOff) fun _ h => h).trans (powerLoss _ [n])

theorem readBusAnswer (n : Nat) (t : State) : t.Safe (Machine.readBusAnswer n t).state := by
  unfold Machine.readBusAnswer
  split
  · exact refl t
  · split
    · exact refl t
    · exact bus t n fun _ h => h

theorem busParam (n lo hi value : Nat) {set : Bus → Bus} (t : State) (h : ∀ b : Bus, b.Shaped → (set b).Shaped) :
    t.Safe (Machine.busParam n lo hi value set t).state := by
  unfold Machine.busParam
  split
  · exact refl t
  · split
    · exact refl t
    · exact bus t n h

theorem concurrencyAnswer (n value : Nat) (t : State) : t.Safe (Machine.concurrencyAnswer n value t).state := by
  unfold Machine.concurrencyAnswer
  split
  · exact refl t
  · split
    · exact refl t
    · split
      · exact refl t
      · exact bus t n fun _ h => h

theorem statisticsAnswer (n counter : Nat) (object : Option StatObject) (t : State) :
    t.Safe (Machine.statisticsAnswer n counter object t).state := by
  unfold Machine.statisticsAnswer
  split
  · exact refl t
  · split
    · exact refl t
    · exact bus t n fun _ h => ⟨h.1, by simpa using h.2⟩

/-! ### Parameters (R179) -/

theorem rangeParam {lo hi value : Nat} {set : Params → Params} (t : State)
    (h : t.params.inRange = true → lo ≤ value → value ≤ hi → (set t.params).inRange = true) :
    t.Safe (Machine.rangeParam lo hi value set t).state := by
  unfold Machine.rangeParam
  split
  · exact refl t
  · rename_i hout
    exact params t set fun hp => h hp (by omega) (by omega)

theorem stowAnswer (value : Nat) (t : State) : t.Safe (Machine.stowAnswer value t).state := by
  unfold Machine.stowAnswer
  split
  · exact refl t
  · rename_i hout
    split
    · exact refl t
    · split
      · exact refl t
      · refine params t (fun p => { p with stowAngle := value }) fun hp => ?_
        simp only [Params.inRange, Bool.and_eq_true, decide_eq_true_eq] at hp ⊢
        omega

theorem shareAnswer (value : ShareArg) (t : State) : t.Safe (Machine.shareAnswer value t).state := by
  unfold Machine.shareAnswer
  split
  · exact refl t
  · rename_i x _
    exact (params t (fun p => { p with share := x }) id).trans (busMap _ _ fun _ h => h)

theorem actionAnswer (value : Option DeadlineAction) (t : State) : t.Safe (Machine.actionAnswer value t).state := by
  unfold Machine.actionAnswer
  split
  · exact refl t
  · rename_i a
    exact params t (fun p => { p with deadlineAction := a }) id

/-! ### The map, the mode and RESTART -/

theorem beginLoad (sector count : Nat) (neighbours : List Nat) (t : State) :
    t.Safe (Machine.beginLoad sector count neighbours t).state := by
  unfold Machine.beginLoad
  split
  · exact refl t
  · split
    · exact rest rfl rfl rfl rfl rfl rfl rfl
    · exact refl t

theorem stageSites (entries : List SiteArg) (t : State) : t.Safe (Machine.stageSites entries t).state := by
  unfold Machine.stageSites
  split
  · exact refl t
  · split
    · exact refl t
    · split
      · exact refl t
      · exact rest rfl rfl rfl rfl rfl rfl rfl

/-- A robot record at map installation meets every bound (R17). -/
theorem install_bounds (x : Site) : (Robot.install x).moveMatchesState = true ∧ (Robot.install x).deniedAtRest = none ∧
    (Robot.install x).InCounts := ⟨rfl, rfl, Nat.zero_le _, Nat.zero_le _, Nat.zero_le _⟩

/-- The tables that take a map's values: the robots are new, and the links and buses keep their bounds. -/
theorem replaceMap {s v : State} (m : PlateMap) (ha : Acts s v) (hs : s.Sustains v) (ho : v.outcomes = s.outcomes) :
    s.Safe (v.replaceMap m) := by
  have hrobot : ∀ r ∈ (v.replaceMap m).robots, ∃ x, r = Robot.install x := fun r hr => by
    obtain ⟨x, -, rfl⟩ := List.mem_map.mp hr
    exact ⟨x, rfl⟩
  have hlink : ∀ l ∈ (v.replaceMap m).links, ∃ u ∈ s.links, u.Sustains l := fun l hl => by
    obtain ⟨y, hy, rfl⟩ := List.mem_map.mp hl
    obtain ⟨_, u, -, hu, huy⟩ := hs.links.mem hy
    exact ⟨u, hu, huy.transmit, huy.errors, huy.drops⟩
  refine ⟨fun _ r hr => ?_, fun _ r hr => ?_, fun ⟨hout, hseq, hmet, hlinks⟩ => ⟨?_, ?_, ?_, fun l hl => ?_⟩,
    fun ⟨hlinks, hbuses, hshaped⟩ => ⟨?_, ?_, fun b hb => ?_⟩,
    fun ⟨hseq, hmet, hlinks, _⟩ => ⟨?_, ?_, fun l hl => ?_, fun r hr => ?_⟩, fun h => ?_⟩
  · obtain ⟨x, rfl⟩ := hrobot r hr
    exact (install_bounds x).1
  · obtain ⟨x, rfl⟩ := hrobot r hr
    exact (install_bounds x).2.1
  · show v.outcomes.length ≤ _
    rwa [ho]
  · show v.sequencer.queue.length ≤ _
    rwa [ha.keeps.sequencer]
  · show v.metrology.queue.length ≤ _
    rwa [ha.keeps.metrology]
  · obtain ⟨u, hu, hul⟩ := hlink l hl
    exact hul.transmit (hlinks u hu)
  · simpa [State.replaceMap] using ha.keeps.links.trans hlinks
  · simpa [State.replaceMap] using ha.keeps.buses.trans hbuses
  · obtain ⟨y, hy, rfl⟩ := List.mem_map.mp hb
    exact ha.busesShaped hshaped y hy
  · show v.sequencer.errors ≤ _
    rwa [ha.keeps.sequencer]
  · show v.metrology.errors ≤ _
    rwa [ha.keeps.metrology]
  · obtain ⟨u, hu, hul⟩ := hlink l hl
    exact ⟨hul.errors (hlinks u hu).1, hul.drops (hlinks u hu).2⟩
  · obtain ⟨x, rfl⟩ := hrobot r hr
    exact (install_bounds x).2.2
  · show v.params.inRange = true
    rwa [ha.keeps.params]

theorem install (s : State) (m : PlateMap) : s.Safe (s.install m) := by
  have houtcomes : (s.upLinks.foldl State.depart s).outcomes = s.outcomes :=
    foldl_outcomes (fun t n => by rw [State.depart_eq]) _ s
  exact (replaceMap m (.foldl Acts.depart _ s) (.foldl Sustains.depart _ s) houtcomes).trans
    (foldl enterProbing _ _)

theorem endLoad (t : State) : t.Safe (Machine.endLoad t).state := by
  unfold Machine.endLoad
  split
  · exact refl t
  · split
    · exact refl t
    · split
      · exact refl t
      · split
        · exact refl t
        · exact install t _

theorem enterMode (s : State) (m : Mode) : s.Safe (s.enterMode m) := rest rfl rfl rfl rfl rfl rfl rfl

theorem openAnswer (t : State) : t.Safe (Machine.openAnswer t).state := by
  unfold Machine.openAnswer
  split
  · exact refl t
  · exact refl t
  · exact refl t
  · split
    · exact refl t
    · split
      · exact refl t
      · exact enterMode t _

theorem freezeAnswer (t : State) : t.Safe (Machine.freezeAnswer t).state := by
  unfold Machine.freezeAnswer
  split
  · split
    · exact refl t
    · exact enterMode t _
  all_goals exact refl t

theorem thawAnswer (t : State) : t.Safe (Machine.thawAnswer t).state := by
  unfold Machine.thawAnswer
  split
  · split
    · exact refl t
    · exact enterMode t _
  all_goals exact refl t

theorem resumeAnswer (t : State) : t.Safe (Machine.resumeAnswer t).state := by
  unfold Machine.resumeAnswer
  split
  · exact refl t
  · split
    · exact refl t
    · split
      · exact refl t
      · split
        · exact refl t
        · exact enterMode t _

/-- What RESTART clears (R105). -/
theorem clearForRestart (s : State) : s.Safe s.clearForRestart := by
  refine ⟨id, id, fun ⟨_, hseq, hmet, hlinks⟩ => ⟨Nat.zero_le _, hseq, hmet, hlinks⟩,
    fun ⟨hlinks, hbuses, hshaped⟩ => ⟨hlinks, ?_, fun b hb => ?_⟩, id, id⟩
  · simpa [State.clearForRestart] using hbuses
  · obtain ⟨x, hx, rfl⟩ := List.mem_map.mp hb
    exact hshaped x hx

theorem restarted (t : State) : t.Safe t.restarted :=
  (((field t .reset .reset).trans (SafeOut.haltMoves _ .restart none)).trans (clearForRestart _)).trans (enterMode _ _)

end State.Safe

/-! ### The requests -/

namespace SafeOut

/-- A request whose rule is safe. -/
theorem serve {s : State} {r : Req} {code : Byte} {rights : Rights} {act : State → Answer}
    (h : ∀ t : State, t.Safe (act t).state) : SafeOut s (.next (s.serve r code rights act)) := next (.serve s r code rights h)

theorem readMap (s : State) (r : Req) (first count : Nat) : SafeOut s (execReadMap r first count s) := serve fun t => by
  unfold Machine.readMap
  split
  · exact .refl t
  · split
    · exact .refl t
    · split <;> exact .refl t

theorem enableSet (s : State) (r : Req) (mask : List Bool) : SafeOut s (execEnableSet r mask s) := serve fun t => by
  split
  · exact .refl t
  · exact .setEnabled t mask true

theorem enableClear (s : State) (r : Req) (mask : List Bool) : SafeOut s (execEnableClear r mask s) := serve fun t => by
  split
  · exact .refl t
  · exact (State.Safe.setEnabled t mask false).trans (.sweep _ (Acts.disableSite t mask) (State.Safe.disableSite t mask))

theorem clearFault (s : State) (r : Req) (site : Nat) : SafeOut s (execClearFault r site s) := serve fun t => by
  split
  · exact .refl t
  · split
    · exact .clearFault t (by assumption)
    · exact .refl t

theorem readRobot (s : State) (r : Req) (first count : Nat) : SafeOut s (execReadRobot r first count s) :=
  serve fun t => by split <;> exact .refl t

theorem readLens (s : State) (r : Req) (first count : Nat) : SafeOut s (execReadLens r first count s) :=
  serve fun t => by split <;> exact .refl t

theorem moveTo (s : State) (r : Req) (site alpha beta : Nat) : SafeOut s (execMoveTo r site alpha beta s) :=
  serve fun t => .atSite t site fun x rob _ _ => .moveToAnswer site _ x rob t

theorem park (s : State) (r : Req) (site : Nat) : SafeOut s (execPark r site s) :=
  serve fun t => .atSite t site fun x rob _ _ => .parkAnswer site x rob t

theorem home (s : State) (r : Req) (site : Nat) : SafeOut s (execHome r site s) :=
  serve fun t => .atSite t site fun _ rob _ _ => .homeAnswer site rob t

theorem abort (s : State) (r : Req) (site : Nat) : SafeOut s (execAbort r site s) :=
  serve fun t => .atSite t site fun _ rob _ _ => by
    split
    · exact .refl t
    · exact .closed (.abortRobot t site) (.abortRobot t site)

theorem abortField (s : State) (r : Req) : SafeOut s (execAbortField r s) := serve fun t => by
  split
  · exact .abortField t
  · exact .refl t

theorem readOutcomes (s : State) (r : Req) (count : Nat) : SafeOut s (execReadOutcomes r count s) :=
  serve (.readOutcomes count)

theorem loadTargets (s : State) (r : Req) (entries : List TargetArg) : SafeOut s (execLoadTargets r entries s) :=
  serve fun t => by
    unfold loadTargetsAnswer
    split
    · exact .refl t
    · split
      · exact .refl t
      · exact .foldl State.Safe.writeTarget entries t

theorem clearTargets (s : State) (r : Req) : SafeOut s (execClearTargets r s) := serve fun t => by
  split
  · exact .refl t
  · exact .rest rfl rfl rfl rfl rfl rfl rfl

theorem readField (s : State) (r : Req) : SafeOut s (execReadField r s) :=
  serve fun _ => .rest rfl rfl rfl rfl rfl rfl rfl

theorem snapshot (s : State) (r : Req) (first count : Nat) : SafeOut s (execSnapshot r first count s) :=
  serve fun t => by
    split
    · exact .refl t
    · show t.Safe (t.clearPosChanged r.port)
      unfold State.clearPosChanged
      split <;> exact .rest rfl rfl rfl rfl rfl rfl rfl

theorem correct (s : State) (r : Req) (reports : List CorrectionReport) : SafeOut s (execCorrect r reports s) :=
  serve fun t => by
    unfold correctAnswer
    split
    · exact .refl t
    · split
      · exact .refl t
      · exact .takeReports reports t

theorem reAnchor (s : State) (r : Req) (site alpha beta : Nat) : SafeOut s (execReAnchor r site alpha beta s) :=
  serve fun t => .atSite t site fun x _ _ hr => .reAnchorAnswer _ x t hr

theorem readPeer (s : State) (r : Req) (n : Nat) : SafeOut s (execReadPeer r n s) := serve fun t => by
  split
  · exact .refl t
  · exact .readPeerAnswer n t

theorem inquire (s : State) (r : Req) (site item : Nat) : SafeOut s (execInquire r site item s) :=
  serve fun t => .atSite t site fun _ rob _ _ => .inquireAnswer site item rob t

theorem portStatus (s : State) (r : Req) : SafeOut s (execPortStatus r s) := serve fun t => by
  show t.Safe (t.clearPort r.port)
  unfold State.clearPort
  simp only
  refine .trans ?_ (.port _ _ (fun _ h => h) fun _ _ => Nat.zero_le _)
  split <;> exact .rest rfl rfl rfl rfl rfl rfl rfl

theorem setMask (s : State) (r : Req) (enables : List Bool) : SafeOut s (execSetMask r enables s) := serve fun t => by
  split
  · exact .refl t
  · exact .port t r.port (f := fun p => { p with mask := enables }) (fun _ h => h) fun _ h => h

theorem readCause (s : State) (r : Req) : SafeOut s (execReadCause r s) := serve fun t => by
  split
  · exact .rest rfl rfl rfl rfl rfl rfl rfl
  · exact .refl t

/-- A request that sets a parameter that keeps its range. -/
theorem partParam {s : State} {r : Req} {lo hi value : Nat} {set : Params → Params}
    (h : ∀ p : Params, p.inRange = true → lo ≤ value → value ≤ hi → (set p).inRange = true) :
    SafeOut s (.next (s.serve r 36 .sequencerOnly (rangeParam lo hi value set))) :=
  serve fun t => .rangeParam t (h t.params)

theorem threshold (s : State) (r : Req) (n value : Nat) : SafeOut s (execSetParamThreshold r n value s) :=
  serve fun t => .busParam n _ _ value t fun _ h => h

theorem tripCount (s : State) (r : Req) (n value : Nat) : SafeOut s (execSetParamTripCount r n value s) :=
  serve fun t => .busParam n _ _ value t fun _ h => h

theorem parkBeta (s : State) (r : Req) (value : Nat) : SafeOut s (execSetParamParkBeta r value s) :=
  serve fun t => .rangeParam t fun h _ _ => h

end SafeOut

/-! ### Every command and every step -/

/-- The ranges of R179, as inequalities. -/
theorem Params.inRange_iff (p : Params) : p.inRange = true ↔
    (1920 ≤ p.stowAngle ∧ p.stowAngle ≤ 7680) ∧ p.gain ≤ 256 ∧ (1 ≤ p.maxCorrection ∧ p.maxCorrection ≤ 2047) ∧
      (1 ≤ p.tolerance ∧ p.tolerance ≤ 1000) ∧ (1 ≤ p.iterationLimit ∧ p.iterationLimit ≤ 15) ∧
      (1 ≤ p.deadlinePreset ∧ p.deadlinePreset ≤ 65535) ∧ (1 ≤ p.lensWaitLimit ∧ p.lensWaitLimit ≤ 600) ∧
      (1 ≤ p.legTimeLimit ∧ p.legTimeLimit ≤ 120) ∧ (1 ≤ p.attemptLimit ∧ p.attemptLimit ≤ 4) ∧
      (1 ≤ p.failureLimit ∧ p.failureLimit ≤ 8) ∧ (10 ≤ p.pollInterval ∧ p.pollInterval ≤ 1000) ∧
      50 ≤ p.keepaliveInterval ∧ p.keepaliveInterval ≤ 5000 := by
  simp only [Params.inRange, Bool.and_eq_true, decide_eq_true_eq, and_assoc]

/-- Every command keeps every bound. -/
theorem exec_safe {c : Instr} {s t : State} (h : exec c s = .next t) : s.Safe t := by
  cases c
  case powerOn a b => cases h; exact SafeOut.fullReset s _ a b
  case resetLine a b => cases h; exact SafeOut.fullReset s _ a b
  case shutterOpened => exact SafeOut.shutterOpened s t h
  case shutterClosed => exact SafeOut.shutterClosed s t h
  case stopAsserted => exact SafeOut.stopAsserted s t h
  case stopReleased => exact SafeOut.stopReleased s t h
  case stationFrameReceived p bytes => exact SafeOut.stationFrameReceived s p bytes t h
  case badFrame p tag code => exact SafeOut.badFrame s p tag code t h
  case unknown p tag code => exact SafeOut.unknown s p tag code t h
  case mapBegin r sector count neighbours => exact SafeOut.serve (.beginLoad sector count neighbours) t h
  case mapSites r entries => exact SafeOut.serve (.stageSites entries) t h
  case mapEnd r => exact SafeOut.serve .endLoad t h
  case readMap r first count => exact SafeOut.readMap s r first count t h
  case enableSet r mask => exact SafeOut.enableSet s r mask t h
  case enableClear r mask => exact SafeOut.enableClear s r mask t h
  case clearFault r site => exact SafeOut.clearFault s r site t h
  case readRobot r first count => exact SafeOut.readRobot s r first count t h
  case readLens r first count => exact SafeOut.readLens s r first count t h
  case moveTo r site a b => exact SafeOut.moveTo s r site a b t h
  case park r site => exact SafeOut.park s r site t h
  case home r site => exact SafeOut.home s r site t h
  case abort r site => exact SafeOut.abort s r site t h
  case abortField r => exact SafeOut.abortField s r t h
  case readOutcomes r count => exact SafeOut.readOutcomes s r count t h
  case openSector r => exact SafeOut.serve .openAnswer t h
  case freeze r => exact SafeOut.serve .freezeAnswer t h
  case thaw r => exact SafeOut.serve .thawAnswer t h
  case resume r => exact SafeOut.serve .resumeAnswer t h
  case restart r => exact SafeOut.serve .restarted t h
  case loadTargets r entries => exact SafeOut.loadTargets s r entries t h
  case clearTargets r => exact SafeOut.clearTargets s r t h
  case configure r number => exact SafeOut.serve (.configureAnswer number) t h
  case readField r => exact SafeOut.readField s r t h
  case snapshot r first count => exact SafeOut.snapshot s r first count t h
  case correct r reports => exact SafeOut.correct s r reports t h
  case reAnchor r site a b => exact SafeOut.reAnchor s r site a b t h
  case peerControlEnable r n => exact SafeOut.serve (.enableAnswer n) t h
  case peerControlDisable r n => exact SafeOut.serve (.disableAnswer n) t h
  case peerControlReset r n => exact SafeOut.serve (.resetAnswer n) t h
  case readPeer r n => exact SafeOut.readPeer s r n t h
  case inquire r site item => exact SafeOut.inquire s r site item t h
  case readInquiry r => exact SafeOut.serve .readInquiryAnswer t h
  case busPowerOn r n => exact SafeOut.serve (.powerOnAnswer n) t h
  case busPowerOff r n => exact SafeOut.serve (.powerOffAnswer n) t h
  case readBus r n => exact SafeOut.serve (.readBusAnswer n) t h
  case portStatus r => exact SafeOut.portStatus s r t h
  case setMask r enables => exact SafeOut.setMask s r enables t h
  case readCause r => exact SafeOut.readCause s r t h
  case setParamStowAngle r v => exact SafeOut.serve (.stowAnswer v) t h
  case setParamParkBeta r v => exact SafeOut.parkBeta s r v t h
  case setParamShareRatio r v => exact SafeOut.serve (.shareAnswer v) t h
  case setParamDeadlineAction r v => exact SafeOut.serve (.actionAnswer v) t h
  case setParamConcurrencyLimit r n v => exact SafeOut.serve (.concurrencyAnswer n v) t h
  case setParamThreshold r n v => exact SafeOut.threshold s r n v t h
  case setParamTripCount r n v => exact SafeOut.tripCount s r n v t h
  case setParamStatisticsSelection r n k o => exact SafeOut.serve (.statisticsAnswer n k o) t h
  case deadlineExpiry => exact SafeOut.deadlineExpiry s t h
  case waitDeadlinePasses site => exact SafeOut.waitDeadlinePasses s site t h
  case legTimeout site => exact SafeOut.legTimeout s site t h
  case haltTimeLimit site => exact SafeOut.haltTimeLimit s site t h
  case legDispatch n => exact SafeOut.legDispatch s n t h
  case haltBroadcast n => exact SafeOut.haltBroadcast s n t h
  case haltAddressed n => exact SafeOut.haltAddressed s n t h
  case poll n => exact SafeOut.poll s n t h
  case setCounts n => exact SafeOut.setCounts s n t h
  case inquireTransaction n => exact SafeOut.inquireTransaction s n t h
  case keepalivePoll n => exact SafeOut.keepalivePoll s n t h
  case robotReplyGood n reply => exact SafeOut.robotReplyGood s n reply t h
  case robotReplyMissing n => exact SafeOut.robotReplyMissing s n t h
  case robotReplyCheckError n => exact SafeOut.robotReplyCheckError s n t h
  case currentSample n v => exact SafeOut.currentSample s n v t h
  case jabber n => exact SafeOut.jabber s n t h
  case blankingEnd n => exact SafeOut.blankingEnd s n t h
  case rollcall n => exact SafeOut.rollcall s n t h
  case rollcallSlotEnd n slot => exact SafeOut.rollcallSlotEnd s n slot t h
  case ident n f => exact SafeOut.next (.takeIdent s n f) t h
  case summary p count entries => exact SafeOut.next (.takeSummary s p count entries) t h
  case summaryClient p count entries => exact SafeOut.next (.takeSummary s p count entries) t h
  case keepalive p => exact SafeOut.next (.takeNumbered s p true fun u => ⟨.refl u, .refl u⟩) t h
  case claim p n =>
    exact SafeOut.arbiterMessage s p n (fun u i l d q hl hb => ⟨.claimMessage q hl hb, .claimMessage u i l d q⟩) t h
  case withdraw p n =>
    exact SafeOut.arbiterMessage s p n (fun _ _ _ _ q hl hb => ⟨.withdrawMessage q hl hb, .withdrawMessage q hl hb⟩) t h
  case release p n =>
    exact SafeOut.arbiterMessage s p n (fun _ _ _ _ q hl hb => ⟨.releaseMessage q hl hb, .releaseMessage q hl hb⟩) t h
  case pin p n =>
    exact SafeOut.arbiterMessage s p n (fun _ _ _ _ q hl hb => ⟨.pinMessage q hl hb, .pinMessage q hl hb⟩) t h
  case hold p n =>
    exact SafeOut.arbiterMessage s p n (fun u i l d q hl hb => ⟨.holdMessage q hl hb, .holdMessage u i l d q⟩) t h
  case grant p n =>
    exact SafeOut.next (.clientMessage s p n fun u i l c => ⟨.grantMessage u i l c, .grantMessage u i l c⟩) t h
  case refuse p n reason =>
    exact SafeOut.next
      (.clientMessage s p n fun u i l c => ⟨.refuseMessage reason u i l c, .refuseMessage reason u i l c⟩) t h
  case peerFrameError n => exact SafeOut.next (.frameError s n) t h
  case identSend n => exact SafeOut.identSend s n t h
  case keepaliveSend n => exact SafeOut.keepaliveSend s n t h
  case silenceLimit n => exact SafeOut.silenceLimit s n t h
  case matchedTimeout n => exact SafeOut.matchedTimeout s n t h
  case syncingTimeout n => exact SafeOut.syncingTimeout s n t h
  case peerFrameSent n => exact SafeOut.peerFrameSent s n t h
  -- What is left sets one of the parameters with a range.
  all_goals
    refine SafeOut.partParam (fun p hp hlo hhi => ?_) t h
    rw [Params.inRange_iff] at hp ⊢
    dsimp only
    omega

/-- Every step keeps every bound: a command by `exec_safe`, and a millisecond changes none of the parts that have
one (R46). -/
theorem step_safe {s t : State} (h : step s = .next t) : s.Safe t := by
  unfold step at h
  split at h
  · cases h
    exact .rest rfl rfl rfl rfl rfl rfl rfl
  · rename_i c rest _
    have htaken : s.Safe { s with pending := rest } := .rest rfl rfl rfl rfl rfl rfl rfl
    exact htaken.trans (exec_safe h)

end Sys2Proof.Machine

open Sys2Proof.Machine

/-- Settles O59: every step is safe, and `State.Safe` has the two bounds among its parts. -/
theorem everyStepKeepsMovesInTheirStates : Obligations.EveryStepKeepsMovesInTheirStates :=
  fun _ _ h => ⟨(step_safe h).moves, (step_safe h).denials⟩

/-- Settles O58: every step is safe, and `State.Safe` has the four bounds among its parts. -/
theorem everyStepKeepsCapacitiesAndRanges : Obligations.EveryStepKeepsCapacitiesAndRanges :=
  fun _ _ h => ⟨(step_safe h).queues, (step_safe h).shape, (step_safe h).counts, (step_safe h).inRange⟩
end

section
/-! The requests that read records (R32, R71, R118): what they show field by field, and how a run is answered. -/

namespace Sys2Proof.Machine

/-! ### The lowest place that satisfies a condition -/

/-- A search over places answers the lowest that satisfies its condition. -/
theorem find?_range_lowest {n : Nat} {p : Nat → Bool} {own : Nat → Prop}
    (h : ∀ k, own k ↔ k < n ∧ p k = true) (k : Nat) :
    (List.range n).find? p = some k ↔ own k ∧ ∀ j, own j → k ≤ j := by
  rw [List.find?_range_eq_some, h k]
  constructor
  · rintro ⟨hp, hk, hlow⟩
    refine ⟨⟨List.mem_range.mp hk, hp⟩, fun j hj => ?_⟩
    by_contra hlt
    have := hlow j (by omega)
    simp [((h j).mp hj).2] at this
  · rintro ⟨⟨hk, hp⟩, hlow⟩
    refine ⟨hp, List.mem_range.mpr hk, fun j hj => ?_⟩
    by_contra hpj
    have := hlow j ((h j).mpr ⟨by omega, by simpa using hpj⟩)
    omega

/-- A search in a list answers the lowest place of a member that satisfies its condition. -/
theorem findIdx?_lowest {α : Type} {l : List α} {p : α → Bool} {own : Nat → Prop}
    (h : ∀ k, own k ↔ ∃ x, l[k]? = some x ∧ p x = true) (k : Nat) :
    l.findIdx? p = some k ↔ own k ∧ ∀ j, own j → k ≤ j := by
  rw [List.findIdx?_eq_some_iff_getElem, h k]
  constructor
  · rintro ⟨hk, hp, hlow⟩
    refine ⟨⟨l[k], List.getElem?_eq_getElem hk, hp⟩, fun j hj => ?_⟩
    by_contra hlt
    obtain ⟨x, hx, hpx⟩ := (h j).mp hj
    obtain ⟨hjl, rfl⟩ := List.getElem?_eq_some_iff.mp hx
    exact hlow j (by omega) hpx
  · rintro ⟨⟨x, hx, hp⟩, hlow⟩
    obtain ⟨hk, rfl⟩ := List.getElem?_eq_some_iff.mp hx
    refine ⟨hk, hp, fun j hj hpj => ?_⟩
    have := hlow j ((h j).mpr ⟨l[j], List.getElem?_eq_getElem (by omega), hpj⟩)
    omega

/-! ### What a robot holds, read from the lens table (R51) -/

/-- A site's part in a lens: a condition on its side of a decided record, or the state of a client's claim. -/
def Lens.HasPart (l : Lens) (site : Nat) (claim : ClaimState) (own : Decided → Party → Prop) : Prop :=
  ∃ p, l.partyOf site = some p ∧
    ((∃ d, l.body = .decided d ∧ own d p) ∨ ∃ c, l.body = .client c ∧ c.claim = claim)

theorem Lens.occupiedBy_iff (l : Lens) (site : Nat) : l.occupiedBy site = true ↔
    l.HasPart site .heldOccupied fun d p => d.holder = some (p, .occupied) := by
  unfold Lens.occupiedBy Lens.HasPart
  cases hp : l.partyOf site with
  | none => simp
  | some p => cases hb : l.body <;> simp

theorem Lens.reservedBy_iff (l : Lens) (site : Nat) : l.reservedBy site = true ↔
    l.HasPart site .heldReserved fun d p => d.holder = some (p, .reserved) := by
  unfold Lens.reservedBy Lens.HasPart
  cases hp : l.partyOf site with
  | none => simp
  | some p => cases hb : l.body <;> simp

theorem Lens.pinnedBy_iff (l : Lens) (site : Nat) : l.pinnedBy site = true ↔
    l.HasPart site .pinned fun d p => d.pinned p = true := by
  unfold Lens.pinnedBy Lens.HasPart
  cases hp : l.partyOf site with
  | none => simp
  | some p => cases hb : l.body <;> simp

/-- A site's part in the lens at a place of the table. -/
def State.PartAt (s : State) (site : Nat) (claim : ClaimState) (own : Decided → Party → Prop) (k : Nat) : Prop :=
  ∃ l p, s.lenses[k]? = some l ∧ l.partyOf site = some p ∧
    ((∃ d, l.body = .decided d ∧ own d p) ∨ ∃ c, l.body = .client c ∧ c.claim = claim)

/-- A test that finds a site's part in a lens finds its places in the table. -/
theorem State.partAt_iff {s : State} {site : Nat} {claim : ClaimState} {own : Decided → Party → Prop}
    {f : Lens → Bool} (h : ∀ l, f l = true ↔ l.HasPart site claim own) (k : Nat) :
    s.PartAt site claim own k ↔ k < s.lenses.length ∧ s.lensHas f k = true := by
  unfold State.PartAt State.lensHas
  constructor
  · rintro ⟨l, p, hl, hp⟩
    refine ⟨(List.getElem?_eq_some_iff.mp hl).1, ?_⟩
    rw [hl]
    exact (h l).mpr ⟨p, hp⟩
  · rintro ⟨hk, hf⟩
    rw [List.getElem?_eq_getElem hk] at hf ⊢
    obtain ⟨p, hp⟩ := (h _).mp hf
    exact ⟨_, p, rfl, hp⟩

theorem State.pinsOf_ascending (s : State) (site : Nat) : (s.pinsOf site).Pairwise (· < ·) :=
  List.pairwise_lt_range.sublist List.filter_sublist

theorem State.mem_pinsOf (s : State) (site k : Nat) :
    k ∈ s.pinsOf site ↔ s.PartAt site .pinned (fun d p => d.pinned p = true) k := by
  rw [partAt_iff (fun l => l.pinnedBy_iff site), State.pinsOf, List.mem_filter, List.mem_range]

/-! ### Address and facing sector (R162, R34) -/

theorem State.addressOf_lowest {s : State} {site : Nat} {r : Robot} (hr : s.robots[site]? = some r) (k : Nat) :
    let own (a : Nat) := ∃ b e, s.buses[r.bus]? = some b ∧ b.addresses[a]? = some (some e) ∧ e.site = some site
    s.addressOf site = some k ↔ own k ∧ ∀ j, own j → k ≤ j := by
  intro own
  have hbus : s.busOf site = r.bus := by simp [State.busOf, hr]
  unfold State.addressOf
  rw [hbus]
  cases hb : s.buses[r.bus]? with
  | none => simp [own, hb]
  | some b =>
    rw [Option.bind_some]
    refine findIdx?_lowest (fun a => ⟨?_, ?_⟩) k
    · rintro ⟨b', e, hb', ha, he⟩
      cases hb.symm.trans hb'
      exact ⟨some e, ha, by simp [he]⟩
    · rintro ⟨x, ha, hx⟩
      obtain ⟨e, rfl, he⟩ := Option.any_eq_true _ _ |>.mp hx
      exact ⟨b, e, hb, ha, by simpa using he⟩

theorem State.facingOf_none {s : State} {site : Nat} {r : Robot} (h : r.believed = none) : s.facingOf site r = none := by
  unfold State.facingOf
  rw [h]
  cases s.site? site <;> rfl

theorem State.facingOf_some {s : State} {site : Nat} {r : Robot} {x : Site} {p : Pos} (hx : s.site? site = some x)
    (hp : r.believed = some p) : s.facingOf site r = some (x.sector p.alpha) := by
  simp [State.facingOf, hx, hp]

/-! ### A lens shown (R71) -/

theorem Lens.recordView_decided {l : Lens} {d : Decided} (now : Nat) (h : l.body = .decided d) :
    l.recordView now = .decided d.state (d.holder.map fun x => (l.side x.1, x.2))
      ((if d.pinned .a then [l.side .a] else []) ++ (if d.pinned .b then [l.side .b] else []))
      (d.waiter.map l.side) (d.deadline.map fun t => t - now) := by
  simp only [Lens.recordView, h, Lens.pins, Decided.pinned, Lens.side]
  rfl

theorem Lens.recordView_client {l : Lens} {c : Client} (now : Nat) (h : l.body = .client c) :
    l.recordView now = .client c.claim (c.deadline.map fun t => t - now) c.lastRefusal := by
  simp [Lens.recordView, h]

/-! ### A run answered -/

/-- A run within the limits passes its checks (R32, R71, R118). -/
theorem rangeCheck_good {s : State} {first count most size : Nat} (hmap : s.map ≠ none) (hlow : 1 ≤ count)
    (hmost : count ≤ most) (hsize : first + count ≤ size) : rangeCheck s first count most size = none := by
  have hm : s.map.isNone = false := Option.isNone_eq_false_iff.mpr (Option.isSome_iff_ne_none.mpr hmap)
  have h1 : ¬ (count = 0 ∨ most < count) := by omega
  have h2 : ¬ size < first + count := by omega
  simp only [rangeCheck, hm, h1, h2, if_false, Bool.false_eq_true]

/-- A run outside them is refused. -/
theorem rangeCheck_bad {s : State} {first count most size : Nat} (hmap : s.map ≠ none)
    (h : count = 0 ∨ most < count ∨ size < first + count) : rangeCheck s first count most size = some .badArg := by
  have hm : s.map.isNone = false := Option.isNone_eq_false_iff.mpr (Option.isSome_iff_ne_none.mpr hmap)
  simp only [rangeCheck, hm, Bool.false_eq_true, if_false]
  by_cases h1 : count = 0 ∨ most < count
  · rw [if_pos h1]
  · rw [if_neg h1, if_pos (by omega)]

/-- What is shown of a robot or a lens does not depend on the ports. -/
theorem takeRequest_views (s : State) (p : PortId) (tag code : Byte) :
    (s.takeRequest p tag code).robotView = s.robotView ∧ (s.takeRequest p tag code).snapshotOf = s.snapshotOf ∧
      (s.takeRequest p tag code).lensView = s.lensView := by
  cases p <;> exact ⟨rfl, rfl, rfl⟩

/-- The positions-changed flag is cleared on the metrology port alone (R27, R118). -/
theorem State.clearPosChanged_eq (s : State) (p : PortId) :
    s.clearPosChanged p = { s with posChanged := if p = .metrology then false else s.posChanged } := by
  cases p <;> rfl

variable {s : State} {r : Req} {first count : Nat}

/-- A reading request that passes its checks. -/
theorem serve_both {code : Byte} {act : State → Answer} {st : Status} {b : Body} {f : State → State}
    (hf : r.fits = true)
    (ha : act (s.takeRequest r.port r.tag code) = ⟨f (s.takeRequest r.port r.tag code), st, b⟩) :
    s.serve r code .both act = s.answered r code st b f := serve_answered s r code _ act st b f rfl hf ha

theorem execReadRobot_good (hf : r.fits = true)
    (h : rangeCheck (s.takeRequest r.port r.tag 8) first count 8 s.siteCount = none) :
    execReadRobot r first count s = .next (s.answered r 8 .ok
      (.robots ((List.range' first count).filterMap fun i => (s.robots[i]?).map fun x => s.robotView i x)) id) := by
  refine congrArg _ (serve_both hf ?_)
  simp only [takeRequest_siteCount, h, takeRequest_robots, (takeRequest_views s _ _ _).1]
  rfl

theorem execReadLens_good (hf : r.fits = true)
    (h : rangeCheck (s.takeRequest r.port r.tag 9) first count 16 s.lenses.length = none) :
    execReadLens r first count s = .next (s.answered r 9 .ok
      (.lenses ((List.range' first count).filterMap s.lensView)) id) := by
  refine congrArg _ (serve_both hf ?_)
  simp only [takeRequest_lenses, h, (takeRequest_views s _ _ _).2.2]
  rfl

theorem execSnapshot_good (hf : r.fits = true)
    (h : rangeCheck (s.takeRequest r.port r.tag 25) first count 96 s.siteCount = none) :
    execSnapshot r first count s = .next (s.answered r 25 .ok
      (.snapshot ((List.range' first count).filterMap fun i => (s.robots[i]?).map fun x => s.snapshotOf i x)
        s.posChanged s.mode)
      fun t => { t with posChanged := if r.port = PortId.metrology then false else t.posChanged }) := by
  refine congrArg _ (serve_both hf ?_)
  simp only [takeRequest_siteCount, h, takeRequest_robots, (takeRequest_views s _ _ _).2.1, State.clearPosChanged_eq,
    takeRequest_posChanged, takeRequest_mode]
  rfl

/-- A reading request that fails its checks is refused. -/
theorem execRead_bad (hf : r.fits = true) {st : Status} :
    (rangeCheck (s.takeRequest r.port r.tag 8) first count 8 s.siteCount = some st →
      execReadRobot r first count s = .next (s.answered r 8 st .none id)) ∧
    (rangeCheck (s.takeRequest r.port r.tag 9) first count 16 s.lenses.length = some st →
      execReadLens r first count s = .next (s.answered r 9 st .none id)) ∧
    (rangeCheck (s.takeRequest r.port r.tag 25) first count 96 s.siteCount = some st →
      execSnapshot r first count s = .next (s.answered r 25 st .none id)) := by
  refine ⟨fun h => ?_, fun h => ?_, fun h => ?_⟩
  all_goals
    refine congrArg _ (serve_both hf ?_)
    simp only [takeRequest_siteCount, takeRequest_lenses, h]
    rfl

end Sys2Proof.Machine

open Sys2Proof Sys2Proof.Machine

/-- Settles O16: a view's fields are the record's, its searches answer the lowest place of a part, and a request
is its range check and then the views of its run. -/
theorem readingRequestsOnlyReport : Obligations.ReadingRequestsOnlyReport := by
  refine ⟨fun s i x => ?_, fun s i l hl => ?_, fun s r first count hf hmap => ?_⟩
  · refine ⟨rfl, rfl, rfl, rfl, rfl, rfl, rfl, rfl, rfl, ⟨State.facingOf_none, fun y p hy hp => State.facingOf_some hy hp⟩,
      rfl, rfl, rfl, rfl, rfl, rfl, rfl, rfl, rfl, rfl, State.addressOf_lowest, ?_, ?_, s.pinsOf_ascending i,
      s.mem_pinsOf i, rfl, rfl, rfl, ⟨State.facingOf_none, fun y p hy hp => State.facingOf_some hy hp⟩, rfl, rfl, rfl⟩
    · exact find?_range_lowest (State.partAt_iff fun l => l.occupiedBy_iff i)
    · exact find?_range_lowest (State.partAt_iff fun l => l.reservedBy_iff i)
  · refine ⟨⟨i, l.role, l.a, l.b, l.recordView s.now⟩, by simp [State.lensView, hl], rfl, rfl, rfl, fun d hd => ?_,
      fun c hc => ?_⟩
    · exact ⟨by simp [Lens.role, hd], _, _, Lens.recordView_decided s.now hd, rfl, rfl⟩
    · exact ⟨by simp [Lens.role, hc], Lens.recordView_client s.now hc⟩
  · have hgood : ∀ (code : Byte) (most size : Nat), 1 ≤ count → count ≤ most → first + count ≤ size →
        rangeCheck (s.takeRequest r.port r.tag code) first count most size = none := fun code most size =>
      rangeCheck_good (by simpa using hmap)
    have hbad : ∀ (code : Byte) (most size : Nat), count = 0 ∨ most < count ∨ size < first + count →
        rangeCheck (s.takeRequest r.port r.tag code) first count most size = some .badArg := fun code most size =>
      rangeCheck_bad (by simpa using hmap)
    obtain ⟨hrobot, hlens, hsnapshot⟩ := execRead_bad (s := s) (first := first) (count := count) hf (st := .badArg)
    exact ⟨fun h1 h2 h3 => execReadRobot_good hf (hgood _ _ _ h1 h2 h3),
      fun h1 h2 h3 => execReadLens_good hf (hgood _ _ _ h1 h2 h3),
      fun h1 h2 h3 => execSnapshot_good hf (hgood _ _ _ h1 h2 h3),
      fun h => hrobot (hbad _ _ _ h), fun h => hlens (hbad _ _ _ h), fun h => hsnapshot (hbad _ _ _ h)⟩
end

section
/-! Walks over sites and lenses, taken apart at one place, and what the close of an event leaves of a robot. -/

namespace Sys2Proof.Machine

theorem range_split {i n : Nat} (h : i < n) :
    List.range n = List.range i ++ i :: List.range' (i + 1) (n - (i + 1)) := by
  have hn : n = i + (1 + (n - (i + 1))) := by omega
  conv => lhs; rw [hn]
  rw [List.range_eq_range', List.range_eq_range', ← List.range'_append_1, ← List.range'_append_1]
  simp

namespace State.Ebbs

variable {E X : Nat → Prop} {s t : State}

theorem foldl_mem {α : Type} {f : State → α → State} {l : List α} (h : ∀ x ∈ l, ∀ s : State, s.Ebbs E X (f s x))
    (s : State) : s.Ebbs E X (l.foldl f s) := by
  induction l generalizing s with
  | nil => exact refl s
  | cons x l ih =>
    exact (h x List.mem_cons_self s).trans (ih (fun y hy => h y (List.mem_cons_of_mem _ hy)) (f s x))

/-- A walk over the first `n` places, taken apart at one of them. -/
theorem foldRange_at {E' X' : Nat → Prop} {act : Nat → State → State} {i n : Nat}
    (h1 : ∀ j, j < i → ∀ u : State, u.Ebbs E X (act j u)) (h2 : ∀ j, i < j → ∀ u : State, u.Ebbs E' X' (act j u))
    (hi : i < n) (s : State) : ∃ u, s.Ebbs E X u ∧
      (act i u).Ebbs E' X' ((List.range n).foldl (fun t j => act j t) s) := by
  refine ⟨(List.range i).foldl (fun t j => act j t) s, foldl_mem (fun j hj => h1 j (List.mem_range.mp hj)) s, ?_⟩
  rw [range_split hi, List.foldl_append, List.foldl_cons]
  exact foldl_mem (fun j hj => h2 j (by have := List.mem_range'_1.mp hj; omega)) _

/-- A walk over the sites in which each gives up at most what is its own, taken apart at one of them. -/
theorem forSites_at {act : Nat → State → State} (h : ∀ (u : State) j, u.Ebbs (fun k => k = j) X (act j u)) {i : Nat}
    (hi : i < s.robots.length) :
    ∃ u, s.Ebbs (fun j => j < i) X u ∧ (act i u).Ebbs (fun j => i < j) X (s.forSites act) :=
  foldRange_at (fun j hj u => (h u j).mono (fun _ (hk : _ = j) => hk ▸ hj) fun _ => id)
    (fun j hj u => (h u j).mono (fun _ (hk : _ = j) => hk ▸ hj) fun _ => id) hi s

/-- What a robot that does not give up has become. -/
theorem told (h : s.Ebbs E X t) {i : Nat} {r : Robot} (hr : s.robots[i]? = some r) (hi : ¬ E i) :
    ∃ r', t.robots[i]? = some r' ∧ r.Told r' := by
  obtain ⟨r', hr', he⟩ := h.robots.get hr
  exact ⟨r', hr', he.told hi⟩

end State.Ebbs

/-- The close of an event leaves a robot that is not at rest with its move as it was, but for a denial that its
robot is told of (R93). -/
theorem State.close_told {s t : State} {i : Nat} {r : Robot} (hr : t.robots[i]? = some r) (hrest : r.atRest = false) :
    ∃ r', (s.close t).robots[i]? = some r' ∧ r.Told r' := by
  obtain ⟨E, he, hE⟩ := s.close_ebbs t
  refine he.told hr fun hi => ?_
  obtain ⟨⟨y, hy, hyr⟩, -⟩ := hE i hi
  cases hr.symm.trans hy
  simp [hrest] at hyr

/-- A robot with a move in none of the states of a move stays as it is as an event closes. -/
theorem State.close_same {s t : State} {i : Nat} {r : Robot} (hr : t.robots[i]? = some r)
    (hst : r.state.moves = false) : (s.close t).robots[i]? = some r := by
  have hst : r.state ≠ .queued ∧ r.state ≠ .waitLens ∧ r.state ≠ .inLeg := by
    refine ⟨?_, ?_, ?_⟩ <;> intro h <;> simp [h, RobotState.moves] at hst
  obtain ⟨hq, hw, hl⟩ := hst
  obtain ⟨r', hr', ht⟩ := State.close_told (s := s) hr (by simp [Robot.atRest, hq, hw])
  rw [hr', ht.same hq hw hl]

end Sys2Proof.Machine
end

section
/-! The requests about a robot's flags (R29, R31) and the checks of a request that names a robot (R16). -/

namespace Sys2Proof.Machine

/-! ### The checks of R16 -/

theorem siteCheck_noMap {s : State} (site : Nat) (h : s.map = none) : siteCheck s site = some .noMap := by
  simp [siteCheck, h]

theorem siteCheck_badArg {s : State} {site : Nat} (hmap : s.map ≠ none) (h : s.siteCount ≤ site) :
    siteCheck s site = some .badArg := by
  have hm : s.map.isNone = false := Option.isNone_eq_false_iff.mpr (Option.isSome_iff_ne_none.mpr hmap)
  simp [siteCheck, hm, h]

/-- A request about a site that fails the checks is refused with their status. -/
theorem atSite_refused {t : State} {site : Nat} {st : Status} (h : siteCheck t site = some st)
    (f : Site → Robot → State → Answer) : atSite t site f = refuseWith t st := by
  simp [atSite, h]

@[simp] theorem takeRequest_siteCheck (s : State) (p : PortId) (tag code : Byte) (site : Nat) :
    siteCheck (s.takeRequest p tag code) site = siteCheck s site := by
  simp [siteCheck]

/-- The requests that name a robot are refused as the checks of R16 say (R16). -/
theorem namedRobot_refused {s : State} {r : Req} {site a b item : Nat} {c : Instr} {code : Byte} {st : Status}
    (hf : r.fits = true)
    (hc : (c, code) ∈ [(.clearFault r site, 7), (.moveTo r site a b, 10), (.park r site, 11),
       (.home r site, 12), (.abort r site, 13), (.reAnchor r site a b, 27), (.inquire r site item, (30 : Byte))])
    (hp : r.port = if code = 27 then .metrology else .sequencer) (h : siteCheck s site = some st) :
    exec c s = .next (s.answered r code st .none id) := by
  have hsite : ∀ (code : Byte) (f : Site → Robot → State → Answer),
      atSite (s.takeRequest r.port r.tag code) site f = ⟨id (s.takeRequest r.port r.tag code), st, .none⟩ :=
    fun code f => atSite_refused ((takeRequest_siteCheck ..).trans h) f
  have hseq : ∀ (code : Byte) (f : Site → Robot → State → Answer), r.port = .sequencer →
      s.serve r code .sequencerOnly (fun t => atSite t site f) = s.answered r code st .none id :=
    fun code f hr => serve_sequencer s r code _ _ _ _ ⟨hr, hf⟩ (hsite code f)
  simp only [List.mem_cons, Prod.mk.injEq, List.not_mem_nil, or_false] at hc
  rcases hc with ⟨rfl, rfl⟩ | ⟨rfl, rfl⟩ | ⟨rfl, rfl⟩ | ⟨rfl, rfl⟩ | ⟨rfl, rfl⟩ | ⟨rfl, rfl⟩ | ⟨rfl, rfl⟩
  · refine congrArg _ (serve_sequencer s r 7 _ _ _ _ ⟨hp, hf⟩ ?_)
    simp only [takeRequest_siteCheck, h]
    rfl
  · exact congrArg _ (hseq 10 _ hp)
  · exact congrArg _ (hseq 11 _ hp)
  · exact congrArg _ (hseq 12 _ hp)
  · exact congrArg _ (hseq 13 _ hp)
  · exact congrArg _ (serve_metrology s r 27 _ _ _ _ ⟨hp, hf⟩ (hsite 27 _))
  · exact congrArg _ (hseq 30 _ hp)

/-! ### The masks of R29 -/

theorem masked_eq (mask : List Bool) (i : Nat) : masked mask i = (mask[i]? == some true) := by
  unfold masked
  rw [List.getD_eq_getElem?_getD]
  rcases mask[i]? with _ | _ | _ <;> rfl

theorem maskCheck_noMap {s : State} (mask : List Bool) (h : s.map = none) : maskCheck s mask = some .noMap := by
  simp [maskCheck, h]

/-- The mask has an entry set at or above the site count exactly where the check finds one (R29). -/
theorem maskBeyond_iff (s : State) (mask : List Bool) :
    (mask.drop s.siteCount).any id = true ↔ ∃ i : Nat, s.siteCount ≤ i ∧ mask[i]? = some true := by
  rw [List.any_eq_true]
  constructor
  · rintro ⟨x, hx, rfl⟩
    obtain ⟨k, hk⟩ := List.mem_iff_getElem?.mp hx
    rw [List.getElem?_drop] at hk
    exact ⟨_, by omega, hk⟩
  · rintro ⟨i, hi, h⟩
    obtain ⟨k, rfl⟩ := Nat.exists_eq_add_of_le hi
    exact ⟨true, List.mem_iff_getElem?.mpr ⟨k, by rw [List.getElem?_drop]; exact h⟩, rfl⟩

theorem maskCheck_badArg {s : State} {mask : List Bool} (hmap : s.map ≠ none)
    (h : ∃ i : Nat, s.siteCount ≤ i ∧ mask[i]? = some true) : maskCheck s mask = some .badArg := by
  have hm : s.map.isNone = false := Option.isNone_eq_false_iff.mpr (Option.isSome_iff_ne_none.mpr hmap)
  simp only [maskCheck, hm, (maskBeyond_iff s mask).mpr h, Bool.false_eq_true, if_false, if_true]

theorem maskCheck_good {s : State} {mask : List Bool} (hmap : s.map ≠ none)
    (h : ∀ i : Nat, s.siteCount ≤ i → mask[i]? ≠ some true) : maskCheck s mask = none := by
  have hm : s.map.isNone = false := Option.isNone_eq_false_iff.mpr (Option.isSome_iff_ne_none.mpr hmap)
  have hno : ¬ (mask.drop s.siteCount).any id = true := fun hany => by
    obtain ⟨i, hi, ht⟩ := (maskBeyond_iff s mask).mp hany
    exact h i hi ht
  simp only [maskCheck, hm, hno, Bool.false_eq_true, if_false]

@[simp] theorem takeRequest_maskCheck (s : State) (p : PortId) (tag code : Byte) (mask : List Bool) :
    maskCheck (s.takeRequest p tag code) mask = maskCheck s mask := by
  simp [maskCheck]

/-! ### ENABLE_SET -/

theorem execEnableSet_refused {s : State} {r : Req} {mask : List Bool} {st : Status} (hr : sentTo .sequencer r)
    (h : maskCheck s mask = some st) : execEnableSet r mask s = .next (s.answered r 5 st .none id) := by
  refine congrArg _ (serve_sequencer s r 5 _ _ _ _ hr ?_)
  simp only [takeRequest_maskCheck, h]
  rfl

theorem execEnableSet_taken {s : State} {r : Req} {mask : List Bool} (hr : sentTo .sequencer r)
    (h : maskCheck s mask = none) : execEnableSet r mask s = .next (s.answered r 5 .ok
      (.count ((s.setEnabled mask true).robots.countP (·.enabled)))
      fun t => { t with robots := (s.setEnabled mask true).robots }) := by
  refine congrArg _ (serve_sequencer s r 5 _ _ _ _ hr ?_)
  simp only [takeRequest_maskCheck, h, State.setEnabled, takeRequest_robots, State.enabledCount, okWith]

theorem setEnabled_robots (s : State) (mask : List Bool) (v : Bool) : (s.setEnabled mask v).robots =
    s.robots.mapIdx fun i x => if mask[i]? = some true then { x with enabled := v } else x := by
  simp [State.setEnabled, masked_eq]

/-! ### ENABLE_CLEAR -/

theorem Robot.finished_lastOutcome (r : Robot) (st : RobotState) (kind : MoveKind) (o : MoveOutcome)
    (reason : Option DenyReason) : (r.finished st kind (some (o, reason))).lastOutcome = some o := by
  unfold Robot.finished Robot.recorded
  simp only
  split <;> rfl

theorem Robot.finished_enabled (r : Robot) (st : RobotState) (kind : MoveKind)
    (out : Option (MoveOutcome × Option DenyReason)) : (r.finished st kind out).enabled = r.enabled := by
  unfold Robot.finished Robot.recorded
  rcases out with _ | ⟨o, reason⟩
  · rfl
  · simp only
    split <;> rfl

theorem Robot.lostWith_enabled (r : Robot) (cause : LostCause) (out : Option (MoveOutcome × Option DenyReason)) :
    (r.lostWith cause out).enabled = r.enabled := by
  unfold Robot.lostWith
  cases r.move with
  | none => rfl
  | some m => exact Robot.finished_enabled _ _ _ _

/-- A move that ends at rest ends as R93 says, and leaves the robot's enabled flag. -/
theorem State.endAtRest_ended {s : State} {site : Nat} {r : Robot} {m : Move} (o : MoveOutcome)
    (reason : Option DenyReason) (hr : s.robots[site]? = some r) (hm : r.move = some m) :
    ∃ r', (s.endAtRest site (some (o, reason))).robots[site]? = some r' ∧ r.EndedAtRest r' o ∧
      r'.enabled = r.enabled ∧ r'.state.moves = false := by
  unfold State.endAtRest Robot.EndedAtRest
  simp only [hr, hm, Option.any_some]
  by_cases hh : m.isHome = true
  · simp only [hh, if_true]
    refine ⟨_, loseWith_robot _ _ hr, ⟨Robot.lostWith_move _ _ _, ?_, _, Robot.lostWith_state _ _ _⟩,
      Robot.lostWith_enabled _ _ _, by rw [Robot.lostWith_state]; rfl⟩
    simp only [Robot.lostWith, hm]
    exact Robot.finished_lastOutcome _ _ _ _ _
  · simp only [hh, if_false, Bool.false_eq_true]
    exact ⟨_, finishMove_robot _ _ hr hm, ⟨Robot.finished_move _ _ _ _, Robot.finished_lastOutcome _ _ _ _ _,
      Robot.finished_state _ _ _ _⟩, Robot.finished_enabled _ _ _ _, by rw [Robot.finished_state]; rfl⟩

theorem State.disableSite_ebbs (before : State) (mask : List Bool) (i : Nat) (t : State) :
    t.Ebbs (fun k => k = i) (fun _ => False) (State.disableSite before mask i t) := by
  unfold State.disableSite
  split
  · exact .endAtRest t _ rfl
  · exact .refl t

/-- The end of a move keeps what it ended with while robots are told. -/
theorem Robot.EndedAtRest.congr {x y z : Robot} {o : MoveOutcome} (h : y.EndedAtRest z o)
    (hm : x.move.map Move.undenied = y.move.map Move.undenied) : x.EndedAtRest z o := by
  have hhome : x.move.any Move.isHome = y.move.any Move.isHome := by
    have := congrArg (fun o : Option Move => o.any Move.isHome) hm
    rw [Option.any_map, Option.any_map] at this
    exact this
  unfold EndedAtRest at *
  rwa [hhome]

/-- An event's denials leave the enabled flags as they are. -/
theorem State.settleDenials_enabled (n : Nat) (s : State) {i : Nat} {r : Robot} (hr : s.robots[i]? = some r) :
    ∃ r', (s.settleDenials n).robots[i]? = some r' ∧ r'.enabled = r.enabled := by
  induction n generalizing s r with
  | zero => exact ⟨r, hr, rfl⟩
  | succ n ih =>
    unfold State.settleDenials
    split
    · exact ⟨r, hr, rfl⟩
    · rename_i site hf
      have hstep : ∃ r1, (s.endDenied site).robots[i]? = some r1 ∧ r1.enabled = r.enabled := by
        by_cases hi : i = site
        · subst hi
          obtain ⟨reason, hd⟩ := Option.isSome_iff_exists.mp (firstDenied_some hf)
          have hdr : r.deniedAtRest = some reason := by simpa [hr] using hd
          obtain ⟨m, hm⟩ := Option.isSome_iff_exists.mp (Robot.deniedAtRest_move hdr)
          obtain ⟨r1, hr1, -, he, -⟩ := endAtRest_ended .denied (some reason) hr hm
          refine ⟨r1, ?_, he⟩
          unfold State.endDenied
          simpa [hr, hdr] using hr1
        · obtain ⟨r1, hr1, ht⟩ := (Ebbs.endDenied (E := fun k => k = site) (X := fun _ => False) s rfl).told hr hi
          exact ⟨r1, hr1, by rw [ht.rest]⟩
      obtain ⟨r1, hr1, he1⟩ := hstep
      obtain ⟨r2, hr2, he2⟩ := ih _ hr1
      exact ⟨r2, hr2, he2.trans he1⟩

theorem State.close_enabled {s t : State} {i : Nat} {r : Robot} (hr : t.robots[i]? = some r) :
    ∃ r', (s.close t).robots[i]? = some r' ∧ r'.enabled = r.enabled := by
  obtain ⟨_, _, _, hclose, -⟩ := s.closeEvent_rest t.settle
  unfold State.close
  rw [hclose]
  exact settleDenials_enabled _ t hr

/-- A robot with a move is in one of the four states of a move, and no other is (R18, R72). -/
theorem State.MovesSound.at {s : State} (h : s.MovesSound) {i : Nat} {r : Robot} (hr : s.robots[i]? = some r) :
    r.move.isSome = r.state.moves := by
  simpa [Robot.moveMatchesState, RobotState.moves] using h r (List.mem_of_getElem? hr)

/-- What ENABLE_CLEAR does to the robots (R29). -/
def State.disabling (s : State) (mask : List Bool) : State :=
  (s.setEnabled mask false).sweep (State.disableSite s mask)

/-- A robot newly disabled at rest has its move ended DISABLED, and every other is told at most (R29, R93). -/
theorem State.disabling_sites {s : State} {mask : List Bool} {i : Nat} {x x0 : Robot} (hs : s.MovesSound)
    (hx : s.robots[i]? = some x) (hx0 : x0 = if mask[i]? = some true then { x with enabled := false } else x) :
    ∃ r, ((s.setEnabled mask false).forSites (State.disableSite s mask)).robots[i]? = some r ∧
      if mask[i]? = some true ∧ x.enabled = true ∧ x.atRest = true then
        x.EndedAtRest r .disabled ∧ r.enabled = false ∧ r.state.moves = false
      else x0.Told r := by
  have hA : (s.setEnabled mask false).robots[i]? = some x0 := by
    rw [setEnabled_robots, List.getElem?_mapIdx, hx, hx0]; rfl
  have hmove : x0.move = x.move := by rw [hx0]; split <;> rfl
  have hrest : x0.atRest = x.atRest := by rw [hx0]; split <;> rfl
  obtain ⟨u, hu, hv⟩ := Ebbs.forSites_at (fun t j => State.disableSite_ebbs s mask j t)
    (List.getElem?_eq_some_iff.mp hA).1
  obtain ⟨r1, hr1, ht1⟩ := hu.told hA (lt_irrefl i)
  have hat : (r1.state == .queued || r1.state == .waitLens) = x.atRest := (ht1.atRest.trans hrest :)
  by_cases hc : mask[i]? = some true ∧ x.enabled = true ∧ x.atRest = true
  · obtain ⟨hmask, hen, hxr⟩ := id hc
    have hsome : r1.move.isSome = true := by
      rw [ht1.isSome, hmove, hs.at hx]
      revert hxr
      unfold Robot.atRest RobotState.moves
      cases x.state <;> simp
    obtain ⟨m, hm⟩ := Option.isSome_iff_exists.mp hsome
    obtain ⟨r2, hr2, he, hen2, hmv⟩ := endAtRest_ended .disabled none hr1 hm
    have hact : (State.disableSite s mask i u).robots[i]? = some r2 := by
      unfold State.disableSite
      rw [masked_eq, hmask, hx, hr1]
      simpa [hen, hat, hxr] using hr2
    obtain ⟨r3, hr3, ht3⟩ := hv.told hact (lt_irrefl i)
    have hst : r2.state ≠ .queued ∧ r2.state ≠ .waitLens ∧ r2.state ≠ .inLeg := by
      refine ⟨?_, ?_, ?_⟩ <;> intro h <;> simp [h, RobotState.moves] at hmv
    rw [ht3.same hst.1 hst.2.1 hst.2.2] at hr3
    refine ⟨r2, hr3, ?_⟩
    rw [if_pos hc]
    refine ⟨he.congr (ht1.move.trans (by rw [hmove])).symm, ?_, hmv⟩
    rw [hen2, ht1.rest, hx0, if_pos hmask]
  · have hact : State.disableSite s mask i u = u := by
      unfold State.disableSite
      rw [masked_eq, hx, hr1, Option.any_some, Option.any_some, hat]
      refine if_neg fun h => hc ?_
      simpa [and_assoc] using h
    rw [hact] at hv
    obtain ⟨r3, hr3, ht3⟩ := hv.told hr1 (lt_irrefl i)
    refine ⟨r3, hr3, ?_⟩
    rw [if_neg hc]
    exact ht1.trans ht3

/-- ENABLE_CLEAR robot by robot (R29). -/
theorem State.disabling_robots {s : State} {mask : List Bool} {i : Nat} {x : Robot} (hs : s.MovesSound)
    (hx : s.robots[i]? = some x) : ∃ x', (s.disabling mask).robots[i]? = some x' ∧
      x'.enabled = (x.enabled && !(mask[i]? == some true)) ∧
      (x.atRest = true → x.enabled = true → mask[i]? = some true → x.EndedAtRest x' .disabled) ∧
      (x.state = .inLeg ∨ x.state = .halting → x'.state = x.state ∧ x'.move.isSome = true) ∧
      (x.move = none → x' = { x with enabled := x'.enabled }) := by
  obtain ⟨r, hr, hcase⟩ := State.disabling_sites (mask := mask) hs hx rfl
  have hsound := hs.at hx
  split at hcase
  · next hc =>
    obtain ⟨hmask, hen, hrest⟩ := hc
    obtain ⟨hend, hoff, hmv⟩ := hcase
    have hxm : x.state.moves = true := by
      revert hrest
      unfold Robot.atRest RobotState.moves
      cases x.state <;> simp
    refine ⟨r, State.close_same hr hmv, by simp [hoff, hmask], fun _ _ _ => hend, fun h => ?_, fun h => ?_⟩
    · rcases h with h | h <;> simp [Robot.atRest, h] at hrest
    · rw [h, hxm] at hsound
      cases hsound
  · next hc =>
    have hen : r.enabled = (x.enabled && !(mask[i]? == some true)) := by
      rw [hcase.rest]
      by_cases hm : mask[i]? = some true <;> simp [hm]
    have hnot : x.atRest = true → x.enabled = true → mask[i]? = some true → False :=
      fun h1 h2 h3 => hc ⟨h3, h2, h1⟩
    by_cases hrest : x.atRest = true
    · obtain ⟨r', hr', he⟩ := State.close_enabled (s := s.setEnabled mask false) hr
      refine ⟨r', hr', he.trans hen, fun h1 h2 h3 => (hnot h1 h2 h3).elim, fun h => ?_, fun h => ?_⟩
      · rcases h with h | h <;> simp [Robot.atRest, h] at hrest
      · rw [h] at hsound
        revert hrest hsound
        unfold Robot.atRest RobotState.moves
        cases x.state <;> simp
    · obtain ⟨x0, hx0⟩ : ∃ x0, x0 = if mask[i]? = some true then { x with enabled := false } else x := ⟨_, rfl⟩
      rw [← hx0] at hcase
      have hmove : x0.move = x.move := by rw [hx0]; split <;> rfl
      have hst : x0.state = x.state := by rw [hx0]; split <;> rfl
      have hrest0 : x0.atRest = false := by
        unfold Robot.atRest at *
        simpa [hst] using hrest
      obtain ⟨r', hr', ht⟩ := State.close_told (s := s.setEnabled mask false) hr (hcase.atRest.trans hrest0)
      have hall := hcase.trans ht
      refine ⟨r', hr', by rw [ht.rest]; exact hen, fun h1 h2 h3 => (hnot h1 h2 h3).elim, fun h => ?_, fun h => ?_⟩
      · have hw : x0.state ≠ .waitLens := by rcases h with h | h <;> simp [hst, h]
        refine ⟨(hall.keepsState hw).trans hst, ?_⟩
        rw [hall.isSome, hmove, hsound]
        rcases h with h | h <;> rw [h] <;> rfl
      · rw [h] at hsound
        have hno : x0.state ≠ .queued ∧ x0.state ≠ .waitLens ∧ x0.state ≠ .inLeg := by
          refine ⟨?_, ?_, ?_⟩ <;> intro h <;> rw [← hst, h] at hsound <;> cases hsound
        have hsame := hall.same hno.1 hno.2.1 hno.2.2
        rw [hsame, hx0]
        split <;> rfl

theorem State.setEnabled_length (s : State) (mask : List Bool) (v : Bool) :
    (s.setEnabled mask v).robots.length = s.robots.length := by
  rw [setEnabled_robots, List.length_mapIdx]

/-- What the engine does changes the engine's parts alone. -/
theorem State.Ebbs.engine {E X : Nat → Prop} {s t : State} (h : s.Ebbs E X t) : t = s.engine t := by
  have hp : t.posChanged = s.posChanged := by
    have := congrArg State.posChanged h.frame
    exact this
  have hi : t.inquiry = s.inquiry := by
    have := congrArg State.inquiry h.frame
    exact this
  refine h.frame.trans ?_
  unfold State.engine
  rw [hp, hi]

/-- The walk and the close of ENABLE_CLEAR are steps in which moves end. -/
theorem State.disabling_ebbs (s : State) (mask : List Bool) :
    (s.setEnabled mask false).Ebbs (fun _ => True) (fun _ => False) (s.disabling mask) := by
  obtain ⟨E, he, -⟩ := (s.setEnabled mask false).close_ebbs
    ((s.setEnabled mask false).forSites (State.disableSite s mask))
  refine .trans (.forSites (fun t j => ?_) _) (he.mono (fun _ _ => trivial) fun _ => id)
  exact (State.disableSite_ebbs s mask j t).mono (fun _ _ => trivial) fun _ => id

theorem State.disabling_engine (s : State) (mask : List Bool) : s.disabling mask = s.engine (s.disabling mask) := by
  conv => lhs; rw [(s.disabling_ebbs mask).engine]
  rfl

/-- ENABLE_CLEAR, taken (R29). -/
theorem execEnableClear_taken {s : State} {r : Req} {mask : List Bool} (hr : sentTo .sequencer r)
    (h : maskCheck s mask = none) : execEnableClear r mask s = .next (s.answered r 6 .ok
      (.count (((s.takeRequest r.port r.tag 6).disabling mask).robots.countP (·.enabled)))
      fun t => t.disabling mask) := by
  refine congrArg _ (serve_sequencer s r 6 _ _ _ _ hr ?_)
  simp only [takeRequest_maskCheck, h]
  rfl

/-- What ENABLE_CLEAR leaves, answered, is the state it was taken in with the engine's parts as they are then. -/
theorem answered_disabling {s : State} {r : Req} (mask : List Bool) (b : Body) (h : s.Takes r 6) :
    (s.answered r 6 .ok b fun t => t.disabling mask).robots = ((s.takeRequest r.port r.tag 6).disabling mask).robots ∧
      (s.answered r 6 .ok b fun t => t.disabling mask) =
        s.answered r 6 .ok b (·.engine (s.answered r 6 .ok b fun t => t.disabling mask)) := by
  simp only [answered_takes _ _ _ _ _ _ h]
  refine ⟨State.modPort_robots _ _ _, ?_⟩
  conv => lhs; rw [State.disabling_engine]
  cases r.port <;> rfl

/-! ### CLEAR_FAULT -/

theorem siteCheck_holds {s : State} {site : Nat} {x : Site} {rob : Robot} (h : s.Holds site x rob) :
    siteCheck s site = none := by
  obtain ⟨hx, -⟩ := h
  unfold State.site? at hx
  unfold siteCheck State.siteCount
  cases hm : s.map with
  | none => simp [hm] at hx
  | some m =>
    simp only [hm, Option.bind_some] at hx
    have := (List.getElem?_eq_some_iff.mp hx).1
    simp [this]

/-- CLEAR_FAULT at a site of the map (R31). -/
theorem execClearFault_holds {s : State} {r : Req} {site : Nat} {x : Site} {rob : Robot} {st : Status}
    {f : State → State} (hr : sentTo .sequencer r) (hx : s.Holds site x rob)
    (h : ∀ t : State, (if rob.state = .faulted then okWith (t.modRobot site Robot.clearFault) .none
      else refuseWith t .notReady) = ⟨f t, st, .none⟩) :
    execClearFault r site s = .next (s.answered r 7 st .none f) := by
  refine congrArg _ (serve_sequencer s r 7 _ _ _ _ hr ?_)
  simp only [takeRequest_siteCheck, siteCheck_holds hx, State.robotIs, takeRequest_robots, hx.2, ← h]
  simp

end Sys2Proof.Machine

open Sys2Proof Sys2Proof.Machine

/-- Settles O15: the site checks come before each rule, the masks pass one check, and ENABLE_CLEAR is a walk in
which each site gives up at most its own move. -/
theorem robotFlagRequestsFollowTheirRules : Obligations.RobotFlagRequestsFollowTheirRules := by
  refine ⟨fun s r site a b item c code hf hc hp => ⟨fun hmap => ?_, fun hmap hsite => ?_⟩,
    fun s r mask hr => ⟨fun hmap => ?_, fun hmap hbad => ?_, fun hmap hgood => ?_⟩,
    fun s r mask hr hmap hgood hs htakes => ?_, fun s r site x rob hr hx => ⟨fun hst => ?_, fun hst => ?_⟩⟩
  · exact namedRobot_refused hf hc hp (siteCheck_noMap site hmap)
  · exact namedRobot_refused hf hc hp (siteCheck_badArg hmap hsite)
  · exact execEnableSet_refused hr (maskCheck_noMap mask hmap)
  · exact execEnableSet_refused hr (maskCheck_badArg hmap hbad)
  · exact ⟨_, setEnabled_robots s mask true, execEnableSet_taken hr (maskCheck_good hmap hgood)⟩
  · have hs' : (s.takeRequest r.port r.tag 6).MovesSound := by simpa [State.MovesSound] using hs
    obtain ⟨hrobots, hengine⟩ := answered_disabling mask
      (.count (((s.takeRequest r.port r.tag 6).disabling mask).robots.countP (·.enabled))) htakes
    refine ⟨_, execEnableClear_taken hr (maskCheck_good hmap hgood), ?_, ?_, fun i x hx => ?_⟩
    · rwa [hrobots]
    · rw [hrobots, (State.disabling_ebbs _ mask).robots.length, State.setEnabled_length, takeRequest_robots]
    · rw [hrobots]
      exact State.disabling_robots hs' (by simpa using hx)
  · exact execClearFault_holds hr hx fun t => if_pos hst
  · exact execClearFault_holds hr hx fun t => if_neg hst
end

section
/-! Loss conversion, read from a chain of steps that holds a robot's `lossLens` at each of its lenses (R62, R67). -/

namespace Sys2Proof.Machine

/-! ### A side that holds nothing and waits for nothing -/

/-- Side `p` of a lens does not wait in a decided record that meets its bounds. -/
def Lens.notWaiting (l : Lens) (p : Party) : Prop := ∀ d, l.body = .decided d → d.wf = true ∧ d.waiter ≠ some p

/-- Side `p` of a lens has given up its holding, or the lens's claim has. -/
def Lens.gone (l : Lens) (p : Party) : Prop :=
  (∀ d, l.body = .decided d → d.heldBy p = false ∧ d.waiter ≠ some p) ∧
    ∀ c, l.body = .client c → c.claim ≠ .heldOccupied ∧ c.claim ≠ .heldReserved

theorem Decided.heldBy_iff {d : Decided} {p : Party} : d.heldBy p = true ↔ ∃ k, d.holder = some (p, k) := by
  unfold Decided.heldBy
  rcases d.holder with _ | ⟨q, k⟩ <;> simp

/-- A side that holds a record does not wait for it (R49). -/
theorem Decided.waiter_ne_of_heldBy {d : Decided} {p : Party} (hwf : d.wf = true) (h : d.heldBy p = true) :
    d.waiter ≠ some p := fun hw => by
  obtain ⟨k, hk⟩ := heldBy_iff.mp h
  obtain ⟨k', hk'⟩ := heldBy_iff.mp (((Decided.wf_iff _).mp hwf).2.2 p hw)
  rw [hk] at hk'
  cases p <;> simp [Party.other] at hk'

theorem Decided.Ebbs.notWaiting {G S : Party → Prop} {d d' : Decided} (h : Decided.Ebbs G S d d') {p : Party}
    (hwf : d.wf = true) (hw : d.waiter ≠ some p) : d'.waiter ≠ some p := by
  cases hh : d.heldBy p with
  | false => exact (h.apart p hh hw).2
  | true =>
    have hheld : ∀ k, d'.holder = some (p, k) → d'.waiter ≠ some p := fun k hk =>
      Decided.waiter_ne_of_heldBy (h.wf hwf) (Decided.heldBy_iff.mpr ⟨k, hk⟩)
    obtain ⟨k, hk⟩ := Decided.heldBy_iff.mp hh
    cases k with
    | occupied =>
      rcases h.occupied p hk with h' | ⟨-, -, h'⟩
      · exact hheld _ h'
      · simp [h']
    | reserved =>
      rcases h.reserved p hwf hk with h' | ⟨-, h', -⟩
      · exact hheld _ h'
      · exact h'

namespace Lens.Ebbs

variable {E : Nat → Prop} {t : State} {i : Nat} {l l' : Lens}

/-- A decided record comes from one. -/
theorem decided' (h : Lens.Ebbs E t i l l') {d' : Decided} (hd : l'.body = .decided d') :
    ∃ d, l.body = .decided d ∧ Decided.Ebbs (l.keeps E) (t.stands E l) d d' := by
  cases hb : l.body with
  | decided d =>
    obtain ⟨e, he, hebb⟩ := h.decided d hb
    cases he.symm.trans hd
    exact ⟨d, rfl, hebb⟩
  | client c =>
    obtain ⟨e, he, -⟩ := h.client c hb
    cases he.symm.trans hd

/-- A client record comes from one. -/
theorem client' (h : Lens.Ebbs E t i l l') {c' : Client} (hc : l'.body = .client c') :
    ∃ c, l.body = .client c ∧ Client.Ebbs (t.Sends l i) c c' := by
  cases hb : l.body with
  | decided d =>
    obtain ⟨e, he, -⟩ := h.decided d hb
    cases he.symm.trans hc
  | client c =>
    obtain ⟨e, he, hebb⟩ := h.client c hb
    cases he.symm.trans hc
    exact ⟨c, rfl, hebb⟩

theorem notWaiting (h : Lens.Ebbs E t i l l') {p : Party} (hl : l.notWaiting p) : l'.notWaiting p := fun d' hd' => by
  obtain ⟨d, hd, he⟩ := h.decided' hd'
  obtain ⟨hwf, hw⟩ := hl d hd
  exact ⟨he.wf hwf, he.notWaiting hwf hw⟩

theorem gone (h : Lens.Ebbs E t i l l') {p : Party} (hl : l.gone p) : l'.gone p := by
  obtain ⟨hdec, hcli⟩ := hl
  refine ⟨fun d' hd' => ?_, fun c' hc' => ?_⟩
  · obtain ⟨d, hd, he⟩ := h.decided' hd'
    obtain ⟨hh, hw⟩ := hdec d hd
    exact he.apart p hh hw
  · obtain ⟨c, hc, he⟩ := h.client' hc'
    obtain ⟨ho, hr⟩ := hcli c hc
    cases hcl : c.claim with
    | none => simp [he.none hcl]
    | pinned => simp [he.pinned hcl]
    | claiming => rcases he.claiming hcl with h' | h' <;> simp [h']
    | heldOccupied => exact absurd hcl ho
    | heldReserved => exact absurd hcl hr

end Lens.Ebbs

/-! ### Steps that take a site's parts -/

/-- Between `s` and `t` the parts of a site at every lens but `except` have been given up. -/
def State.Gone (s t : State) (site : Nat) (except : Option Nat) : Prop :=
  ∀ (i : Nat) (l l' : Lens) (p : Party), s.lenses[i]? = some l → t.lenses[i]? = some l' → l.partyOf site = some p →
    except ≠ some i → l.notWaiting p → l'.gone p

namespace State.Gone

variable {E X : Nat → Prop} {s t u : State} {site : Nat} {except : Option Nat}

/-- Moves that end before. -/
theorem before (h : u.Gone t site except) (he : s.Ebbs E X u) (hX : ∀ i, X i → except = some i) :
    s.Gone t site except := fun i l l' p hl hl' hp hx hw => by
  obtain ⟨l1, hl1, ⟨ha, hb⟩, hebb⟩ := he.lenses.get hl
  refine h i l1 l' p hl1 hl' ?_ hx ((hebb fun h => hx (hX i h)).notWaiting hw)
  rw [Ebbs.partyOf_congr ha hb, hp]

/-- Moves that end afterwards. -/
theorem after (h : s.Gone u site except) (he : u.Ebbs E X t) (hX : ∀ i, X i → except = some i) :
    s.Gone t site except := fun i l l' p hl hl' hp hx hw => by
  obtain ⟨l1, hl1, -, hebb⟩ := he.lenses.get' hl'
  exact (hebb fun h => hx (hX i h)).gone (h i l l1 p hl hl1 hp hx hw)

end State.Gone

/-- A record that is held has no pins (R49). -/
theorem Decided.pinned_of_held {d : Decided} (hwf : d.wf = true) (h : d.holder ≠ none) (p : Party) :
    d.pinned p = false := by
  obtain ⟨ha, hb⟩ := ((Decided.wf_iff _).mp hwf).1.resolve_left h
  cases p
  · exact ha
  · exact hb

/-! ### A record that is replaced, and what is told of it -/

namespace State.Ebbs

variable {E X : Nat → Prop} {s t : State} {i : Nat} {l : Lens}

/-- What follows the change of a lens's record starts from the record it then has. -/
theorem modLens_then {f : LensBody → LensBody} (h : (s.modLens i f).Ebbs E X t) (hl : s.lenses[i]? = some l)
    (hx : ¬ X i) : ∃ l', t.lenses[i]? = some l' ∧ (l'.a = l.a ∧ l'.b = l.b) ∧
      Lens.Ebbs E t i { l with body := f l.body } l' := by
  obtain ⟨l', hl', hs, he⟩ := h.lenses.get (show (s.modLens i f).lenses[i]? = some { l with body := f l.body } by
    simp [State.modLens, hl])
  exact ⟨l', hl', hs, he hx⟩

theorem told_releaseDecided (s : State) (i : Nat) (l : Lens) (d : Decided) :
    (s.setDecided i d.release).Ebbs E X (s.releaseDecided i l d) := by
  unfold State.releaseDecided
  simp only
  split
  · exact tellGrant _ _ _
  · exact refl _

theorem told_holdingToPin (s : State) (i : Nat) (l : Lens) (d : Decided) (p : Party) :
    (s.setDecided i (d.toPin p)).Ebbs E X (s.holdingToPin i l d p) := by
  unfold State.holdingToPin
  simp only
  split
  · exact refl _
  · exact tellDeny _ _ _ _

theorem told_clientTo (s : State) (i : Nat) (l : Lens) (c : Client) (st : ClaimState) (m : BorderMessage) :
    (s.setClient i { c with claim := st, deadline := none }).Ebbs E X (s.clientTo i l c st m) :=
  sendBorder _ _ i m

end State.Ebbs

/-! ### Loss conversion -/

theorem Decided.release_gone {d : Decided} {p : Party} {k : HoldKind} (h : d.holder = some (p, k))
    (hw : d.waiter ≠ some p) : d.release.heldBy p = false ∧ d.release.waiter ≠ some p := by
  rcases d with ⟨_, pa, pb, w, t⟩
  cases h
  cases w with
  | none => simp [Decided.release, Decided.heldBy]
  | some w =>
    have hne : w ≠ p := fun h => hw (by rw [h])
    simp [Decided.release, Decided.heldBy, hne]

theorem Lens.gone_decided {l : Lens} {p : Party} {d : Decided} (h : d.heldBy p = false ∧ d.waiter ≠ some p) :
    ({ l with body := .decided d } : Lens).gone p :=
  ⟨fun e he => by cases he; exact h, fun c hc => by cases hc⟩

theorem Lens.gone_client {l : Lens} {p : Party} {c : Client} (h : c.claim ≠ .heldOccupied ∧ c.claim ≠ .heldReserved) :
    ({ l with body := .client c } : Lens).gone p :=
  ⟨nofun, fun e he => by cases he; exact h⟩

/-- Loss conversion at a lens leaves its robot no holding there (R62). -/
theorem State.lossLens_gone {s : State} {site i : Nat} {l l' : Lens} {p : Party} (hl : s.lenses[i]? = some l)
    (hl' : (s.lossLens site i).lenses[i]? = some l') (hp : l.partyOf site = some p) (hw : l.notWaiting p) :
    l'.gone p := by
  have hthen : ∀ {b : LensBody} {t : State}, (s.modLens i fun _ => b).Ebbs (fun _ => False) (fun _ => False) t →
      t.lenses[i]? = some l' → ({ l with body := b } : Lens).gone p → l'.gone p := fun he ht hg => by
    obtain ⟨l1, hl1, -, hebb⟩ := he.modLens_then hl id
    cases hl1.symm.trans ht
    exact hebb.gone hg
  unfold State.lossLens at hl'
  simp only [hl, hp] at hl'
  split at hl'
  · next d hb =>
    obtain ⟨-, hwait⟩ := hw d hb
    split at hl'
    · exact hthen (.told_holdingToPin s i l d p) hl'
        (Lens.gone_decided ⟨by simp [Decided.toPin, Decided.heldBy], by simp [Decided.toPin]⟩)
    · next hocc =>
      split at hl'
      · next hres =>
        exact hthen (.told_releaseDecided s i l d) hl' (Lens.gone_decided (Decided.release_gone hres hwait))
      · next hres =>
        cases hl.symm.trans hl'
        refine ⟨fun e he => ?_, fun c hc => (nomatch hb.symm.trans hc)⟩
        cases hb.symm.trans he
        refine ⟨Bool.eq_false_iff.mpr fun hh => ?_, hwait⟩
        obtain ⟨k, hk⟩ := Decided.heldBy_iff.mp hh
        cases k
        · exact hres hk
        · exact hocc hk
  · next c hb =>
    have hsame : s.lenses[i]? = some l' → c.claim ≠ .heldOccupied ∧ c.claim ≠ .heldReserved → l'.gone p := fun h hc => by
      cases hl.symm.trans h
      refine ⟨fun d hd => (nomatch hb.symm.trans hd), fun e he => ?_⟩
      cases hb.symm.trans he
      exact hc
    split at hl'
    · exact hthen (.told_clientTo s i l c _ _) hl' (Lens.gone_client ⟨nofun, nofun⟩)
    · exact hthen (.told_clientTo s i l c _ _) hl' (Lens.gone_client ⟨nofun, nofun⟩)
    · next hc => exact hsame hl' (by simp [hc])
    · next hc => exact hsame hl' (by simp [hc])
    · next hc => exact hsame hl' (by simp [hc])

/-- A walk over the lenses that converts the site's losses at all but one gives them up (R62, R67). -/
theorem State.gone_forLenses {s : State} {site : Nat} {except : Option Nat} {act : Nat → State → State}
    {E X : Nat → Prop} (h : ∀ j (u : State), u.Ebbs E X (act j u)) (hX : ∀ i, X i → except = some i)
    (hact : ∀ i (u : State), s.Ebbs E X u → except ≠ some i → ∃ v, u.Ebbs E X v ∧ (v.lossLens site i).Ebbs E X (act i u)) :
    s.Gone (s.forLenses act) site except := fun i l l' p hl hl' hp hx hw => by
  obtain ⟨u, hu, ht⟩ := Ebbs.foldRange_at (fun j _ => h j) (fun j _ => h j) (List.getElem?_eq_some_iff.mp hl).1 s
  obtain ⟨v, hv, hloss⟩ := hact i u hu hx
  have hnx : ¬ X i := fun h => hx (hX i h)
  obtain ⟨l1, hl1, ⟨ha, hb⟩, he1⟩ := (hu.trans hv).lenses.get hl
  obtain ⟨l2, hl2, -, he2⟩ := (hloss.trans ht).lenses.get' hl'
  refine (he2 hnx).gone (State.lossLens_gone hl1 hl2 ?_ ((he1 hnx).notWaiting hw))
  rw [Ebbs.partyOf_congr ha hb, hp]

theorem State.lossConvert_gone (s : State) (site : Nat) : s.Gone (s.lossConvert site) site none :=
  gone_forLenses (E := fun j => j = site) (X := fun _ => False) (fun _ u => .lossLens u (.inl rfl)) nofun
    fun _ u _ _ => ⟨u, .refl u, .refl _⟩

/-- R67's walk spares the facing lens alone. -/
theorem State.applyInconsistent_gone (s : State) (site : Nat) (p : Pos) :
    s.Gone (s.applyInconsistent site p) site (s.facingLens site p) := by
  refine gone_forLenses (E := fun j => j = site) (X := fun i => s.facingLens site p = some i) (fun j u => ?_)
    (fun i h => h) fun i u _ hi => ⟨u, .refl u, by rw [if_neg hi]; exact .refl _⟩
  split
  · exact .pinFacing u (by assumption)
  · exact .lossLens u (.inl rfl)

/-! ### What loss conversion leaves (R62) -/

/-- A robot that is not to give up, or a remote side, stands by as the statements say. -/
theorem State.stands_of_standsBy {t : State} {E : Nat → Prop} {l : Lens} {q : Party}
    (hE : ∀ j y, E j → t.robots[j]? = some y → y.move = none) (h : t.StandsBy (l.side q)) : t.stands E l q := by
  refine ⟨fun j hj hq => ?_, fun k m hk => ?_⟩
  · have hside : l.side q = .site j := by
      unfold Lens.partyOf at hq
      cases q <;> simp only [Lens.side] <;> split at hq <;> simp_all
    rw [hside] at h
    obtain ⟨y, hy, hm⟩ := h
    exact hm (hE j y hj hy)
  · rw [hk] at h
    exact h

/-- A chain that takes a site's parts is a loss conversion (R62). -/
theorem State.Gone.lossConverted {E X : Nat → Prop} {s t : State} {site : Nat} {except : Option Nat}
    (hg : s.Gone t site except) (h : s.Ebbs E X t) (hX : ∀ i, X i → except = some i)
    (hE : ∀ j y, E j → t.robots[j]? = some y → y.move = none) : s.LossConverted t site except := by
  intro i l p hl hp hx
  obtain ⟨l', hl', -, hebb⟩ := h.lenses.get hl
  have he := hebb fun h => hx (hX i h)
  refine ⟨l', hl', fun d hd hwf => ?_, fun c hc => ?_⟩
  · obtain ⟨d', hd', hde⟩ := he.decided d hd
    have hgone : d.heldBy p = true → d'.heldBy p = false := fun hh =>
      ((hg i l l' p hl hl' hp hx fun e heq => by
        cases hd.symm.trans heq
        exact ⟨hwf, Decided.waiter_ne_of_heldBy hwf hh⟩).1 d' hd').1
    refine ⟨d', hd', fun hocc => ?_, fun hres => ?_, fun hno => ?_⟩
    · have hno := hgone (Decided.heldBy_iff.mpr ⟨_, hocc⟩)
      refine (hde.occupied p hocc).resolve_left fun h' => ?_
      simp [Decided.heldBy_iff.mpr ⟨_, h'⟩] at hno
    · have hno := hgone (Decided.heldBy_iff.mpr ⟨_, hres⟩)
      have hnot : d'.holder ≠ some (p, .reserved) := fun h' => by
        simp [Decided.heldBy_iff.mpr ⟨_, h'⟩] at hno
      refine ⟨hno, ?_, fun hw => ?_, fun hw hs => ?_⟩
      · rw [hde.pins p (by simp [hres])]
        exact Decided.pinned_of_held hwf (by simp [hres]) p
      · exact ((hde.reserved p hwf hres).resolve_left hnot).2.2 hw
      · exact (hde.next p p.other hres hw (stands_of_standsBy hE hs)).resolve_left fun h' => hnot h'.1
    · refine hde.pins p fun hocc => ?_
      simp [Decided.heldBy_iff.mpr ⟨_, hocc⟩] at hno
  · obtain ⟨c', hc', hce⟩ := he.client c hc
    obtain ⟨hno, hnr⟩ := (hg i l l' p hl hl' hp hx fun e heq => (nomatch hc.symm.trans heq)).2 c' hc'
    refine ⟨c', hc', hce.refusal, fun h => (hce.occupied h).resolve_left hno,
      fun h => (hce.reserved h).resolve_left hnr, fun h => ?_⟩
    rcases h with h | h
    · rw [h, hce.pinned h]
    · rw [h, hce.none h]

end Sys2Proof.Machine
end

section
/-! The frame of an event, the statistics it counts, and what becomes of a robot that is lost (R19, R62, R67). -/

namespace Sys2Proof.Machine

/-! ### The frame -/

/-- A chain of changes changes the engine's parts alone. -/
theorem Acts.engine {s t : State} (h : Acts s t) : t = s.engine t := by
  have hk := h.keeps
  cases s
  cases t
  simp only [State.engine, State.mk.injEq, true_and]
  exact ⟨hk.pending, hk.now, hk.map, hk.loader, hk.siteLens, hk.digests, hk.targets, hk.mode, hk.inputs, hk.params,
    hk.converter, hk.conversionDue, hk.sequencer, hk.metrology, hk.resetCause⟩

/-- Moves end whatever the buses are. -/
theorem State.Ebbs.withBuses {E X : Nat → Prop} {s t : State} (h : s.Ebbs E X t) (B : List Bus) :
    ({ s with buses := B } : State).Ebbs E X { t with buses := B } where
  frame := by rw [h.frame]
  busTrip := h.busTrip
  inquiryDone := h.inquiryDone
  robots := h.robots
  links := h.links
  buses := .refl (fun _ => Bus.Ebbs.refl) _
  lenses := h.lenses.mono fun _ _ _ ⟨hs, hl⟩ => ⟨hs, fun hx => ⟨(hl hx).decided, (hl hx).client⟩⟩

/-- A robot in which no denial waits may be changed to another. -/
theorem State.NoDenialWaits.modRobot {s : State} (h : s.NoDenialWaits) {i : Nat} {f : Robot → Robot}
    (hf : ∀ r, s.robots[i]? = some r → (f r).deniedAtRest = none) : (s.modRobot i f).NoDenialWaits := by
  intro r hr
  obtain ⟨j, hj⟩ := List.mem_iff_getElem?.mp hr
  rw [State.modRobot_robots, List.getElem?_modify] at hj
  obtain ⟨x, hx, rfl⟩ := Option.map_eq_some_iff.mp hj
  by_cases hij : i = j
  · subst hij
    simpa using hf x hx
  · simpa [hij] using h x (List.mem_of_getElem? hx)

/-- An event that makes no record and after which no denial waits closes as it stands. -/
theorem State.close_quiet' {s t : State} (h : t.NoDenialWaits) (ho : t.outcomes = s.outcomes) : s.close t = t :=
  close_quiet ((State.noDenialWaits_iff t).mp h) ho

/-! ### Statistics -/

theorem countedIn_countedIn {os ps : List StatObject} (h : ∀ o ∈ os, o ∉ ps) (l : List Stat) :
    countedIn ps (countedIn os l) = countedIn (os ++ ps) l := by
  unfold countedIn
  rw [List.map_map]
  refine List.map_congr_left fun x _ => ?_
  by_cases ho : x.object ∈ os
  · simp [ho, h x.object ho]
  · simp [ho]

theorem Bus.count_stats (b : Bus) (o : StatObject) : b.count o = { b with stats := countedIn [o] b.stats } := by
  have h : ∀ x : Stat, (if x.object = o then { x with count := satInc Config.top32 x.count } else x) =
      if x.object ∈ [o] then { x with count := if x.count < 4294967295 then x.count + 1 else x.count } else x := by
    intro x
    by_cases hx : x.object = o
    · rw [if_pos hx, if_pos (by simp [hx])]
      rfl
    · rw [if_neg hx, if_neg (by simp [hx])]
  simp only [Bus.count, countedIn, h]

/-! ### A robot that is lost -/

/-- A robot that is lost in the ordinary way: a move it had ends LOST unless it halts for RESTART (R19, R94). -/
def Robot.lostFor (r : Robot) (cause : LostCause) : Robot :=
  { r with
    alpha := none, beta := none, anchor := none, pollTime := none, state := .lost cause, move := none
    lastOutcome := if r.move.any (·.haltCause != some .restart) then some .lost else r.lastOutcome }

theorem State.lose_robot {s : State} {site : Nat} {r : Robot} (cause : LostCause) (hr : s.robots[site]? = some r) :
    (s.lose site cause).robots[site]? = some (r.lostFor cause) := by
  unfold State.lose
  rw [loseWith_robot _ _ hr]
  simp only [hr, Option.bind_some]
  unfold Robot.lostWith Robot.lostFor
  cases hm : r.move with
  | none => simp [Robot.forget, hm]
  | some m =>
    by_cases hc : m.haltCause = some .restart <;>
      simp [Robot.finished, Robot.recorded, Move.outcome, hc, Robot.forget]

/-- The loss of a robot gives up its parts (R62). -/
theorem State.lose_gone (s : State) (site : Nat) (cause : LostCause) : s.Gone (s.lose site cause) site none := by
  have hloss : s.Gone ((s.modRobot site fun r => { r.forget with anchor := none }).lossConvert site) site none :=
    fun i l l' p hl => lossConvert_gone _ site i l l' p hl
  unfold State.lose State.loseWith
  simp only
  split
  · exact hloss
  · exact hloss.after (E := fun j => j = site) (X := fun _ => False) (.finishMove _ _ _ rfl) nofun

/-! ### An inconsistent report (R67) -/

/-- Side `me` of a lens, which does not hold it, has pinned it. -/
structure Lens.Pinned (t : State) (i : Nat) (me : Party) (l l' : Lens) : Prop where
  decided : ∀ d, l.body = .decided d → ∃ d', l'.body = .decided d' ∧ d'.holder ≠ some (me, .occupied) ∧
    (d.holder = none → d'.holder = none ∧ d'.pinned me = true) ∧ (d.holder ≠ none → d'.pinned me = d.pinned me)
  client : ∀ c, l.body = .client c → c.claim ≠ .heldReserved → c.claim ≠ .heldOccupied →
    ∃ c', l'.body = .client c' ∧ c'.claim = .pinned ∧ (c.claim ≠ .pinned → t.Sends l i .pin)

theorem Lens.Pinned.after {E X : Nat → Prop} {t u : State} {i : Nat} {me : Party} {l l' l'' : Lens}
    (h : l.Pinned t i me l') (hu : t.Ebbs E X u) (he : Lens.Ebbs E u i l' l'') : l.Pinned u i me l'' where
  decided d hd := by
    obtain ⟨d1, hd1, hno, hfree, hheld⟩ := h.decided d hd
    obtain ⟨d2, hd2, hde⟩ := he.decided d1 hd1
    have hpin := hde.pins me hno
    exact ⟨d2, hd2, fun h' => hno (hde.noneOccupies me h'), fun hn => ⟨hde.free (hfree hn).1, hpin.trans (hfree hn).2⟩,
      fun hn => hpin.trans (hheld hn)⟩
  client c hc hr ho := by
    obtain ⟨c1, hc1, hp, hs⟩ := h.client c hc hr ho
    obtain ⟨c2, hc2, hce⟩ := he.client c1 hc1
    exact ⟨c2, hc2, hce.pinned hp, fun hn => hu.sends (hs hn)⟩

theorem Decided.addPin_none {d : Decided} (p : Party) (h : d.holder = none) :
    (d.addPin p).holder = none ∧ (d.addPin p).pinned p = true := by
  unfold Decided.addPin
  rw [h]
  cases p <;> exact ⟨h, rfl⟩

theorem Decided.addPin_held {d : Decided} (p : Party) (h : d.holder ≠ none) : d.addPin p = d := by
  unfold Decided.addPin
  rw [Option.isNone_eq_false_iff.mpr (Option.isSome_iff_ne_none.mpr h)]
  rfl

/-- A client's claim that turns into a pin with PIN sent (R67). -/
theorem State.clientTo_pinned {E X : Nat → Prop} {s u : State} {i : Nat} {me : Party} {l : Lens} {c : Client}
    {m : BorderMessage} (hl : s.lenses[i]? = some l) (hb : l.body = .client c) (hx : ¬ X i)
    (hu : (s.setClient i { c with claim := .pinned, deadline := none }).Ebbs E X u) (hm : m = .pin) :
    ∃ l', (u.sendBorder (l.link.getD 0) i m).lenses[i]? = some l' ∧
      l.Pinned (u.sendBorder (l.link.getD 0) i m) i me l' := by
  have hsend : u.Ebbs E X (u.sendBorder (l.link.getD 0) i m) := .sendBorder u _ i m
  obtain ⟨l', hl', -, he⟩ := (hu.trans hsend).modLens_then hl hx
  refine ⟨l', hl', fun d hd => (nomatch hb.symm.trans hd), fun c0 hc0 _ _ => ?_⟩
  obtain ⟨c', hc', hce⟩ := he.client _ rfl
  exact ⟨c', hc', hce.pinned rfl, fun _ => hm ▸ Ebbs.sends_sendBorder u l i m⟩

/-- The facing lens that its robot does not hold is pinned (R67 step 3). -/
theorem State.pinFacing_pinned {s : State} {site i : Nat} {me : Party} {l : Lens}
    (hl : s.lenses[i]? = some l) (hp : l.partyOf site = some me) (hno : ∀ d, l.body = .decided d → d.heldBy me = false) :
    ∃ l', (s.pinFacing site i).lenses[i]? = some l' ∧ l.Pinned (s.pinFacing site i) i me l' := by
  unfold State.pinFacing
  simp only [hl, hp]
  split
  · next d hb =>
    refine ⟨{ l with body := .decided (d.addPin me) }, by simp [State.setDecided, State.modLens, hl], fun e he => ?_,
      fun c hc => (nomatch hb.symm.trans hc)⟩
    cases hb.symm.trans he
    refine ⟨_, rfl, fun h => ?_, d.addPin_none me, fun h => by rw [d.addPin_held me h]⟩
    by_cases hn : d.holder = none
    · simp [(d.addPin_none me hn).1] at h
    · rw [d.addPin_held me hn] at h
      exact absurd (hno d hb) (by simp [Decided.heldBy_iff.mpr ⟨_, h⟩])
  · next c hb =>
    have hsame : c.claim = .pinned ∨ c.claim = .heldReserved ∨ c.claim = .heldOccupied → l.Pinned s i me l := fun h => by
      refine ⟨fun d hd => (nomatch hb.symm.trans hd), fun e he hr ho => ?_⟩
      cases hb.symm.trans he
      have hpin := (h.resolve_right fun h => h.elim hr ho)
      exact ⟨c, hb, hpin, fun hn => absurd hpin hn⟩
    split
    · exact clientTo_pinned (E := fun _ => False) (X := fun _ => False) hl hb id (.refl _) rfl
    · exact clientTo_pinned (E := fun _ => False) (X := fun _ => False) hl hb id (.sendBorder _ _ i _) rfl
    · next hc => exact ⟨l, hl, hsame (by simp [hc])⟩
    · next hc => exact ⟨l, hl, hsame (by simp [hc])⟩
    · next hc => exact ⟨l, hl, hsame (by simp [hc])⟩

/-- A lens that does not hold for its robot's facing is held by its other side or by none. -/
theorem Lens.heldForFacing_false {l : Lens} {site : Nat} {me : Party} (h : l.heldForFacing site = false)
    (hp : l.partyOf site = some me) : ∀ d, l.body = .decided d → d.heldBy me = false := fun d hd => by
  simp only [Lens.heldForFacing, hd, hp, Bool.or_eq_false_iff] at h
  exact h.1

/-- A site is one side of a lens at most. -/
theorem Lens.keeps_other {l : Lens} {site : Nat} {p q : Party} (hp : l.partyOf site = some p) (hq : q ≠ p) :
    l.keeps (fun j => j = site) q := fun j hj h => by
  subst hj
  rw [hp] at h
  exact hq (Option.some.inj h).symm

/-- What a site gives up elsewhere does not bring it a lens that its other side holds. -/
theorem Decided.Ebbs.heldBy_other {l : Lens} {site : Nat} {me : Party} {S : Party → Prop} {d d' : Decided}
    (h : Decided.Ebbs (l.keeps fun j => j = site) S d d') (hp : l.partyOf site = some me) (hno : d.heldBy me = false) :
    d'.heldBy me = false := by
  cases hh : d.holder with
  | none => exact Decided.Ebbs.heldBy_false (h.free hh) me
  | some x =>
    obtain ⟨q, k⟩ := x
    have hq : q ≠ me := fun hqm => by
      rw [Decided.heldBy_iff.mpr ⟨k, hqm ▸ hh⟩] at hno
      cases hno
    have hk := h.kept q k hh (Lens.keeps_other hp hq)
    simp [Decided.heldBy, hk, hq]

/-- Moves of the robot's own that end first leave its facing lens to be pinned. -/
theorem Lens.Pinned.before {t : State} {i site : Nat} {me : Party} {l l' l'' : Lens} {u : State}
    (he : Lens.Ebbs (fun j => j = site) u i l l') (hs : l'.a = l.a ∧ l'.b = l.b) (hp : l.partyOf site = some me)
    (hno : ∀ d, l.body = .decided d → d.heldBy me = false) (h : l'.Pinned t i me l'') : l.Pinned t i me l'' where
  decided d hd := by
    obtain ⟨d1, hd1, hde⟩ := he.decided d hd
    obtain ⟨d2, hd2, hocc, hfree, hheld⟩ := h.decided d1 hd1
    refine ⟨d2, hd2, hocc, fun hn => hfree (hde.free hn), fun hn => ?_⟩
    cases hh : d.holder with
    | none => exact absurd hh hn
    | some x =>
      obtain ⟨q, k⟩ := x
      have hq : q ≠ me := fun h => by
        have := hno d hd
        rw [Decided.heldBy_iff.mpr ⟨k, h ▸ hh⟩] at this
        cases this
      have hk := hde.kept q k hh (Lens.keeps_other hp hq)
      rw [hheld (by simp [hk])]
      exact hde.pins me (by simp [hh, hq])
  client c hc hr ho := by
    obtain ⟨c1, hc1, hce⟩ := he.client c hc
    have hcl : c1.claim = .pinned ∧ c.claim = .pinned ∨ c1.claim = .none ∨ c1.claim = .claiming := by
      cases hcl : c.claim with
      | none => exact .inr (.inl (hce.none hcl))
      | pinned => exact .inl ⟨hce.pinned hcl, rfl⟩
      | claiming => exact .inr (hce.claiming hcl).symm
      | heldReserved => exact absurd hcl hr
      | heldOccupied => exact absurd hcl ho
    obtain ⟨c2, hc2, hpin, hsend⟩ := h.client c1 hc1 (by rcases hcl with ⟨h, -⟩ | h | h <;> simp [h])
      (by rcases hcl with ⟨h, -⟩ | h | h <;> simp [h])
    refine ⟨c2, hc2, hpin, fun hn => ?_⟩
    have hsends := hsend (by rcases hcl with ⟨-, h⟩ | h | h <;> simp_all)
    rwa [State.Ebbs.sends_congr hs.1 hs.2] at hsends

/-- R67's walk pins the facing lens of an inconsistent report. -/
theorem State.applyInconsistent_pinned {s : State} {site i : Nat} {p : Pos} {me : Party} {l : Lens}
    (hf : s.facingLens site p = some i) (hl : s.lenses[i]? = some l) (hp : l.partyOf site = some me)
    (hno : ∀ d, l.body = .decided d → d.heldBy me = false) :
    ∃ l', (s.applyInconsistent site p).lenses[i]? = some l' ∧ l.Pinned (s.applyInconsistent site p) i me l' := by
  have hother : ∀ j, j ≠ i → ∀ u : State, u.Ebbs (fun j => j = site) (fun _ => False)
      (if s.facingLens site p = some j then u.pinFacing site j else u.lossLens site j) := fun j hj u => by
    rw [if_neg fun h => hj (Option.some.inj (h.symm.trans hf))]
    exact .lossLens u (.inl rfl)
  obtain ⟨u, hu, ht⟩ := Ebbs.foldRange_at (fun j hj => hother j (by omega)) (fun j hj => hother j (by omega))
    (List.getElem?_eq_some_iff.mp hl).1 s
  obtain ⟨l1, hl1, hs, he⟩ := hu.lenses.get hl
  have hno1 : ∀ d, l1.body = .decided d → d.heldBy me = false := fun d1 hd1 => by
    obtain ⟨d, hd, hde⟩ := (he id).decided' hd1
    exact hde.heldBy_other hp (hno d hd)
  rw [if_pos hf] at ht
  obtain ⟨l2, hl2, hpin⟩ := pinFacing_pinned hl1 ((Ebbs.partyOf_congr hs.1 hs.2 _).trans hp) hno1
  obtain ⟨l3, hl3, -, he3⟩ := ht.lenses.get hl2
  exact ⟨l3, hl3, ((hpin.after ht (he3 id)).before (he id) hs hp hno)⟩

end Sys2Proof.Machine
end

section
/-! The loss of a robot and an inconsistent report as whole events (R19, R62, R67), and a good reply taken
(R25, R152, R153). -/

namespace Sys2Proof.Machine

/-! ### Loss conversion in an event that closes -/

/-- What an event does to a site's parts until it closes is what it has done then, where the robots that have given
up have no move left (R62, R96). -/
theorem State.Gone.close_of {E X : Nat → Prop} {s0 u v : State} {site : Nat} {except : Option Nat}
    (hg : u.Gone v site except) (he : u.Ebbs E X v) (hX : ∀ i, X i → except = some i)
    (hE : ∀ j y, E j → v.robots[j]? = some y → y.move = none) : u.LossConverted (s0.close v) site except := by
  obtain ⟨F, hc, hF⟩ := s0.close_ebbs v
  have hc' : v.Ebbs (fun j => E j ∨ F j) X (s0.close v) := hc.mono (fun _ => .inr) fun _ h => h.elim
  refine (hg.after hc' hX).lossConverted ((he.mono (fun _ => .inl) fun _ => id).trans hc') hX fun j y hj hy => ?_
  rcases hj with hj | hj
  · obtain ⟨r, hr, heb⟩ := hc.robots.get' hy
    cases hm' : y.move with
    | none => rfl
    | some m =>
      have := heb.noNew (by simp [hm'])
      simp [hE j r hj hr] at this
  · obtain ⟨-, r', hr', hm'⟩ := hF j hj
    cases hr'.symm.trans hy
    exact hm'

/-- The same for a robot that alone has given up. -/
theorem State.Gone.close {X : Nat → Prop} {s0 u v : State} {site : Nat} {except : Option Nat} {r : Robot}
    (hg : u.Gone v site except) (he : u.Ebbs (fun j => j = site) X v) (hX : ∀ i, X i → except = some i)
    (hr : v.robots[site]? = some r) (hm : r.move = none) : u.LossConverted (s0.close v) site except :=
  hg.close_of he hX fun j y hj hy => by
    subst hj
    cases hr.symm.trans hy
    exact hm

/-- Loss conversion is about the lenses alone. -/
theorem State.LossConverted.congr {s u t : State} {site : Nat} {except : Option Nat}
    (h : u.LossConverted t site except) (hl : u.lenses = s.lenses) : s.LossConverted t site except :=
  fun i l p hi => h i l p (by rwa [hl])

theorem Robot.lostFor_moves (r : Robot) (cause : LostCause) : (r.lostFor cause).state.moves = false := rfl

/-- A robot's loss, and the halt that may be queued with it, as an event (R19, R23, R24). -/
theorem State.lose_close {s0 u v : State} {site : Nat} {r : Robot} (cause : LostCause) (hr : u.robots[site]? = some r)
    (hv : v = { u.lose site cause with buses := v.buses }) :
    (s0.close v).robots[site]? = some (r.lostFor cause) ∧ u.LossConverted (s0.close v) site none := by
  have hl := lose_robot cause hr
  have hvr : v.robots[site]? = some (r.lostFor cause) := by rw [hv]; exact hl
  refine ⟨close_same hvr (r.lostFor_moves cause), ?_⟩
  have he : ({ u with buses := v.buses } : State).Ebbs (fun j => j = site) (fun _ => False) v := by
    have := (Ebbs.lose (E := fun j => j = site) (X := fun _ => False) u cause rfl).withBuses v.buses
    rwa [← hv] at this
  have hg : ({ u with buses := v.buses } : State).Gone v site none := fun i l l' p hi hi' =>
    u.lose_gone site cause i l l' p hi (by rw [hv] at hi'; exact hi')
  exact (hg.close he nofun hvr rfl).congr rfl

/-! ### Inconsistent reports -/

/-- What a robot can be told does not bear on its loss. -/
theorem Robot.Told.lostFor {r r' : Robot} (h : r.Told r') (cause : LostCause) : r'.lostFor cause = r.lostFor cause := by
  have hh : (r'.move.any fun m => m.haltCause != some .restart) = r.move.any fun m => m.haltCause != some .restart := by
    have := congrArg (fun o : Option Move => o.any fun m => m.haltCause != some .restart) h.move
    rw [Option.any_map, Option.any_map] at this
    exact this
  unfold Robot.lostFor
  rw [hh, h.rest]

/-- What an inconsistent report makes of its robot (R67, R19). -/
def Robot.inconsistent (r : Robot) : Robot := { r with fault := some .inconsistent }.lostFor .uncertain

theorem State.inconsistentReport_robot {s : State} {site : Nat} {r : Robot} (p : Pos) (hr : s.robots[site]? = some r) :
    (s.inconsistentReport site p).robots[site]? = some r.inconsistent := by
  have htold : s.Ebbs (fun _ => False) (fun _ => True) (s.applyInconsistent site p) := by
    refine .forLenses (fun t i => ?_) s
    split
    · exact .pinFacing t trivial
    · exact .lossLens t (.inr trivial)
  obtain ⟨r1, hr1, ht⟩ := htold.told hr id
  have hmod : ((s.applyInconsistent site p).modRobot site fun r => { r with fault := some .inconsistent }).robots[site]? =
      some { r1 with fault := some .inconsistent } := by simp [hr1]
  unfold State.inconsistentReport
  rw [lose_robot .uncertain hmod]
  have := ht.lostFor .uncertain
  unfold Robot.inconsistent Robot.lostFor at *
  simp_all

/-- From R67's walk to the end of an inconsistent report. -/
theorem State.inconsistentReport_rest (s : State) (site : Nat) (p : Pos) :
    (s.applyInconsistent site p).Ebbs (fun j => j = site) (fun _ => False) (s.inconsistentReport site p) := by
  unfold State.inconsistentReport
  refine .trans (t := (s.applyInconsistent site p).modRobot site fun r => { r with fault := some .inconsistent })
    (.robot _ fun _ _ => ⟨fun hn => absurd rfl hn, id⟩) (.lose _ _ rfl)

/-- An inconsistent report that the event closes with pins the facing lens and converts the others (R67). -/
theorem State.inconsistentReport_close {s0 u : State} {site : Nat} {p : Pos} {r : Robot}
    (hr : u.robots[site]? = some r) (hno : u.consistent site p = false) :
    (s0.close (u.inconsistentReport site p)).robots[site]? = some r.inconsistent ∧
      u.ReportPinned (s0.close (u.inconsistentReport site p)) site p := by
  have hv := inconsistentReport_robot p hr
  have hrest := u.inconsistentReport_rest site p
  obtain ⟨E, hc, -⟩ := s0.close_ebbs (u.inconsistentReport site p)
  have hlater : (u.applyInconsistent site p).Ebbs (fun _ => True) (fun _ => False)
      (s0.close (u.inconsistentReport site p)) :=
    (hrest.mono (fun _ _ => trivial) fun _ => id).trans (hc.mono (fun _ _ => trivial) fun _ => id)
  refine ⟨close_same hv rfl, fun i l me hf hl hp => ?_, ?_⟩
  · have hheld : l.heldForFacing site = false := by
      simpa [State.consistent, hf, State.lensHas, hl] using hno
    obtain ⟨l1, hl1, hpin⟩ := applyInconsistent_pinned hf hl hp (Lens.heldForFacing_false hheld hp)
    obtain ⟨l2, hl2, -, he⟩ := hlater.lenses.get hl1
    have hall := hpin.after hlater (he id)
    refine ⟨l2, hl2, fun d hd _ => ?_, fun c hc hn ho => hall.client c hc hn ho⟩
    obtain ⟨d', hd', -, hfree, hheld⟩ := hall.decided d hd
    exact ⟨d', hd', hfree, hheld⟩
  · have hwalk : u.Ebbs (fun j => j = site) (fun i => u.facingLens site p = some i) (u.applyInconsistent site p) :=
      .applyInconsistent u p rfl fun _ h => h
    have hrest' : (u.applyInconsistent site p).Ebbs (fun j => j = site) (fun i => u.facingLens site p = some i)
        (u.inconsistentReport site p) := hrest.mono (fun _ => id) fun _ h => h.elim
    exact ((u.applyInconsistent_gone site p).after hrest' fun _ h => h).close (hwalk.trans hrest') (fun _ h => h) hv rfl

/-- What a report does to the lenses is about the lenses and the facing lens alone. -/
theorem State.ReportPinned.congr {s u t : State} {site : Nat} {p : Pos} (h : u.ReportPinned t site p)
    (hl : u.lenses = s.lenses) (hf : u.facingLens site p = s.facingLens site p) : s.ReportPinned t site p := by
  obtain ⟨hpin, hloss⟩ := h
  refine ⟨fun i l me hi hli => hpin i l me (hf.trans hi) (by rwa [hl]), ?_⟩
  rw [← hf]
  exact hloss.congr hl

/-! ### A good reply taken -/

/-- The end of a transaction with a good status reply (R25, R152, R153). -/
def State.replied (s : State) (n site : Nat) (rep : StatusReply) : State :=
  (s.txnEnded n [.goodReplies]).modRobot site fun y => y.reported rep

theorem State.modRobot_modRobot (s : State) (i : Nat) (f g : Robot → Robot) :
    (s.modRobot i f).modRobot i g = s.modRobot i fun r => g (f r) := by
  simp only [State.modRobot, List.modify_modify_eq]
  rfl

theorem State.modBus_modBus (s : State) (n : Nat) (f g : Bus → Bus) :
    (s.modBus n f).modBus n g = s.modBus n fun b => g (f b) := by
  simp only [State.modBus, List.modify_modify_eq]
  rfl

theorem State.modRobot_modBus (s : State) (i n : Nat) (f : Robot → Robot) (g : Bus → Bus) :
    (s.modRobot i f).modBus n g = (s.modBus n g).modRobot i f := rfl

theorem State.statusTaken_endTxn (s : State) (n site : Nat) (rep : StatusReply) :
    (s.statusTaken n site rep).endTxn n = s.replied n site rep := by
  unfold State.statusTaken State.replyTaken State.endTxn State.replied State.txnEnded
  rw [State.modRobot_modRobot, State.modRobot_modBus, State.modBus_modBus]
  simp only [Bus.count_stats]
  rfl

theorem State.replied_robot {s : State} {n site : Nat} {r : Robot} (rep : StatusReply) (hr : s.robots[site]? = some r) :
    (s.replied n site rep).robots[site]? = some (r.reported rep) := by
  simp [State.replied, State.txnEnded, hr]

theorem State.replied_quiet {s : State} {n site : Nat} {rep : StatusReply} (h : s.NoDenialWaits) :
    (s.replied n site rep).NoDenialWaits :=
  NoDenialWaits.modRobot (s := s.txnEnded n [.goodReplies]) h fun r hr => h r (List.mem_of_getElem? hr)

theorem Acts.replied (s : State) (n site : Nat) (rep : StatusReply) : Acts s (s.replied n site rep) := by
  rw [← State.statusTaken_endTxn]
  exact (Acts.statusTaken s n site rep).trans (.endTxn _ n)

end Sys2Proof.Machine
end

section
/-! Keepalive replies (R23, R24). -/

namespace Sys2Proof.Machine

/-! ### What a poll reply comes to -/

/-- A good status reply to a poll, as an event (R153). -/
theorem exec_pollReply {s : State} {n : Nat} {b : Bus} {x : Txn} (rep : StatusReply) (hb : s.buses[n]? = some b)
    (hx : b.txn = some x) (hk : x.kind = .poll) :
    exec (.robotReplyGood n (.status rep)) s = .next (s.close ((s.replied n x.site rep).pollReply x.site rep)) := by
  have hon : s.txnOn n = some x := by simp [State.txnOn, hb, hx]
  change execRobotReplyGood n (.status rep) s = _
  simp only [execRobotReplyGood, hon, State.goodReply, hk, State.statusTaken_endTxn]

theorem Acts.pollEvent (s : State) (n site : Nat) (rep : StatusReply) :
    Acts s (s.close ((s.replied n site rep).pollReply site rep)) :=
  .close ((Acts.replied s n site rep).trans (.pollReply _ site rep))

/-- A robot that is there is there after a chain of changes. -/
theorem Acts.robot_exists {s t : State} (h : Acts s t) {i : Nat} {r : Robot} (hr : s.robots[i]? = some r) :
    ∃ r', t.robots[i]? = some r' :=
  ⟨_, List.getElem?_eq_getElem (h.keeps.robots ▸ (List.getElem?_eq_some_iff.mp hr).1)⟩

/-- A bus that is there is there after a chain of changes. -/
theorem Acts.bus_exists {s t : State} (h : Acts s t) {n : Nat} {b : Bus} (hb : s.buses[n]? = some b) :
    ∃ b', t.buses[n]? = some b' :=
  ⟨_, List.getElem?_eq_getElem (h.keeps.buses ▸ (List.getElem?_eq_some_iff.mp hb).1)⟩

theorem State.busOf_eq {s : State} {site : Nat} {r : Robot} (hr : s.robots[site]? = some r) : s.busOf site = r.bus := by
  simp [State.busOf, hr]

/-- An addressed HALT that is queued waits as the event closes (R155). -/
theorem State.queueHalt_close {s0 w : State} {site n : Nat} {y : Bus} (hbus : w.busOf site = n)
    (hy : w.buses[n]? = some y) :
    ∃ y', (s0.close (w.queueHalt site)).buses[n]? = some y' ∧ site ∈ y'.haltAddressed := by
  have hv : ∃ y1, (w.queueHalt site).buses[n]? = some y1 ∧ site ∈ y1.haltAddressed := by
    refine ⟨_, by rw [State.queueHalt, hbus, State.modBus_buses, List.getElem?_modify_eq, hy]; rfl, ?_⟩
    simp only
    split
    · next h => simpa using h
    · exact List.mem_append_right _ (List.mem_singleton_self _)
  obtain ⟨y1, hy1, hmem⟩ := hv
  obtain ⟨E, hc, -⟩ := s0.close_ebbs (w.queueHalt site)
  obtain ⟨y2, hy2, he⟩ := hc.buses.get hy1
  exact ⟨y2, hy2, by rw [he]; exact hmem⟩

/-! ### The rows of R24 -/

variable {s u : State} {site : Nat} {r : Robot} {rep : StatusReply}

/-- A robot at rest is lost where its counts are not valid, where it moves, and where it is not where it is
believed to be (R24). -/
theorem State.stillReply_loses (h : rep.countsValid = false ∨ rep.motion = .moving ∨ r.believed ≠ some (replyPos rep)) :
    ∃ cause, u.stillReply site r rep = { u.lose site cause with buses := (u.stillReply site r rep).buses } ∧
      (rep.countsValid = false → cause = .power) ∧ (rep.countsValid = true → cause = .uncertain) := by
  unfold State.stillReply
  split
  · next hc => exact ⟨.power, rfl, fun _ => rfl, fun h => by rw [hc] at h; cases h⟩
  · next hc =>
    refine ⟨.uncertain, ?_, fun h => absurd h hc, fun _ => rfl⟩
    split
    · rfl
    · next hm =>
      rw [if_neg (h.resolve_left hc |>.resolve_left hm)]

theorem State.stillReply_moving (hc : rep.countsValid = true) (hm : rep.motion = .moving) :
    u.stillReply site r rep = (u.lose site .uncertain).queueHalt site := by
  simp [State.stillReply, hc, hm]

theorem State.stillReply_same (hc : rep.countsValid = true) (hm : rep.motion ≠ .moving)
    (hp : r.believed = some (replyPos rep)) : u.stillReply site r rep = u := by
  simp [State.stillReply, hc, hm, hp]

/-! ### The rows of R23 -/

theorem State.lostReply_power : u.lostReply site .power rep = u := rfl

theorem State.lostReply_invalid {cause : LostCause} (hcause : cause ≠ .power) (hc : rep.countsValid = false) :
    u.lostReply site cause rep = u.modRobot site fun r => { r with state := .lost .power } := by
  simp [State.lostReply, hcause, hc]

theorem State.lostReply_moving {cause : LostCause} (hcause : cause ≠ .power) (hc : rep.countsValid = true)
    (hm : rep.motion = .moving) : u.lostReply site cause rep =
      (u.modRobot site fun r => { r with state := .lost .uncertain }).queueHalt site := by
  simp [State.lostReply, hcause, hc, hm]

theorem State.lostReply_recovers {cause : LostCause} (hcause : cause ≠ .power) (hc : rep.countsValid = true)
    (hm : rep.motion ≠ .moving) (hp : u.consistent site (replyPos rep) = true) :
    u.lostReply site cause rep = u.recover site rep := by
  simp [State.lostReply, hcause, hc, hm, hp]

theorem State.lostReply_inconsistent {cause : LostCause} (hcause : cause ≠ .power) (hc : rep.countsValid = true)
    (hm : rep.motion ≠ .moving) (hp : u.consistent site (replyPos rep) = false) :
    u.lostReply site cause rep = u.inconsistentReport site (replyPos rep) := by
  simp [State.lostReply, hcause, hc, hm, hp]

theorem satInc_top32 (n : Nat) : satInc Config.top32 n = if n < 4294967295 then n + 1 else n := rfl

/-- A robot that a consistent report recovers (R23). -/
def Robot.recovered (r : Robot) (rep : StatusReply) : Robot :=
  let fault := if r.fault = none ∧ rep.motion = .fault then rep.fault.map FaultCode.ofReply else r.fault
  { r with
    alpha := some rep.alpha, beta := some rep.beta, history := .frozen, fault := fault
    epoch := (if r.epoch < 4294967295 then r.epoch + 1 else r.epoch), converged := false
    state := if fault = none then .idle else .faulted }

theorem Robot.recovered_moves (r : Robot) (rep : StatusReply) : (r.recovered rep).state.moves = false := by
  have h : ∀ f : Option FaultCode, (if f = none then RobotState.idle else .faulted).moves = false := fun f => by
    cases f <;> rfl
  exact h _

/-- A robot in no state of a move recovers as R23 says, and its position counts as changed (R27). -/
theorem State.recover_robot (hr : u.robots[site]? = some r) (hst : r.state.moves = false) :
    (u.recover site rep).robots[site]? = some (r.recovered rep) ∧ (u.recover site rep).posChanged = true := by
  have hne : r.state ≠ .queued ∧ r.state ≠ .waitLens ∧ r.state ≠ .inLeg := by
    refine ⟨?_, ?_, ?_⟩ <;> intro h <;> simp [h, RobotState.moves] at hst
  obtain ⟨r1, hr1, ht⟩ := (Ebbs.applyConsistent (E := fun _ => False) u site (replyPos rep)).told hr id
  rw [ht.same hne.1 hne.2.1 hne.2.2] at hr1
  refine ⟨?_, rfl⟩
  unfold State.recover State.accept
  simp only [State.modRobot_robots, List.getElem?_modify_eq, hr1]
  have hif : ∀ f : Option FaultCode, (if f.isSome = true then RobotState.faulted else .idle) =
      if f = none then .idle else .faulted := fun f => by cases f <;> rfl
  unfold Robot.recovered
  cases hf : r.fault with
  | none => simp [Robot.bumpEpoch, Robot.believe, replyPos, hf, hif, satInc_top32]
  | some f => simp [Robot.bumpEpoch, Robot.believe, replyPos, hf, satInc_top32]

/-! ### The events -/

theorem State.pollReply_still (hr : u.robots[site]? = some r) (h : r.state = .idle ∨ r.state = .faulted) :
    u.pollReply site rep = u.stillReply site r rep := by
  unfold State.pollReply
  rcases h with h | h <;> simp [hr, h]

theorem State.pollReply_lost {cause : LostCause} (hr : u.robots[site]? = some r) (h : r.state = .lost cause) :
    u.pollReply site rep = u.lostReply site cause rep := by
  simp [State.pollReply, hr, h]

theorem State.pollReply_waits (hr : u.robots[site]? = some r)
    (h : r.state = .queued ∨ r.state = .waitLens ∨ r.state = .anchoring ∨ r.state = .lost .power) :
    u.pollReply site rep = u := by
  unfold State.pollReply
  rcases h with h | h | h | h <;> simp [hr, h, State.lostReply_power]

theorem State.close_posChanged (s t : State) : (s.close t).posChanged = t.posChanged := by
  obtain ⟨E, hc, -⟩ := s.close_ebbs t
  have := congrArg State.posChanged hc.frame
  exact this

/-- R24 for a robot whose reply has been taken (R24). -/
theorem State.stillReply_close {n : Nat} (hr : s.robots[site]? = some r) (hq : s.NoDenialWaits)
    (hst : r.state = .idle ∨ r.state = .faulted) :
    let t := s.close ((s.replied n site rep).pollReply site rep)
    ∃ r', t.robots[site]? = some r' ∧
      (rep.countsValid = false ∨ rep.motion = .moving ∨ r.believed ≠ some (replyPos rep) → s.LossConverted t site none) ∧
      (rep.countsValid = false → r'.state = .lost .power ∧ r'.alpha = none ∧ r'.beta = none) ∧
      (rep.countsValid = true → rep.motion = .moving → r'.state = .lost .uncertain ∧ ∀ y, s.buses[r.bus]? = some y →
        ∃ y', t.buses[r.bus]? = some y' ∧ site ∈ y'.haltAddressed) ∧
      (rep.countsValid = true → rep.motion ≠ .moving → r.believed = some (replyPos rep) → t = s.replied n site rep) ∧
      (rep.countsValid = true → rep.motion ≠ .moving → r.believed ≠ some (replyPos rep) →
        r'.state = .lost .uncertain ∧ r'.alpha = none ∧ r'.beta = none) := by
  intro t
  have hur := State.replied_robot (n := n) rep hr
  have ht : t = s.close ((s.replied n site rep).stillReply site (r.reported rep) rep) := by
    rw [← State.pollReply_still hur hst]
  by_cases hlose : rep.countsValid = false ∨ rep.motion = .moving ∨ r.believed ≠ some (replyPos rep)
  · obtain ⟨cause, hv, hpower, huncertain⟩ := State.stillReply_loses (u := s.replied n site rep) (site := site)
      (r := r.reported rep) hlose
    obtain ⟨hrobot, hloss⟩ := State.lose_close (s0 := s) cause hur hv
    rw [← ht] at hrobot hloss
    refine ⟨_, hrobot, fun _ => hloss.congr rfl, fun hc => ⟨by rw [← hpower hc]; rfl, rfl, rfl⟩,
      fun hc hm => ⟨by rw [← huncertain hc]; rfl, fun y hy => ?_⟩, fun hc hm hp => ?_,
      fun hc _ _ => ⟨by rw [← huncertain hc]; rfl, rfl, rfl⟩⟩
    · rw [ht, State.stillReply_moving hc hm]
      obtain ⟨y1, hy1⟩ := ((Acts.replied s n site rep).trans (.lose _ site .uncertain)).bus_exists hy
      have hbus := State.busOf_eq (State.lose_robot .uncertain hur)
      exact State.queueHalt_close hbus hy1
    · rcases hlose with h | h | h
      · rw [hc] at h; cases h
      · exact absurd h hm
      · exact absurd hp h
  · obtain ⟨hc, hm, hp⟩ : rep.countsValid = true ∧ rep.motion ≠ .moving ∧ r.believed = some (replyPos rep) := by
      simpa [not_or] using hlose
    have hsame : t = s.replied n site rep := by
      rw [ht, State.stillReply_same (r := r.reported rep) hc hm hp]
      exact State.close_quiet' (State.replied_quiet hq) rfl
    refine ⟨r.reported rep, by rw [hsame]; exact hur, fun h => absurd h hlose, fun h => ?_, fun _ h => absurd h hm,
      fun _ _ _ => hsame, fun _ _ h => absurd hp h⟩
    rw [hc] at h
    cases h

/-- R23 for a robot whose reply has been taken (R23). -/
theorem State.lostReply_close {n : Nat} {cause : LostCause} (hr : s.robots[site]? = some r) (hq : s.NoDenialWaits)
    (hst : r.state = .lost cause) (hcause : cause ≠ .power) :
    let t := s.close ((s.replied n site rep).pollReply site rep)
    ∃ r', t.robots[site]? = some r' ∧
      (rep.countsValid = false → t = (s.replied n site rep).modRobot site fun y => { y with state := .lost .power }) ∧
      (rep.countsValid = true → rep.motion = .moving → r'.state = .lost .uncertain ∧ ∀ y, s.buses[r.bus]? = some y →
        ∃ y', t.buses[r.bus]? = some y' ∧ site ∈ y'.haltAddressed) ∧
      (rep.countsValid = true → rep.motion ≠ .moving → s.consistent site (replyPos rep) = true →
        r' = (r.reported rep).recovered rep ∧ t.posChanged = true) ∧
      (rep.countsValid = true → rep.motion ≠ .moving → s.consistent site (replyPos rep) = false →
        r' = (r.reported rep).inconsistent ∧ s.ReportPinned t site (replyPos rep)) := by
  intro t
  have hur := State.replied_robot (n := n) rep hr
  have hmv : (r.reported rep).state.moves = false := by
    change r.state.moves = false
    rw [hst]; rfl
  have ht : t = s.close ((s.replied n site rep).lostReply site cause rep) := by
    rw [← State.pollReply_lost (r := r.reported rep) hur hst]
  cases hc : rep.countsValid with
  | false =>
    have hv := State.lostReply_invalid (u := s.replied n site rep) (site := site) hcause hc
    have hsame : t = (s.replied n site rep).modRobot site fun y => { y with state := .lost .power } := by
      rw [ht, hv]
      exact State.close_quiet' ((State.replied_quiet hq).modRobot fun _ _ => rfl) rfl
    exact ⟨_, by rw [hsame, State.modRobot_robots, List.getElem?_modify_eq, hur]; rfl, fun _ => hsame, nofun, nofun, nofun⟩
  | true =>
    by_cases hm : rep.motion = .moving
    · have hv := State.lostReply_moving (u := s.replied n site rep) (site := site) hcause hc hm
      have hw : ((s.replied n site rep).modRobot site fun r => { r with state := .lost .uncertain }).robots[site]? =
          some { r.reported rep with state := .lost .uncertain } := by
        rw [State.modRobot_robots, List.getElem?_modify_eq, hur]; rfl
      refine ⟨{ r.reported rep with state := .lost .uncertain }, ?_, nofun, fun _ _ => ⟨rfl, fun y hy => ?_⟩,
        fun _ h => absurd hm h, fun _ h => absurd hm h⟩
      · rw [ht, hv]
        exact State.close_same hw rfl
      · rw [ht, hv]
        obtain ⟨y1, hy1⟩ := (Acts.replied s n site rep).bus_exists hy
        have hbus := State.busOf_eq hw
        exact State.queueHalt_close hbus hy1
    · cases hcons : s.consistent site (replyPos rep) with
      | true =>
        have hv := State.lostReply_recovers (u := s.replied n site rep) hcause hc hm hcons
        obtain ⟨hrobot, hpos⟩ := State.recover_robot (rep := rep) hur hmv
        refine ⟨_, ?_, nofun, fun _ h => absurd h hm, fun _ _ _ => ⟨rfl, ?_⟩, nofun⟩
        · rw [ht, hv]
          exact State.close_same hrobot (Robot.recovered_moves _ _)
        · rw [ht, hv, State.close_posChanged]
          exact hpos
      | false =>
        have hv := State.lostReply_inconsistent (u := s.replied n site rep) hcause hc hm hcons
        obtain ⟨hrobot, hpin⟩ := State.inconsistentReport_close (s0 := s) (u := s.replied n site rep) hur hcons
        rw [← hv, ← ht] at hrobot hpin
        exact ⟨_, hrobot, nofun, fun _ h => absurd h hm, nofun, fun _ _ _ => ⟨rfl, hpin.congr rfl rfl⟩⟩

end Sys2Proof.Machine

open Sys2Proof Sys2Proof.Machine

/-- Settles O55: the reply is taken, one row of R23 or R24 acts, and the close of the event leaves the robot as that
row left it. -/
theorem keepaliveRepliesTestTheRecord : Obligations.KeepaliveRepliesTestTheRecord := by
  intro s n b x r rep hb hx hk hr hq p told halted
  have hacts := Acts.pollEvent s n x.site rep
  have hexec := exec_pollReply rep hb hx hk
  have htold : ∀ f, told f = (s.replied n x.site rep).modRobot x.site f := fun f => by
    rw [State.replied, State.modRobot_modRobot]
  obtain ⟨r', hr'⟩ := hacts.robot_exists hr
  refine ⟨_, r', hexec, hacts.engine, hr', fun hst => ?_, fun hst => ?_, fun hst => ?_⟩
  · obtain ⟨r1, hr1, hrows⟩ := State.stillReply_close (rep := rep) (n := n) hr hq hst
    cases hr1.symm.trans hr'
    exact hrows
  · have hur := State.replied_robot (n := n) rep hr
    rw [State.pollReply_waits (r := r.reported rep) hur hst]
    exact State.close_quiet' (State.replied_quiet hq) rfl
  · obtain ⟨cause, hcause, hst⟩ : ∃ cause, cause ≠ .power ∧ r.state = .lost cause := by
      rcases hst with h | h
      · exact ⟨.silent, nofun, h⟩
      · exact ⟨.uncertain, nofun, h⟩
    obtain ⟨r1, hr1, hinvalid, hmoving, hgood, hbad⟩ := State.lostReply_close (rep := rep) (n := n) hr hq hst hcause
    cases hr1.symm.trans hr'
    refine ⟨fun hc => (hinvalid hc).trans (htold _).symm, hmoving, fun hc hm hp => ?_, fun hc hm hp => ?_⟩
    · exact hgood hc hm hp
    · obtain ⟨rfl, hpin⟩ := hbad hc hm hp
      exact ⟨rfl, rfl, rfl, hpin⟩
end

section
/-! Attempts that fail (R151 to R154), and the robot-silent event (R152). -/

namespace Sys2Proof.Machine

/-! ### What an event's closing leaves of buses and of the inquiry -/

/-- The transaction and the counters of every bus of `s` are in `t` as they were. -/
def State.SameLines (s t : State) : Prop :=
  ∀ (n : Nat) (b : Bus), s.buses[n]? = some b → ∃ b', t.buses[n]? = some b' ∧ b'.txn = b.txn ∧ b'.stats = b.stats

theorem State.SameLines.trans {s t u : State} (h1 : s.SameLines t) (h2 : t.SameLines u) : s.SameLines u :=
  fun n b hb => by
    obtain ⟨b1, hb1, ht1, hs1⟩ := h1 n b hb
    obtain ⟨b2, hb2, ht2, hs2⟩ := h2 n b1 hb1
    exact ⟨b2, hb2, ht2.trans ht1, hs2.trans hs1⟩

theorem State.Ebbs.sameLines {E X : Nat → Prop} {s t : State} (h : s.Ebbs E X t) : s.SameLines t := fun n b hb => by
  obtain ⟨b', hb', he⟩ := h.buses.get hb
  exact ⟨b', hb', by rw [he], by rw [he]⟩

theorem State.sameLines_close (s t : State) : t.SameLines (s.close t) := by
  obtain ⟨E, hc, -⟩ := s.close_ebbs t
  exact hc.sameLines

theorem State.sameLines_withdraw (s : State) (site : Nat) : s.SameLines (s.withdrawSetCounts site) := fun n b hb => by
  refine ⟨_, by rw [State.withdrawSetCounts, State.modBus_buses, List.getElem?_modify, hb]; rfl, ?_, ?_⟩ <;>
    (simp only; split <;> rfl)

/-- The inquiry stays, and a notice of its end stays latched. -/
def State.SameInquiry (s t : State) : Prop :=
  t.inquiry = s.inquiry ∧ (s.notices.inquiryDone = true → t.notices.inquiryDone = true)

theorem State.Ebbs.sameInquiry {E X : Nat → Prop} {s t : State} (h : s.Ebbs E X t) : s.SameInquiry t := by
  refine ⟨?_, h.inquiryDone⟩
  have := congrArg State.inquiry h.frame
  exact this

theorem State.SameInquiry.trans {s t u : State} (h1 : s.SameInquiry t) (h2 : t.SameInquiry u) : s.SameInquiry u :=
  ⟨h2.1.trans h1.1, h2.2 ∘ h1.2⟩

/-! ### The robot-silent event -/

/-- The robot-silent event, where its robot has given up parts before, as the event closes (R152, R19). -/
theorem State.silentEvent_close {s0 u v : State} {site : Nat} {r : Robot} (hr : v.robots[site]? = some r)
    (he : u.Ebbs (fun j => j = site) (fun _ => False) v) :
    let t := s0.close (v.silentEvent site)
    t.robots[site]? = some (r.lostFor .silent) ∧ u.LossConverted t site none ∧ v.SameLines t ∧ v.SameInquiry t := by
  intro t
  have hw : (v.withdrawSetCounts site).robots[site]? = some r := hr
  have hv := lose_robot .silent hw
  have hlose := Ebbs.lose (E := fun j => j = site) (X := fun _ => False) (v.withdrawSetCounts site) .silent rfl
  have hfirst : ({ u with buses := (v.withdrawSetCounts site).buses } : State).Ebbs (fun j => j = site) (fun _ => False)
      (v.withdrawSetCounts site) := he.withBuses _
  obtain ⟨E, hc, -⟩ := s0.close_ebbs (v.silentEvent site)
  refine ⟨close_same hv rfl, ?_, ?_, ?_⟩
  · have hg := ((v.withdrawSetCounts site).lose_gone site .silent).before hfirst nofun
    exact (hg.close (hfirst.trans hlose) nofun hv rfl).congr rfl
  · exact ((v.sameLines_withdraw site).trans hlose.sameLines).trans hc.sameLines
  · exact ((show v.SameInquiry (v.withdrawSetCounts site) from ⟨rfl, id⟩).trans hlose.sameInquiry).trans hc.sameInquiry

/-! ### Frames of attempts -/

theorem TxnKind.body_isHalt (k : TxnKind) : k.body.isHalt = true ↔ k = .halt := by
  cases k <;> simp [TxnKind.body, BusBody.isHalt]

/-- What a transaction's frame counts (R163). -/
theorem Bus.countFrame_stats (b : Bus) (k : TxnKind) :
    b.countFrame k.body = { b with stats := countedIn (frameObjects k) b.stats } := by
  unfold Bus.countFrame frameObjects
  by_cases h : k = .halt
  · rw [if_pos ((TxnKind.body_isHalt k).mpr h), if_pos h, Bus.count_stats, Bus.count_stats]
    simp only
    rw [countedIn_countedIn (by simp)]
    rfl
  · rw [if_neg fun h' => h ((TxnKind.body_isHalt k).mp h'), if_neg h, Bus.count_stats]

/-- An address is read from a table that the change leaves (R162). -/
theorem State.addressOf_modBus (s : State) (n : Nat) {f : Bus → Bus} (h : ∀ b, (f b).addresses = b.addresses)
    (site : Nat) : (s.modBus n f).addressOf site = s.addressOf site := by
  unfold State.addressOf
  change ((s.buses.modify n f)[s.busOf site]?).bind _ = _
  rw [List.getElem?_modify]
  cases s.buses[s.busOf site]? with
  | none => rfl
  | some b =>
    simp only [Option.map_eq_map, Option.map_some, Option.bind_some]
    split
    · rw [h]
    · rfl

/-- The next attempt, after objects of the attempt that failed are counted (R151, R163). -/
theorem State.retried (s : State) (n : Nat) (x : Txn) (os : List StatObject) {f : Bus → Bus}
    (hf : ∀ y, f y = { y with stats := countedIn os y.stats })
    (hos : ∀ o ∈ os, o ∉ [StatObject.retries, .framesSent, .haltsSent]) :
    (s.modBus n f).retryTxn n x = s.modBus n fun y =>
      { y with
        txn := some { x with attempts := x.attempts + 1 }
        stats := countedIn (os ++ .retries :: frameObjects x.kind) y.stats
        lastFrames := [⟨s.addressOf x.site, x.kind.body⟩] } := by
  unfold State.retryTxn
  rw [State.modBus_modBus, State.addressOf_modBus s n fun b => by rw [hf]]
  refine congrArg (s.modBus n) (funext fun y => ?_)
  have hframes : ∀ o ∈ frameObjects x.kind, o = .framesSent ∨ o = .haltsSent := fun o ho => by
    unfold frameObjects at ho
    split at ho <;> simp_all
  simp only [Bus.send, Bus.countFrame_stats, Bus.count_stats, hf]
  rw [countedIn_countedIn fun o ho h => hos o ho (by simp_all), countedIn_countedIn fun o ho h => ?_]
  · simp
  · rcases List.mem_append.mp ho with h' | h'
    · have := hframes o h
      exact hos o h' (by rcases this with rfl | rfl <;> simp)
    · rw [List.mem_singleton.mp h'] at h
      rcases hframes _ h with h | h <;> cases h

/-! ### A transaction that fails -/

/-- The count of a failed transaction (R152, R163), after these objects of its last attempt. -/
def State.failing (s : State) (n : Nat) (x : Txn) (os : List StatObject) : State :=
  (s.txnEnded n (os ++ [.failedTransactions])).modRobot x.site fun y =>
    { y with failures := satInc Config.failureTop y.failures }

/-- An attempt fails, after these objects are counted (R151, R152, R154). -/
theorem State.attemptFailed_eq (s : State) (n : Nat) (x : Txn) (os : List StatObject) {f : Bus → Bus}
    (hf : ∀ y, f y = { y with stats := countedIn os y.stats })
    (hos : ∀ o ∈ os, o ∉ [StatObject.retries, .framesSent, .haltsSent, .failedTransactions]) :
    (x.limit ≤ x.attempts → (s.modBus n f).attemptFailed n x =
      let v := (s.failing n x os).failedTxnEffect x
      if v.silentDue x.site then v.silentEvent x.site else v) ∧
    (x.attempts < x.limit → (x.kind.isMove = true ∧ (s.mode ≠ .opened ∨ s.robotIs x.site .inLeg = false)) →
      (s.modBus n f).attemptFailed n x = s.txnEnded n os) ∧
    (x.attempts < x.limit → ¬ (x.kind.isMove = true ∧ (s.mode ≠ .opened ∨ s.robotIs x.site .inLeg = false)) →
      (s.modBus n f).attemptFailed n x = s.modBus n fun y =>
        { y with
          txn := some { x with attempts := x.attempts + 1 }
          stats := countedIn (os ++ .retries :: frameObjects x.kind) y.stats
          lastFrames := [⟨s.addressOf x.site, x.kind.body⟩] }) := by
  have hended : (s.modBus n f).endTxn n = s.txnEnded n os := by
    rw [State.endTxn, State.modBus_modBus]
    exact congrArg (s.modBus n) (funext fun y => by rw [hf])
  have hfailing : (((s.modBus n f).endTxn n).modBus n fun b => b.count .failedTransactions) =
      s.txnEnded n (os ++ [.failedTransactions]) := by
    rw [hended, State.txnEnded, State.modBus_modBus]
    refine congrArg (s.modBus n) (funext fun y => ?_)
    rw [Bus.count_stats]
    simp only
    rw [countedIn_countedIn fun o ho h => hos o ho (by simp_all)]
  have hgate : (x.kind.isMove && ((s.modBus n f).mode != .opened || !(s.modBus n f).robotIs x.site .inLeg)) = true ↔
      x.kind.isMove = true ∧ (s.mode ≠ .opened ∨ s.robotIs x.site .inLeg = false) := by
    simp [State.robotIs]
  refine ⟨fun hl => ?_, fun hl hm => ?_, fun hl hm => ?_⟩
  · rw [State.attemptFailed, if_pos hl, State.txnFailed, hfailing]
    rfl
  · rw [State.attemptFailed, if_neg (by omega), if_pos (hgate.mpr hm), hended]
  · rw [State.attemptFailed, if_neg (by omega), if_neg fun h => hm (hgate.mp h)]
    exact s.retried n x os hf fun o ho h => hos o ho (by simp_all)

/-- The robot-silent event is due for a robot that has failed so often (R152). -/
def Robot.silentDue (r : Robot) (limit : Nat) : Prop :=
  limit ≤ r.failures ∧ r.state ≠ .lost .silent ∧ r.state ≠ .offline

theorem State.silentDue_iff {s : State} {site : Nat} {r : Robot} (hr : s.robots[site]? = some r) :
    s.silentDue site = true ↔ r.silentDue s.params.failureLimit := by
  simp [State.silentDue, hr, Robot.silentDue, and_assoc]

/-- What a failed transaction's owner does (R131, R153, R154, R164), by the transaction and the robot. -/
theorem State.failedTxnEffect_cases {s : State} {x : Txn} {r : Robot} (hr : s.robots[x.site]? = some r) :
    (∃ leg tag, x.kind = .move leg tag ∧ r.state = .inLeg ∧ s.failedTxnEffect x = s.lose x.site .uncertain) ∨
    (∃ p, x.kind = .setCounts p ∧ r.state = .anchoring ∧ ¬ r.silentDue s.params.failureLimit ∧
      s.failedTxnEffect x = s.anchorFails x.site) ∨
    (∃ item, x.kind = .inquire item false ∧
      s.failedTxnEffect x = s.inquiryEnds fun site item => .failed site item .noReply) ∨
    ((∀ leg tag, x.kind = .move leg tag → r.state ≠ .inLeg) ∧
      (∀ p, x.kind = .setCounts p → r.state = .anchoring → r.silentDue s.params.failureLimit) ∧
      (∀ item, x.kind ≠ .inquire item false) ∧ s.failedTxnEffect x = s) := by
  have his : ∀ st, s.robotIs x.site st = true ↔ r.state = st := fun st => by simp [State.robotIs, hr]
  unfold State.failedTxnEffect
  cases hk : x.kind with
  | move leg tag =>
    by_cases hst : r.state = .inLeg
    · exact .inl ⟨leg, tag, rfl, hst, if_pos ((his _).mpr hst)⟩
    · exact .inr (.inr (.inr ⟨fun _ _ _ => hst, nofun, nofun, if_neg fun h => hst ((his _).mp h)⟩))
  | poll => exact .inr (.inr (.inr ⟨nofun, nofun, nofun, rfl⟩))
  | halt => exact .inr (.inr (.inr ⟨nofun, nofun, nofun, rfl⟩))
  | setCounts p =>
    have hgate : (s.robotIs x.site .anchoring && !s.silentDue x.site) = true ↔
        r.state = .anchoring ∧ ¬ r.silentDue s.params.failureLimit := by
      rw [Bool.and_eq_true, his, ← silentDue_iff hr]
      simp
    by_cases h : r.state = .anchoring ∧ ¬ r.silentDue s.params.failureLimit
    · exact .inr (.inl ⟨p, rfl, h.1, h.2, if_pos (hgate.mpr h)⟩)
    · exact .inr (.inr (.inr ⟨nofun, fun _ _ hst => Classical.not_not.mp fun hd => h ⟨hst, hd⟩, nofun,
        if_neg fun h' => h (hgate.mp h')⟩))
  | inquire item withdrawn =>
    cases withdrawn with
    | false => exact .inr (.inr (.inl ⟨item, rfl, rfl⟩))
    | true => exact .inr (.inr (.inr ⟨nofun, nofun, nofun, rfl⟩))

/-- What an event in which a transaction fails for the robot `r`, its failure counted, leaves (R152 to R154). -/
structure State.TxnLost (s t : State) (x : Txn) (r : Robot) (limit : Nat) : Prop where
  lines : s.SameLines t
  robot : ∃ r', t.robots[x.site]? = some r' ∧ r'.failures = r.failures ∧ r'.last = r.last ∧
    r'.tagMemory = r.tagMemory ∧
    (r.silentDue limit → r'.state = .lost .silent ∧ r'.alpha = none ∧ r'.beta = none ∧ r'.move = none ∧
      r'.anchor = none ∧ s.LossConverted t x.site none) ∧
    (¬ r.silentDue limit → (∃ leg tag, x.kind = .move leg tag) → r.state = .inLeg →
      r'.state = .lost .uncertain ∧ r'.alpha = none ∧ r'.beta = none ∧ r'.move = none ∧
      s.LossConverted t x.site none) ∧
    (¬ r.silentDue limit → (∃ p, x.kind = .setCounts p) → r.state = .anchoring →
      r' = { r with state := .lost .power, anchor := none })
  quiet : ¬ r.silentDue limit → (∀ leg tag, x.kind = .move leg tag → r.state ≠ .inLeg) →
    (∀ p, x.kind ≠ .setCounts p) → (∀ item, x.kind ≠ .inquire item false) → t = s
  inquiry : ∀ item site k, x.kind = .inquire item false → s.inquiry = .pending site k →
    t.inquiry = .failed site k .noReply ∧ t.notices.inquiryDone = true

/-- What the owner's part leaves where the robot-silent event follows. -/
theorem State.TxnLost.of_silent {s0 s v : State} {x : Txn} {r r1 : Robot} {limit : Nat}
    (hr1 : v.robots[x.site]? = some r1) (he : s.Ebbs (fun j => j = x.site) (fun _ => False) v) (hlines : s.SameLines v)
    (hkeeps : r1.failures = r.failures ∧ r1.last = r.last ∧ r1.tagMemory = r.tagMemory) (hdue : r.silentDue limit)
    (hinq : ∀ item, x.kind ≠ .inquire item false) : s.TxnLost (s0.close (v.silentEvent x.site)) x r limit := by
  obtain ⟨hrobot, hloss, hl, -⟩ := silentEvent_close (s0 := s0) hr1 he
  obtain ⟨hf, hlast, htag⟩ := hkeeps
  exact ⟨hlines.trans hl, ⟨_, hrobot, hf, hlast, htag, fun _ => ⟨rfl, rfl, rfl, rfl, rfl, hloss⟩,
    fun h => absurd hdue h, fun h => absurd hdue h⟩, fun h => absurd hdue h, fun item _ _ h => absurd h (hinq item)⟩

theorem State.inquiryEnds_pending {s : State} {site k : Nat} (slot : Nat → Nat → Inquiry)
    (h : s.inquiry = .pending site k) :
    s.inquiryEnds slot = { s with inquiry := slot site k, notices := { s.notices with inquiryDone := true } } := by
  simp [State.inquiryEnds, h, State.latchInquiryDone]

/-- The end of an inquiry touches the inquiry and its notice alone. -/
theorem State.inquiryEnds_frame (s : State) (slot : Nat → Nat → Inquiry) :
    ∃ i k, s.inquiryEnds slot = { s with inquiry := i, notices := k } := by
  unfold State.inquiryEnds
  split
  · exact ⟨_, _, rfl⟩
  all_goals exact ⟨_, _, rfl⟩

/-- An inquiry that a failed transaction ends (R164), as the event goes on. -/
theorem State.txnLost_inquiry {s0 s : State} {x : Txn} {r : Robot} {item : Nat} (hr : s.robots[x.site]? = some r)
    (hq : s.NoDenialWaits) (ho : s.outcomes = s0.outcomes) (hk : x.kind = .inquire item false) :
    let v := s.inquiryEnds fun site item => .failed site item .noReply
    s.TxnLost (s0.close (if v.silentDue x.site then v.silentEvent x.site else v)) x r s.params.failureLimit := by
  intro v
  obtain ⟨i, k, hv⟩ := s.inquiryEnds_frame fun site item => .failed site item .noReply
  have hv : v = { s with inquiry := i, notices := k } := hv
  have hvr : v.robots[x.site]? = some r := by rw [hv]; exact hr
  have hlines : s.SameLines v := fun n b hb => ⟨b, by rw [hv]; exact hb, rfl, rfl⟩
  have hdue : v.silentDue x.site = true ↔ r.silentDue s.params.failureLimit := by
    rw [silentDue_iff hvr, hv]
  have hinq : ∀ site k, s.inquiry = .pending site k →
      v.inquiry = .failed site k .noReply ∧ v.notices.inquiryDone = true := fun site k hp => by
    have := inquiryEnds_pending (fun site item => .failed site item .noReply) hp
    exact ⟨by rw [show v = _ from this], by rw [show v = _ from this]⟩
  by_cases hd : r.silentDue s.params.failureLimit
  · rw [if_pos (hdue.mpr hd)]
    obtain ⟨hrobot, hloss, hl, hsame, hnotice⟩ := silentEvent_close (s0 := s0) hvr (.refl v)
    refine ⟨hlines.trans hl, ⟨_, hrobot, rfl, rfl, rfl, fun _ => ⟨rfl, rfl, rfl, rfl, rfl, hloss.congr (by rw [hv])⟩,
      fun h => absurd hd h, fun h => absurd hd h⟩, fun h => absurd hd h, fun _ site k _ hp => ?_⟩
    obtain ⟨h1, h2⟩ := hinq site k hp
    exact ⟨hsame.trans h1, hnotice h2⟩
  · rw [if_neg fun h => hd (hdue.mp h)]
    have hclose : s0.close v = v := close_quiet' (by rw [hv]; exact hq) (by rw [hv]; exact ho)
    rw [hclose]
    refine ⟨hlines, ⟨r, hvr, rfl, rfl, rfl, fun h => absurd h hd, fun _ ⟨leg, tag, h⟩ => ?_, fun _ ⟨p, h⟩ => ?_⟩,
      fun _ _ _ h => absurd hk (h item), fun _ site k _ hp => hinq site k hp⟩
    · rw [hk] at h; cases h
    · rw [hk] at h; cases h

/-- A transaction that fails, its failure counted, as an event (R131, R152 to R154, R164). -/
theorem State.txnLost {s0 s : State} {x : Txn} {r : Robot} (hr : s.robots[x.site]? = some r) (hq : s.NoDenialWaits)
    (ho : s.outcomes = s0.outcomes) :
    let v := s.failedTxnEffect x
    s.TxnLost (s0.close (if v.silentDue x.site then v.silentEvent x.site else v)) x r s.params.failureLimit := by
  intro v
  rcases failedTxnEffect_cases hr with ⟨leg, tag, hk, hst, hv⟩ | ⟨p, hk, hst, hnd, hv⟩ | ⟨item, hk, hv⟩ | ⟨hm, hs, hi, hv⟩
  · have hv : v = s.lose x.site .uncertain := hv
    have hvr : v.robots[x.site]? = some (r.lostFor .uncertain) := by rw [hv]; exact lose_robot .uncertain hr
    have hlose : s.Ebbs (fun j => j = x.site) (fun _ => False) v := by rw [hv]; exact .lose s _ rfl
    have hdue : v.silentDue x.site = true ↔ r.silentDue s.params.failureLimit := by
      rw [silentDue_iff hvr, hv, (Acts.lose s x.site .uncertain).keeps.params]
      simp [Robot.silentDue, Robot.lostFor, hst]
    by_cases hd : r.silentDue s.params.failureLimit
    · rw [if_pos (hdue.mpr hd)]
      exact .of_silent hvr hlose hlose.sameLines ⟨rfl, rfl, rfl⟩ hd fun _ h => nomatch hk.symm.trans h
    · rw [if_neg fun h => hd (hdue.mp h)]
      obtain ⟨hrobot, hloss⟩ := lose_close (s0 := s0) (v := v) .uncertain hr (by rw [hv])
      exact ⟨hlose.sameLines.trans (sameLines_close s0 v), ⟨_, hrobot, rfl, rfl, rfl, fun h => absurd h hd,
        fun _ _ _ => ⟨rfl, rfl, rfl, rfl, hloss⟩, fun _ _ h => nomatch hst.symm.trans h⟩,
        fun _ h => absurd hst (h leg tag hk), fun _ _ _ h => nomatch hk.symm.trans h⟩
  · have hv : v = s.anchorFails x.site := hv
    have hvr : v.robots[x.site]? = some { r with state := .lost .power, anchor := none } := by
      rw [hv, State.anchorFails, State.modRobot_robots, List.getElem?_modify_eq, hr]; rfl
    have hdue : ¬ v.silentDue x.site = true := fun h => hnd (by
      have := (silentDue_iff hvr).mp h
      rw [hv] at this
      exact ⟨this.1, by simp [hst], by simp [hst]⟩)
    have hclose : s0.close v = v := by
      rw [hv]
      exact close_quiet' (hq.modRobot fun _ _ => rfl) ho
    rw [if_neg hdue, hclose]
    refine ⟨fun n b hb => ⟨b, by rw [hv]; exact hb, rfl, rfl⟩, ⟨_, hvr, rfl, rfl, rfl, fun h => absurd h hnd,
      fun _ _ h => (nomatch hst.symm.trans h), fun _ _ _ => rfl⟩, fun _ _ h => absurd hk (h p), fun _ _ _ h => ?_⟩
    exact nomatch hk.symm.trans h
  · have hv : v = s.inquiryEnds fun site item => .failed site item .noReply := hv
    rw [hv]
    exact txnLost_inquiry hr hq ho hk
  · have hv : v = s := hv
    rw [hv]
    by_cases hd : r.silentDue s.params.failureLimit
    · rw [if_pos ((silentDue_iff hr).mpr hd)]
      exact .of_silent hr (.refl s) (fun n b hb => ⟨b, hb, rfl, rfl⟩) ⟨rfl, rfl, rfl⟩ hd hi
    · rw [if_neg fun h => hd ((silentDue_iff hr).mp h), close_quiet' hq ho]
      exact ⟨fun n b hb => ⟨b, hb, rfl, rfl⟩, ⟨r, hr, rfl, rfl, rfl, fun h => absurd h hd,
        fun _ ⟨leg, tag, h⟩ hst => absurd hst (hm leg tag h), fun _ ⟨p, h⟩ hst => absurd (hs p h hst) hd⟩,
        fun _ _ _ _ => rfl, fun item _ _ h => absurd h (hi item)⟩

end Sys2Proof.Machine
end

section
/-! Attempts whose reply is missing or damaged (R150, R151, R163). -/

namespace Sys2Proof.Machine

/-- The two ways in which an attempt fails with no good reply, with what they count (R150, R151, R163). -/
theorem exec_noReply {s : State} {n : Nat} {b : Bus} {x : Txn} {c : Instr} {o : StatObject}
    (hb : s.buses[n]? = some b) (hx : b.txn = some x)
    (hc : (c, o) ∈ [(.robotReplyMissing n, .replyTimeouts), (.robotReplyCheckError n, StatObject.checkErrors)]) :
    exec c s = .next (s.close ((s.modBus n fun b => b.count o).attemptFailed n x)) ∧
      o ∉ [StatObject.retries, .framesSent, .haltsSent, .failedTransactions] := by
  have hon : s.txnOn n = some x := by simp [State.txnOn, hb, hx]
  simp only [List.mem_cons, Prod.mk.injEq, List.not_mem_nil, or_false] at hc
  rcases hc with ⟨rfl, rfl⟩ | ⟨rfl, rfl⟩
  · refine ⟨?_, by simp⟩
    change execRobotReplyMissing n s = _
    simp only [execRobotReplyMissing, hon]
  · refine ⟨?_, by simp⟩
    change execRobotReplyCheckError n s = _
    simp only [execRobotReplyCheckError, hon, State.checkError]

theorem TxnKind.isMove_iff (k : TxnKind) : k.isMove = true ↔ ∃ leg tag, k = .move leg tag := by
  cases k <;> simp [TxnKind.isMove]

theorem Acts.noReply (s : State) (n : Nat) (x : Txn) (o : StatObject) :
    Acts s (s.close ((s.modBus n fun b => b.count o).attemptFailed n x)) :=
  .close ((Acts.bus s n _ fun _ h => Acts.count_shaped o h).trans (.attemptFailed _ n x))

/-- A transaction that goes on has its robot in its leg and the mode OPEN (R151, R154). -/
theorem State.moveStops_iff {s : State} {x : Txn} {r : Robot} (hr : s.robots[x.site]? = some r) :
    (x.kind.isMove = true ∧ (s.mode ≠ .opened ∨ s.robotIs x.site .inLeg = false)) ↔
      (∃ leg tag, x.kind = .move leg tag) ∧ ¬ (s.mode = .opened ∧ r.state = .inLeg) := by
  rw [TxnKind.isMove_iff]
  simp only [State.robotIs, hr, Option.any_some, beq_eq_false_iff_ne]
  tauto

theorem State.failing_robot {s : State} {n : Nat} {x : Txn} {r : Robot} (os : List StatObject)
    (hr : s.robots[x.site]? = some r) : (s.failing n x os).robots[x.site]? =
      some { r with failures := satInc Config.failureTop r.failures } := by
  simp [State.failing, State.txnEnded, hr]

theorem State.failing_quiet {s : State} (n : Nat) (x : Txn) (os : List StatObject) (hq : s.NoDenialWaits) :
    (s.failing n x os).NoDenialWaits :=
  NoDenialWaits.modRobot (s := s.txnEnded n (os ++ [.failedTransactions])) hq fun r hr =>
    hq r (List.mem_of_getElem? hr)

/-- Two changes of a robot that agree on its record. -/
theorem State.modRobot_congr {s : State} {i : Nat} {r : Robot} {f g : Robot → Robot} (hr : s.robots[i]? = some r)
    (h : f r = g r) : s.modRobot i f = s.modRobot i g := by
  have hl : s.robots.modify i f = s.robots.modify i g := by
    refine List.ext_getElem? fun j => ?_
    rw [List.getElem?_modify, List.getElem?_modify]
    by_cases hij : i = j
    · subst hij
      simp [hr, h]
    · simp [hij]
  simp only [State.modRobot, hl]

/-- An event that changes a bus alone closes as it stands. -/
theorem State.NoDenialWaits.close_modBus {s0 s : State} (h : s.NoDenialWaits) (ho : s.outcomes = s0.outcomes) (n : Nat)
    (f : Bus → Bus) : s0.close (s.modBus n f) = s.modBus n f := close_quiet' (s := s0) (t := s.modBus n f) h ho

/-- The bus of a transaction that fails. -/
theorem State.failing_bus {s : State} {n : Nat} {b : Bus} (x : Txn) (os : List StatObject) (hb : s.buses[n]? = some b) :
    (s.failing n x os).buses[n]? = some { b with txn := none, stats := countedIn (os ++ [.failedTransactions]) b.stats } := by
  simp [State.failing, State.txnEnded, hb]

end Sys2Proof.Machine

open Sys2Proof Sys2Proof.Machine

/-- Settles O51: the attempt's object is counted; then the next attempt, the dropped MOVE, or the failed transaction's
owner acts, and the event closes. -/
theorem failedAttemptsAreRetriedThenFail : Obligations.FailedAttemptsAreRetriedThenFail := by
  intro s n b x r c o hb hx hr hq hc isMove goesOn
  obtain ⟨hexec, ho⟩ := exec_noReply hb hx hc
  obtain ⟨hlimit, hdrop, hretry⟩ := s.attemptFailed_eq n x [o] (f := fun b => b.count o) (fun y => Bus.count_stats y o)
    (by simpa using ho)
  have hstops := State.moveStops_iff hr
  refine ⟨fun hl hgo => ?_, fun hl hm hno => ?_, fun hl => ?_⟩
  · rw [hexec, hretry hl fun h => ?_, hq.close_modBus rfl]
    · rfl
    · obtain ⟨hm, hno⟩ := hstops.mp h
      exact hgo.elim (fun h => h hm) hno
  · rw [hexec, hdrop hl (hstops.mpr ⟨hm, hno⟩), State.txnEnded, hq.close_modBus rfl]
  · intro failures silent
    have hlost := State.txnLost (s0 := s) (State.failing_robot (n := n) [o] hr) (s.failing_quiet n x [o] hq) rfl
    rw [hlimit hl] at hexec
    have hengine := (Acts.noReply s n x o).engine
    rw [hlimit hl] at hengine
    obtain ⟨hlines, ⟨r', hr', hf, -, -, hsilent, hmove, hset⟩, hquiet, hinq⟩ := hlost
    obtain ⟨b', hb', htxn, hstats⟩ := hlines n _ (State.failing_bus x [o] hb)
    refine ⟨_, b', r', hexec, hengine, hb', htxn, hstats, hr', hf, fun h => ?_, fun h hm hst => ?_, fun h hs hst => ?_,
      fun h hk => ?_, hinq⟩
    · obtain ⟨h1, h2, h3, h4, h5, h6⟩ := hsilent h
      exact ⟨h1, h2, h3, h4, h5, h6.congr rfl⟩
    · obtain ⟨h1, h2, h3, h4, h5⟩ := hmove h hm hst
      exact ⟨h1, h2, h3, h4, h5.congr rfl⟩
    · exact hset h hs hst
    · refine (hquiet h (fun leg tag h => ?_) (fun p h => ?_) (fun item h => ?_)).trans
        (State.modRobot_congr (s := s.txnEnded n [o, .failedTransactions]) hr rfl)
      all_goals rw [h] at hk; rcases hk with hk | hk <;> cases hk
end

section
/-! Good replies by kind of transaction (R130, R131, R151 to R154, R164). -/

namespace Sys2Proof.Machine

/-! ### A good reply as an event -/

theorem exec_goodReply {s : State} {n : Nat} {b : Bus} {x : Txn} (reply : BusReply) (hb : s.buses[n]? = some b)
    (hx : b.txn = some x) : exec (.robotReplyGood n reply) s = .next (s.close (s.goodReply n x reply)) := by
  have hon : s.txnOn n = some x := by simp [State.txnOn, hb, hx]
  change execRobotReplyGood n reply s = _
  simp only [execRobotReplyGood, hon]

theorem Acts.goodReplyEvent (s : State) (n : Nat) (x : Txn) (reply : BusReply) :
    Acts s (s.close (s.goodReply n x reply)) := .close (.goodReply s n x reply)

/-- A status reply taken while its transaction stays on the line (R25, R152, R163). -/
theorem State.statusTaken_eq (s : State) (n site : Nat) (rep : StatusReply) :
    s.statusTaken n site rep =
      (s.modRobot site fun y => y.reported rep).modBus n fun b => b.count .goodReplies := by
  unfold State.statusTaken State.replyTaken
  rw [State.modRobot_modRobot]
  rfl

/-- A reply that is no status report, taken (R152, R163). -/
theorem State.replyTaken_endTxn (s : State) (n site : Nat) :
    (s.replyTaken n site).endTxn n = (s.txnEnded n [.goodReplies]).modRobot site fun y => { y with failures := 0 } := by
  unfold State.replyTaken State.endTxn State.txnEnded
  rw [State.modRobot_modBus, State.modBus_modBus]
  simp only [Bus.count_stats]

/-- An address is read from a robot's bus, which a report leaves (R162). -/
theorem State.addressOf_reported (s : State) (i : Nat) (rep : StatusReply) (site : Nat) :
    (s.modRobot i fun y => y.reported rep).addressOf site = s.addressOf site := by
  have hbus : (s.modRobot i fun y => y.reported rep).busOf site = s.busOf site := by
    unfold State.busOf
    rw [State.modRobot_robots, List.getElem?_modify]
    cases s.robots[site]? with
    | none => rfl
    | some r => by_cases h : i = site <;> simp [h, Robot.reported]
  unfold State.addressOf
  rw [hbus]
  rfl

theorem State.NoDenialWaits.reported {s : State} (h : s.NoDenialWaits) (i : Nat) (rep : StatusReply) :
    (s.modRobot i fun y => y.reported rep).NoDenialWaits := h.modRobot fun r hr => h r (List.mem_of_getElem? hr)

/-- A transaction that ends with a change of its robot, in which no denial waits, closes as it stands. -/
theorem State.NoDenialWaits.close_ended {s : State} (hq : s.NoDenialWaits) {n site : Nat} {os : List StatObject}
    {f : Robot → Robot} (hf : ∀ r, s.robots[site]? = some r → (f r).deniedAtRest = none) :
    s.close ((s.txnEnded n os).modRobot site f) = (s.txnEnded n os).modRobot site f :=
  close_quiet' (s := s) (NoDenialWaits.modRobot (s := s.txnEnded n os) hq hf) rfl

variable {s : State} {n : Nat} {x : Txn} {r : Robot} {rep : StatusReply}

/-! ### Replies to a MOVE (R153, R154) -/

theorem State.goodReply_move {leg : Leg} {tag : Nat} (hk : x.kind = .move leg tag) :
    s.goodReply n x (.status rep) =
      if rep.tag = tag then (s.replied n x.site rep).acceptLeg x.site
      else ((s.modRobot x.site fun y => y.reported rep).modBus n fun b => b.count .goodReplies).attemptFailed n x := by
  simp only [State.goodReply, hk, State.statusTaken_endTxn]
  rw [State.statusTaken_eq]

/-- A leg that is accepted (R154). -/
theorem State.acceptLeg_close {leg : Leg} {tag : Nat} {m : Move} (hr : s.robots[x.site]? = some r)
    (hq : s.NoDenialWaits) (hk : x.kind = .move leg tag) (htag : rep.tag = tag)
    (hst : r.state = .inLeg ∨ r.state = .halting) (hm : r.move = some m) :
    s.close (s.goodReply n x (.status rep)) = (s.txnEnded n [.goodReplies]).modRobot x.site fun y =>
      { y.reported rep with
        pollTime := some s.now
        move := some { m with dispatch := some s.now, legLimit := s.params.legTimeLimit } } := by
  have hst' : (r.reported rep).state = .inLeg ∨ (r.reported rep).state = .halting := hst
  have hrest : (r.reported rep).deniedAtRest = none := by
    unfold Robot.deniedAtRest
    rcases hst' with h | h <;> simp [h]
  have heq : (s.replied n x.site rep).acceptLeg x.site = (s.txnEnded n [.goodReplies]).modRobot x.site fun y =>
      { y.reported rep with
        pollTime := some s.now
        move := some { m with dispatch := some s.now, legLimit := s.params.legTimeLimit } } := by
    unfold State.acceptLeg State.replied
    rw [State.modRobot_modRobot]
    refine State.modRobot_congr (s := s.txnEnded n [.goodReplies]) hr ?_
    rw [if_pos hst']
    simp only [Robot.reported, hm, Option.map_some]
    rfl
  rw [State.goodReply_move hk, if_pos htag, heq]
  refine hq.close_ended fun y hy => ?_
  cases hr.symm.trans hy
  unfold Robot.deniedAtRest
  rcases hst with h | h <;> simp [Robot.reported, h]

/-! ### Replies to a SET_COUNTS (R130, R131) -/

theorem State.setCountsReply_fails {u : State} {site : Nat} {y : Robot} {p : Pos} (hy : u.robots[site]? = some y)
    (hst : y.state = .anchoring) (hp : y.anchor = some p) (h : ¬ (rep.countsValid = true ∧ replyPos rep = p)) :
    u.setCountsReply site rep = u.anchorFails site := by
  simp only [State.setCountsReply, hy, hst, hp, if_true, h, if_false]

theorem State.setCountsReply_right {u : State} {site : Nat} {y : Robot} {p : Pos} (hy : u.robots[site]? = some y)
    (hst : y.state = .anchoring) (hp : y.anchor = some p) (h : rep.countsValid = true ∧ replyPos rep = p) :
    u.setCountsReply site rep = u.anchorAccepted site p := by
  simp only [State.setCountsReply, hy, hst, hp, if_true, h, and_self]

/-- The record of a robot whose re-anchor is accepted (R130). -/
def Robot.anchored (r : Robot) (p : Pos) : Robot :=
  { r with
    alpha := some p.alpha, beta := some p.beta, history := .frozen, anchor := none
    epoch := (if r.epoch < 4294967295 then r.epoch + 1 else r.epoch), converged := false
    state := if r.fault = none then .idle else .faulted }

theorem Robot.anchored_moves (r : Robot) (p : Pos) : (r.anchored p).state.moves = false := by
  unfold Robot.anchored
  cases r.fault <;> rfl

theorem State.anchorAccepted_robot {u : State} {site : Nat} {y : Robot} {p : Pos} (hy : u.robots[site]? = some y)
    (hst : y.state = .anchoring) (hc : u.consistent site p = true) :
    (u.anchorAccepted site p).robots[site]? = some (y.anchored p) ∧ (u.anchorAccepted site p).posChanged = true := by
  obtain ⟨r1, hr1, ht⟩ := (Ebbs.applyConsistent (E := fun _ => False) u site p).told hy id
  rw [ht.same (by simp [hst]) (by simp [hst]) (by simp [hst])] at hr1
  unfold State.anchorAccepted
  rw [if_pos hc]
  refine ⟨?_, rfl⟩
  unfold State.accept
  simp only [State.modRobot_robots, List.getElem?_modify_eq, hr1]
  unfold Robot.anchored
  cases hf : y.fault <;> simp [Robot.bumpEpoch, Robot.believe, hf, satInc_top32]

/-- A re-anchor whose counts are right, where the lenses do not agree (R67, R130). -/
theorem State.anchorAccepted_not {u : State} {site : Nat} {p : Pos} (hc : u.consistent site p = false) :
    u.anchorAccepted site p = u.inconsistentReport site p := by
  unfold State.anchorAccepted
  rw [if_neg (by simp [hc])]

/-- An inconsistent report changes no position (R27). -/
theorem State.inconsistentReport_posChanged (u : State) (site : Nat) (p : Pos) :
    (u.inconsistentReport site p).posChanged = u.posChanged := by
  have h1 := congrArg State.posChanged (Ebbs.applyInconsistent (E := fun j => j = site) (X := fun _ => True) u p rfl
    fun _ _ => trivial).frame
  have h2 := congrArg State.posChanged (u.inconsistentReport_rest site p).frame
  exact h2.trans h1

end Sys2Proof.Machine

open Sys2Proof Sys2Proof.Machine

/-- Settles O52: the reply is taken, its transaction's kind says what it comes to, and the event closes. -/
theorem goodRepliesEndTheirTransactions : Obligations.GoodRepliesEndTheirTransactions := by
  intro s n b x r rep hb hx hr hq ended answer
  have hanswer : answer = .next (s.close (s.goodReply n x (.status rep))) := exec_goodReply _ hb hx
  have hreported : (s.modRobot x.site fun y => y.reported rep).robots[x.site]? = some (r.reported rep) := by simp [hr]
  have hq1 := hq.reported x.site rep
  have hur := State.replied_robot (n := n) rep hr
  obtain ⟨hlimit, hdrop, hretry⟩ := (s.modRobot x.site fun y => y.reported rep).attemptFailed_eq n x [.goodReplies]
    (f := fun b => b.count .goodReplies) (fun y => Bus.count_stats y _) (by simp)
  have hstops := State.moveStops_iff hreported
  have hclose : ∀ f, s.close ((s.modRobot x.site fun y => y.reported rep).modBus n f) = _ := fun f =>
    hq1.close_modBus (s0 := s) rfl n f
  have hzero : ∀ y, s.robots[x.site]? = some y → ({ y with failures := 0 } : Robot).deniedAtRest = none :=
    fun y hy => hq y (List.mem_of_getElem? hy)
  have hset : ∀ q, x.kind = .setCounts q →
      s.goodReply n x (.status rep) = (s.replied n x.site rep).setCountsReply x.site rep := fun q hk => by
    simp only [State.goodReply, hk, State.statusTaken_endTxn]
  refine ⟨fun leg tag m hk htag hst hm => ?_, fun leg tag hk htag hl hmode hst => ?_, fun leg tag hk htag hl hgo => ?_,
    fun leg tag hk htag hl => ?_, fun hk => ?_, fun item withdrawn number value hk => ⟨fun hw => ?_, fun site k hw hp => ?_⟩,
    fun p q hk hst hp => ⟨fun hbad => ?_, fun hv ha hbeta hc => ?_, fun hv ha hbeta hc => ?_⟩⟩
  · rw [hanswer, State.acceptLeg_close hr hq hk htag hst hm]
  · rw [hanswer, State.goodReply_move hk, if_neg htag, hretry hl fun h => (hstops.mp h).2 ⟨hmode, hst⟩,
      hclose, State.addressOf_reported, hk]
    rfl
  · rw [hanswer, State.goodReply_move hk, if_neg htag, hdrop hl (hstops.mpr ⟨⟨leg, tag, hk⟩, fun h => ?_⟩),
      State.txnEnded, hclose]
    · rfl
    · exact hgo.elim (fun h' => h' h.1) fun h' => h' h.2
  · intro silent
    have hlost := State.txnLost (s0 := s) (State.failing_robot (n := n) [.goodReplies] hreported)
      (State.failing_quiet n x [.goodReplies] hq1) rfl
    have hengine := (Acts.goodReplyEvent s n x (.status rep)).engine
    rw [State.goodReply_move hk, if_neg htag, hlimit hl] at hanswer hengine
    obtain ⟨hlines, ⟨r', hr', hf, hlast, htagm, hsilent, hmove, -⟩, hquiet, -⟩ := hlost
    obtain ⟨b', hb', htxn, hstats⟩ := hlines n _ (State.failing_bus (s := s.modRobot x.site _) x [.goodReplies] hb)
    refine ⟨_, r', b', hanswer, hengine, hr', hb', htxn, hstats, hlast, htagm, hf, fun h => ?_, fun h hst => ?_⟩
    · by_cases hd : silent
      · obtain ⟨h1, h2, h3, h4, -, h6⟩ := hsilent hd
        rw [if_pos hd.1]
        exact ⟨h1, h2, h3, h4, h6.congr rfl⟩
      · have hst := h.resolve_left hd
        obtain ⟨h1, h2, h3, h4, h5⟩ := hmove hd ⟨leg, tag, hk⟩ hst
        rw [if_neg fun hl => hd ⟨hl, by simp [hst], by simp [hst]⟩]
        exact ⟨h1, h2, h3, h4, h5.congr rfl⟩
    · refine (hquiet h (fun _ _ _ => hst) (fun p h => ?_) fun item h => ?_).trans ?_
      · exact nomatch hk.symm.trans h
      · exact nomatch hk.symm.trans h
      · exact (State.modRobot_modRobot (s.txnEnded n [.goodReplies, .failedTransactions]) x.site _ _)
  · rw [exec_goodReply _ hb hx]
    have heq : s.goodReply n x .acknowledge = ended fun y => { y with failures := 0 } := by
      simp only [State.goodReply, hk, State.replyTaken_endTxn]
      rfl
    rw [heq, hq.close_ended hzero]
  · rw [exec_goodReply _ hb hx]
    have heq : s.goodReply n x (.item number value) = ended fun y => { y with failures := 0 } := by
      simp only [State.goodReply, hk, hw, State.replyTaken_endTxn, if_true]
      rfl
    rw [heq, hq.close_ended hzero]
  · rw [exec_goodReply _ hb hx]
    have hpend : (ended fun y => { y with failures := 0 }).inquiry = .pending site k := hp
    have heq : s.goodReply n x (.item number value) = { ended fun y => { y with failures := 0 } with
        inquiry := itemResult value site k, notices := { s.notices with inquiryDone := true } } := by
      simp only [State.goodReply, hk, hw, State.replyTaken_endTxn, Bool.false_eq_true, if_false]
      exact State.inquiryEnds_pending (itemResult value) hpend
    rw [heq]
    refine Eq.trans (congrArg Host.Outcome.next (State.close_quiet' ?_ ?_)) ?_
    · exact State.NoDenialWaits.modRobot (s := s.txnEnded n [.goodReplies]) hq hzero
    · rfl
    · cases value <;> rfl
  · rw [hanswer, hset q hk, State.setCountsReply_fails hur hst hp fun h => ?_, State.anchorFails, State.replied,
      State.modRobot_modRobot, hq.close_ended fun _ _ => rfl]
    · obtain ⟨h1, h2⟩ := h
      rcases hbad with h | h | h
      · rw [h1] at h; cases h
      · exact h (by rw [← h2]; rfl)
      · exact h (by rw [← h2]; rfl)
  · have hpos : replyPos rep = p := by
      rw [replyPos, ha, hbeta]
    obtain ⟨hrobot, hchanged⟩ := State.anchorAccepted_robot (u := s.replied n x.site rep) hur hst hc
    have hengine := (Acts.goodReplyEvent s n x (.status rep)).engine
    rw [hset q hk, State.setCountsReply_right hur hst hp ⟨hv, hpos⟩] at hanswer hengine
    exact ⟨_, _, hanswer, hengine, State.close_same hrobot (Robot.anchored_moves _ _), rfl,
      (State.close_posChanged _ _).trans hchanged⟩
  · have hpos : replyPos rep = p := by
      rw [replyPos, ha, hbeta]
    have hengine := (Acts.goodReplyEvent s n x (.status rep)).engine
    rw [hset q hk, State.setCountsReply_right hur hst hp ⟨hv, hpos⟩,
      State.anchorAccepted_not (u := s.replied n x.site rep) hc] at hanswer hengine
    obtain ⟨hrobot, hpin⟩ := State.inconsistentReport_close (s0 := s) (u := s.replied n x.site rep) hur hc
    exact ⟨_, _, hanswer, hengine, hrobot, rfl, rfl, rfl, rfl, rfl, rfl, rfl, rfl, rfl,
      (State.close_posChanged _ _).trans (State.inconsistentReport_posChanged _ _ _), hpin.congr rfl rfl⟩
end

section
/-! Loss of a bus's power (R20, R62, R156). -/

namespace Sys2Proof.Machine

/-! ### The robots of the buses that lose their power -/

/-- Two walks agree where their steps agree in every state that keeps `P`. -/
theorem foldl_congr_of {α : Type} {P : State → Prop} {f g : State → α → State}
    (h : ∀ u x, P u → f u x = g u x ∧ P (g u x)) (l : List α) (s : State) (hs : P s) :
    l.foldl f s = l.foldl g s ∧ P (l.foldl g s) := by
  induction l generalizing s with
  | nil => exact ⟨rfl, hs⟩
  | cons x l ih =>
    obtain ⟨heq, hp⟩ := h s x hs
    rw [List.foldl_cons, List.foldl_cons, heq]
    exact ih _ hp

/-- The robots on the buses are those of `on`. -/
def State.AreOn (u : State) (buses : List Nat) (on : Nat → Bool) : Prop := ∀ i, u.onBuses buses i = on i

/-- A robot goes OFFLINE: a move it had ends LOST unless it halts for RESTART (R20). -/
def Robot.offline (r : Robot) : Robot :=
  { r with
    alpha := none, beta := none, anchor := none, pollTime := none, failures := 0, tagMemory := 0, state := .offline
    move := none
    lastOutcome := if r.move.any (·.haltCause != some .restart) then some .lost else r.lastOutcome }

theorem Robot.Told.offline {r r' : Robot} (h : r.Told r') : r'.offline = r.offline := by
  have := h.lostFor .power
  unfold Robot.offline Robot.lostFor at *
  have ho := congrArg Robot.lastOutcome this
  simp only at ho
  rw [ho, h.rest]

theorem State.goOffline_robot {s : State} {site : Nat} {r : Robot} (hr : s.robots[site]? = some r) :
    (s.goOffline site).robots[site]? = some r.offline := by
  have hforget : (s.modRobot site fun r => { r.forget with anchor := none }).robots[site]? =
      some { r.forget with anchor := none } := by simp [hr]
  unfold State.goOffline
  simp only [hr, Option.bind_some, State.modRobot_robots, List.getElem?_modify_eq]
  cases hm : r.move with
  | none =>
    have hno : (s.modRobot site fun r => { r.forget with anchor := none }).finishMove site .offline none =
        s.modRobot site fun r => { r.forget with anchor := none } := by
      unfold State.finishMove
      simp [hr, Robot.forget, hm]
    simp only [Option.map_none, Option.getD_none, hno, hforget]
    simp [Robot.offline, Robot.forget, hm]
  | some m =>
    rw [State.finishMove_robot (m := m) _ _ hforget hm]
    by_cases hc : m.haltCause = some .restart <;>
      simp [Robot.finished, Robot.recorded, Move.outcome, hc, Robot.forget, Robot.offline, hm]

theorem State.Ebbs.goOffline {E X : Nat → Prop} (s : State) {site : Nat} (h : E site) : s.Ebbs E X (s.goOffline site) := by
  unfold State.goOffline
  exact ((forget s h).trans (finishMove _ _ _ h)).trans (robot _ fun _ _ => ⟨fun hn => absurd h hn, id⟩)

/-- Robots that stay on their buses. -/
theorem State.AreOn.told {u v : State} {buses : List Nat} {on : Nat → Bool} (h : u.AreOn buses on)
    (hr : Matched (fun _ r r' => r'.bus = r.bus) u.robots v.robots) : v.AreOn buses on := fun i => by
  rw [← h i]
  unfold State.onBuses
  cases hu : u.robots[i]? with
  | none =>
    have := hr i
    rw [hu] at this
    generalize v.robots[i]? = b at this
    cases this
    rfl
  | some r =>
    obtain ⟨r', hr', hb⟩ := hr.get hu
    rw [hr', Option.any_some, Option.any_some, hb]

theorem State.AreOn.lossLens {u : State} {buses : List Nat} {on : Nat → Bool} (h : u.AreOn buses on) (site i : Nat) :
    (u.lossLens site i).AreOn buses on :=
  h.told ((Ebbs.lossLens (E := fun _ => False) (X := fun _ => True) u (.inr trivial)).robots.mono
    fun _ _ _ he => by rw [(he.told id).rest])

theorem State.AreOn.goOffline {u : State} {buses : List Nat} {on : Nat → Bool} (h : u.AreOn buses on) (site : Nat) :
    (u.goOffline site).AreOn buses on := by
  have he := Ebbs.goOffline (E := fun j => j = site) (X := fun _ => False) u rfl
  refine h.told fun i => ?_
  cases hu : u.robots[i]? with
  | none =>
    have := he.robots i
    rw [hu] at this
    generalize (u.goOffline site).robots[i]? = b at this
    cases this
    exact .none
  | some r =>
    by_cases hi : i = site
    · subst hi
      rw [goOffline_robot hu]
      exact .some rfl
    · obtain ⟨r', hr', ht⟩ := he.told hu hi
      rw [hr']
      exact .some (by rw [ht.rest])

/-! ### The two walks of a loss of power -/

/-- Loss conversion of the robots of `on` at one lens. -/
def State.lossOn (on : Nat → Bool) (i : Nat) (u : State) : State :=
  u.forSites fun site v => if on site then v.lossLens site i else v

/-- Loss conversion of the robots of `on`, lens by lens, and then their ends. -/
def State.losing (s : State) (on : Nat → Bool) : State :=
  (s.forLenses (State.lossOn on)).forSites fun site u => if on site then u.goOffline site else u

/-- A loss of power walks over the robots that are on the buses as it begins. -/
theorem State.powerLoss_eq (s : State) (buses : List Nat) :
    let t := (buses.foldl (fun u b => u.modBus b Bus.powerDown) s).failInquiryPower buses
    ∃ w : State, s.powerLoss buses = w.close (t.losing (t.onBuses buses)) := by
  intro t
  have hloss : ∀ (u : State) i, u.AreOn buses (t.onBuses buses) → u.lossAt buses i = State.lossOn (t.onBuses buses) i u ∧
      (State.lossOn (t.onBuses buses) i u).AreOn buses (t.onBuses buses) := fun u i hu =>
    foldl_congr_of (P := fun v => v.AreOn buses (t.onBuses buses))
      (f := fun v site => if v.onBuses buses site then v.lossLens site i else v)
      (g := fun v site => if t.onBuses buses site then v.lossLens site i else v) (fun v site hv => by
      rw [hv site]
      refine ⟨rfl, ?_⟩
      split
      · exact hv.lossLens site i
      · exact hv) _ u hu
  obtain ⟨hwalk, hon⟩ := foldl_congr_of (f := fun u i => u.lossAt buses i)
    (g := fun u i => State.lossOn (t.onBuses buses) i u) hloss (List.range t.lenses.length) t fun _ => rfl
  have hwalk : (t.forLenses fun i u => u.lossAt buses i) = t.forLenses (State.lossOn (t.onBuses buses)) := hwalk
  have hends := (foldl_congr_of (P := fun u => u.AreOn buses (t.onBuses buses))
    (f := fun u site => if u.onBuses buses site then u.goOffline site else u)
    (g := fun u site => if t.onBuses buses site then u.goOffline site else u) (fun v site hv => by
      rw [hv site]
      refine ⟨rfl, ?_⟩
      split
      · exact hv.goOffline site
      · exact hv) (List.range (t.forLenses (State.lossOn (t.onBuses buses))).robots.length) _ hon).1
  refine ⟨t.forLenses (State.lossOn (t.onBuses buses)), ?_⟩
  have hsweep : s.powerLoss buses = (t.forLenses fun i u => u.lossAt buses i).sweep fun site u =>
    if u.onBuses buses site then u.goOffline site else u := rfl
  rw [hsweep, hwalk]
  exact congrArg (t.forLenses (State.lossOn (t.onBuses buses))).close hends

theorem State.lossOn_ebbs (on : Nat → Bool) (i : Nat) (u : State) :
    u.Ebbs (fun j => on j = true) (fun _ => False) (u.lossOn on i) := by
  refine .forSites (fun v site => ?_) u
  split
  · next h => exact .lossLens v (.inl h)
  · exact .refl v

theorem State.lossOn_told (on : Nat → Bool) (i : Nat) (u : State) :
    u.Ebbs (fun _ => False) (fun _ => True) (u.lossOn on i) := by
  refine .forSites (fun v site => ?_) u
  split
  · exact .lossLens v (.inr trivial)
  · exact .refl v

/-- One robot's end in the second walk. -/
theorem State.endOn_ebbs (on : Nat → Bool) (site : Nat) (u : State) :
    u.Ebbs (fun j => j = site) (fun _ => False) (if on site then u.goOffline site else u) := by
  split
  · exact .goOffline u rfl
  · exact .refl u

theorem State.losing_ebbs (s : State) (on : Nat → Bool) :
    s.Ebbs (fun j => on j = true) (fun _ => False) (s.losing on) := by
  refine .trans (.forLenses (fun u i => State.lossOn_ebbs on i u) s) (.forSites (fun u site => ?_) _)
  split
  · next h => exact .goOffline u h
  · exact .refl u

/-- A robot that is on the buses is OFFLINE after the walks. -/
theorem State.losing_robot {s : State} {on : Nat → Bool} {i : Nat} {r : Robot} (hr : s.robots[i]? = some r)
    (hon : on i = true) : (s.losing on).robots[i]? = some r.offline := by
  obtain ⟨r1, hr1, ht1⟩ := (Ebbs.forLenses (fun u i => State.lossOn_told on i u) s).told hr id
  obtain ⟨u, hu, hv⟩ := Ebbs.forSites_at (fun u site => State.endOn_ebbs on site u)
    (List.getElem?_eq_some_iff.mp hr1).1
  obtain ⟨r2, hr2, ht2⟩ := hu.told hr1 (lt_irrefl i)
  rw [if_pos hon] at hv
  obtain ⟨r3, hr3, ht3⟩ := hv.told (goOffline_robot hr2) (lt_irrefl i)
  rw [ht3.same (by simp [Robot.offline]) (by simp [Robot.offline]) (by simp [Robot.offline]), ht2.offline,
    ht1.offline] at hr3
  exact hr3

/-- The robots that are on the buses have given up their parts after the walks (R62). -/
theorem State.losing_gone {s : State} {on : Nat → Bool} {i : Nat} {r : Robot} (hr : s.robots[i]? = some r)
    (hon : on i = true) : s.Gone (s.losing on) i none := by
  have hwalk : s.Gone (s.forLenses (State.lossOn on)) i none := by
    refine gone_forLenses (E := fun j => on j = true) (X := fun _ => False) (fun j u => State.lossOn_ebbs on j u) nofun
      fun k u hu _ => ?_
    have hlt : i < u.robots.length := by
      rw [hu.robots.length]
      exact (List.getElem?_eq_some_iff.mp hr).1
    have hstep : ∀ (j : Nat) (v : State), v.Ebbs (fun j => on j = true) (fun _ => False)
        (if on j then v.lossLens j k else v) := fun j v => by
      split
      · next h => exact .lossLens v (.inl h)
      · exact .refl v
    obtain ⟨v, hv, hrest⟩ := Ebbs.foldRange_at (fun j _ => hstep j) (fun j _ => hstep j) hlt u
    rw [if_pos hon] at hrest
    exact ⟨v, hv, hrest⟩
  refine hwalk.after (E := fun j => on j = true) (X := fun _ => False) (.forSites (fun u site => ?_) _) nofun
  split
  · next h => exact .goOffline u h
  · exact .refl u

/-! ### The buses -/

theorem Bus.powerDown_powerDown (b : Bus) : b.powerDown.powerDown = b.powerDown := by
  unfold Bus.powerDown Census.abandon
  by_cases h : b.census.result = .inProgress <;> simp [h]

/-- Each bus of a list enters DOWN, whatever its place. -/
theorem State.powerDown_buses (buses : List Nat) (s : State) (k : Nat) :
    (buses.foldl (fun u b => u.modBus b Bus.powerDown) s).buses[k]? =
      s.buses[k]?.map fun b => if k ∈ buses then b.powerDown else b := by
  induction buses generalizing s with
  | nil => simp
  | cons n l ih =>
    rw [List.foldl_cons, ih, State.modBus_buses, List.getElem?_modify]
    cases s.buses[k]? with
    | none => rfl
    | some b =>
      by_cases hn : n = k
      · by_cases hl : k ∈ l <;> simp [hn, hl, Bus.powerDown_powerDown]
      · simp [hn, List.mem_cons, Ne.symm hn]

theorem State.powerDown_frame (buses : List Nat) (s : State) :
    buses.foldl (fun u b => u.modBus b Bus.powerDown) s =
      { s with buses := (buses.foldl (fun u b => u.modBus b Bus.powerDown) s).buses } := by
  induction buses generalizing s with
  | nil => rfl
  | cons n l ih => rw [List.foldl_cons, ih]; rfl

/-- A failed inquiry touches the inquiry and its notice alone. -/
theorem State.failInquiryPower_frame (s : State) (buses : List Nat) : ∃ q k,
    s.failInquiryPower buses = { s with inquiry := q, notices := k } ∧ k.busTrip = s.notices.busTrip := by
  unfold State.failInquiryPower
  split
  · split
    · exact ⟨_, _, rfl, rfl⟩
    · exact ⟨_, _, rfl, rfl⟩
  all_goals exact ⟨_, _, rfl, rfl⟩

/-- What a loss of power leaves (R20, R62, R156): each bus as it stands with its controller DOWN where it lost
its power, and each of their robots OFFLINE with its parts converted. -/
theorem State.powerLoss_leaves (s : State) (buses : List Nat) :
    (∀ k b, s.buses[k]? = some b → ∃ b', (s.powerLoss buses).buses[k]? = some b' ∧
      Bus.Ebbs (if k ∈ buses then b.powerDown else b) b') ∧
    (s.notices.busTrip = true → (s.powerLoss buses).notices.busTrip = true) ∧
    ∀ i r, s.robots[i]? = some r → r.bus ∈ buses →
      (s.powerLoss buses).robots[i]? = some r.offline ∧ s.LossConverted (s.powerLoss buses) i none := by
  obtain ⟨t, ht⟩ : ∃ t, t = (buses.foldl (fun u b => u.modBus b Bus.powerDown) s).failInquiryPower buses := ⟨_, rfl⟩
  obtain ⟨w, hw⟩ := s.powerLoss_eq buses
  rw [← ht] at hw
  obtain ⟨q, k, hfail, hbt⟩ := (buses.foldl (fun u b => u.modBus b Bus.powerDown) s).failInquiryPower_frame buses
  rw [← ht] at hfail
  have hlens : t.lenses = s.lenses := by rw [hfail, State.powerDown_frame]
  have hrobots : t.robots = s.robots := by rw [hfail, State.powerDown_frame]
  have hbuses : t.buses = (buses.foldl (fun u b => u.modBus b Bus.powerDown) s).buses := by rw [hfail]
  have htrip : t.notices.busTrip = s.notices.busTrip := by
    rw [hfail]
    exact hbt.trans (by rw [State.powerDown_frame])
  have hlosing := t.losing_ebbs (t.onBuses buses)
  obtain ⟨E, hc, -⟩ := w.close_ebbs (t.losing (t.onBuses buses))
  rw [hw]
  refine ⟨fun n b hb => ?_, fun h => hc.busTrip (hlosing.busTrip (htrip.trans h)), fun i r hr hbus => ?_⟩
  · have hdown : t.buses[n]? = some (if n ∈ buses then b.powerDown else b) := by
      rw [hbuses, State.powerDown_buses, hb]; rfl
    obtain ⟨b1, hb1, he1⟩ := hlosing.buses.get hdown
    obtain ⟨b2, hb2, he2⟩ := hc.buses.get hb1
    exact ⟨b2, hb2, he1.trans he2⟩
  · have htr : t.robots[i]? = some r := by rw [hrobots]; exact hr
    have hon : t.onBuses buses i = true := by
      simpa [State.onBuses, htr] using hbus
    have hoff := losing_robot htr hon
    refine ⟨close_same hoff rfl, ?_⟩
    have hloss : t.LossConverted (w.close (t.losing (t.onBuses buses))) i none := by
      refine (losing_gone htr hon).close_of hlosing nofun fun j y hj hy => ?_
      obtain ⟨r0, hr0, -⟩ := hlosing.robots.get' hy
      cases (losing_robot hr0 hj).symm.trans hy
      rfl
    exact hloss.congr hlens

end Sys2Proof.Machine
end

section
/-! The stop assertion (R106, R108), samples, jabber and trips (R47, R169 to R171). -/

namespace Sys2Proof.Machine

/-! ### The power that is lost -/

theorem Census.abandon_result (c : Census) :
    c.abandon.result = if c.result = .inProgress then .abandoned else c.result := by
  unfold Census.abandon
  split <;> rfl

/-- A loss of power, told from a state with the same robots and lenses, and the same counters on the bus (R20, R156). -/
theorem State.powerLost_of {s v : State} {n : Nat} {buses : List Nat} (hn : n ∈ buses) (hrobots : v.robots = s.robots)
    (hlenses : v.lenses = s.lenses) (hbus : ∀ b, s.buses[n]? = some b → ∃ b1, v.buses[n]? = some b1 ∧
      b1.stats = b.stats ∧ b1.credit = b.credit ∧ b1.census = b.census) : s.PowerLost (v.powerLoss buses) n := by
  obtain ⟨hbuses, -, hoff⟩ := v.powerLoss_leaves buses
  refine ⟨fun b hb => ?_, fun i r hr hbus => ?_⟩
  · obtain ⟨b1, hb1, hstats, hcredit, hcensus⟩ := hbus b hb
    obtain ⟨b2, hb2, he⟩ := hbuses n b1 hb1
    rw [if_pos hn] at he
    refine ⟨b2, hb2, ?_⟩
    rw [he, ← hcensus, ← Census.abandon_result]
    exact ⟨rfl, rfl, rfl, rfl, rfl, rfl, rfl, hstats, hcredit, rfl⟩
  · obtain ⟨hrobot, hloss⟩ := hoff i r (by rw [hrobots]; exact hr) (hbus ▸ hn)
    refine ⟨_, hrobot, rfl, rfl, rfl, rfl, rfl, rfl, rfl, rfl, rfl, fun m hm hc => ?_, hloss.congr hlenses⟩
    simp [Robot.offline, hm, hc]

/-! ### The stop assertion -/

theorem State.mem_poweredBuses {s : State} {n : Nat} {b : Bus} (hb : s.buses[n]? = some b) :
    n ∈ s.poweredBuses ↔ b.switch = .on := by
  have hlt := (List.getElem?_eq_some_iff.mp hb).1
  unfold State.poweredBuses
  rw [List.mem_filter, List.mem_range, hb, Option.any_some]
  simp [hlt]

theorem Bus.stopOff_keeps (b : Bus) :
    b.stopOff.stats = b.stats ∧ b.stopOff.credit = b.credit ∧ b.stopOff.census = b.census := by
  unfold Bus.stopOff
  split <;> exact ⟨rfl, rfl, rfl⟩

/-- The state in which a stop assertion takes the power. -/
def State.stopping (s : State) : State :=
  { ({ s with inputs := s.inputs.assertStop }.enterMode .halted) with buses := s.buses.map Bus.stopOff }

theorem State.stopping_engine (s u : State) : s.stopping.engine u =
    { s.engine u with
      mode := .halted
      inputs := { s.inputs with stopAsserted := true, stopAssertedLatch := true } } := rfl

theorem execStopAsserted_taken {s : State} (h : s.inputs.stopAsserted = false) :
    execStopAsserted s = .next (s.stopping.powerLoss s.poweredBuses) := by
  unfold execStopAsserted
  rw [if_neg (by simp [h])]
  rfl

end Sys2Proof.Machine

open Sys2Proof Sys2Proof.Machine

/-- Settles O5: every switch goes OFF, and the loss of power of those that were ON leaves the switches as they then
are. -/
theorem stopAssertionCutsThePower : Obligations.StopAssertionCutsThePower := by
  intro s hstop _
  refine ⟨_, execStopAsserted_taken hstop, (Acts.powerLoss s.stopping s.poweredBuses).engine.trans (s.stopping_engine _), fun n b hb => ?_⟩
  have hstopped : s.stopping.buses[n]? = some b.stopOff := by simp [State.stopping, hb]
  obtain ⟨b', hb', he⟩ := (s.stopping.powerLoss_leaves s.poweredBuses).1 n _ hstopped
  have hswitch : b'.switch = b.stopOff.switch ∧ b'.lastOff = b.stopOff.lastOff ∧ b'.blanking = b.stopOff.blanking := by
    rw [he]
    split <;> exact ⟨rfl, rfl, rfl⟩
  obtain ⟨h1, h2, h3⟩ := hswitch
  refine ⟨b', hb', ?_, fun h => ?_, fun h => ?_, fun h => ⟨?_, ?_⟩⟩
  · rw [h1]
    unfold Bus.stopOff
    split
    · assumption
    · rfl
  · rw [h2, Bus.stopOff, if_pos h]
  · rw [h2, Bus.stopOff, if_neg h]
  · exact State.powerLost_of ((State.mem_poweredBuses hb).mpr h) rfl rfl fun b0 hb0 => by
      cases hb.symm.trans hb0
      exact ⟨_, hstopped, b.stopOff_keeps⟩
  · rw [h3, Bus.stopOff, if_neg (by simp [h])]
end

section
/-! Samples, jabber and trips (R47, R169 to R171). -/

namespace Sys2Proof.Machine

/-! ### A trip -/

/-- What a trip leaves of its bus and of the notices, and the power it takes (R171). -/
theorem State.trip_leaves {s : State} {n : Nat} {b : Bus} (cause : TripCause) (hb : s.buses[n]? = some b) :
    (∃ b', (s.trip n cause).buses[n]? = some b' ∧ Bus.Ebbs (b.tripped cause).powerDown b') ∧
    (s.trip n cause).notices.busTrip = true ∧ s.PowerLost (s.trip n cause) n := by
  have htripped : ((s.modBus n fun b => b.tripped cause).latchBusTrip).buses[n]? = some (b.tripped cause) := by
    simp [State.latchBusTrip, hb]
  obtain ⟨hbuses, hnotice, -⟩ := ((s.modBus n fun b => b.tripped cause).latchBusTrip).powerLoss_leaves [n]
  obtain ⟨b', hb', he⟩ := hbuses n _ htripped
  rw [if_pos (by simp)] at he
  refine ⟨⟨b', hb', he⟩, hnotice rfl, State.powerLost_of (by simp) rfl rfl fun b0 hb0 => ?_⟩
  cases hb.symm.trans hb0
  exact ⟨_, htripped, rfl, rfl, rfl⟩

/-! ### A sample -/

/-- The sample is taken, before it is compared (R169). -/
def State.taking (s : State) (n v : Nat) : State :=
  { s.modBus n (fun x => x.takeSample v) with conversionDue := false }

theorem execCurrentSample_turn {s : State} {n milliamps : Nat} {b : Bus} (hb : s.buses[n]? = some b)
    (ht : n = s.converter ∧ s.conversionDue = true) :
    execCurrentSample n milliamps s = .next (s.convert n b (min milliamps 4095)) := by
  unfold execCurrentSample
  rw [if_pos ht, hb]
  rfl

/-- A sample by the switch, the threshold and the count (R47, R169). -/
theorem State.convert_cases (s : State) (n : Nat) (b : Bus) (v : Nat) :
    (b.compares = false → s.convert n b v = s.taking n v) ∧
    (b.compares = true → b.tripsAt v = true → s.convert n b v = (s.taking n v).trip n .current) ∧
    (b.compares = true → b.tripsAt v = false →
      s.convert n b v = (s.taking n v).modBus n fun x => { x with overCount := b.countAfter v }) := by
  unfold State.convert
  refine ⟨fun h => if_pos h, fun h ht => ?_, fun h ht => ?_⟩ <;> simp [h, ht] <;> rfl

theorem Bus.compares_iff (b : Bus) : b.compares = true ↔ b.switch = .on ∧ b.blanking = false := by
  simp [Bus.compares]

/-- The sample below or at the threshold, and above it (R47). -/
theorem Bus.countAfter_le {b : Bus} {v : Nat} (h : v ≤ b.threshold) : b.countAfter v = 0 ∧ b.tripsAt v = false := by
  have : ¬ b.threshold < v := by omega
  simp [Bus.countAfter, Bus.tripsAt, this]

theorem Bus.countAfter_gt {b : Bus} {v : Nat} (h : b.threshold < v) :
    b.countAfter v = (if b.overCount < 15 then b.overCount + 1 else b.overCount) ∧
      (b.tripsAt v = true ↔ b.tripCount ≤ b.countAfter v) := by
  simp [Bus.countAfter, Bus.tripsAt, h, satInc]

/-- Two changes of a bus that agree on its record. -/
theorem State.modBus_congr {s : State} {n : Nat} {b : Bus} {f g : Bus → Bus} (hb : s.buses[n]? = some b)
    (h : f b = g b) : s.modBus n f = s.modBus n g := by
  have hl : s.buses.modify n f = s.buses.modify n g := by
    refine List.ext_getElem? fun j => ?_
    rw [List.getElem?_modify, List.getElem?_modify]
    by_cases hij : n = j
    · subst hij
      simp [hb, h]
    · simp [hij]
  simp only [State.modBus, hl]

/-- The state after a sample that trips nothing, its over-threshold count `c`. -/
def State.sampledTo (s : State) (n : Nat) (b : Bus) (v c : Nat) : State :=
  { s.modBus n fun x => { x with latest := v, peak := max b.peak v, overCount := c } with conversionDue := false }

theorem State.taking_eq {s : State} {n : Nat} {b : Bus} (v : Nat) (hb : s.buses[n]? = some b) :
    s.taking n v = s.sampledTo n b v b.overCount := by
  unfold State.taking State.sampledTo
  rw [State.modBus_congr (g := fun x => { x with latest := v, peak := max b.peak v, overCount := b.overCount }) hb]
  rfl

theorem State.taking_modBus {s : State} {n : Nat} {b : Bus} (v c : Nat) (hb : s.buses[n]? = some b) :
    ((s.taking n v).modBus n fun x => { x with overCount := c }) = s.sampledTo n b v c := by
  have hmod : (s.taking n v).modBus n (fun x => { x with overCount := c }) =
      { (s.modBus n fun x => x.takeSample v).modBus n fun x => { x with overCount := c } with conversionDue := false } :=
    rfl
  rw [hmod, State.modBus_modBus]
  unfold State.sampledTo
  rw [State.modBus_congr (g := fun x => { x with latest := v, peak := max b.peak v, overCount := c }) hb]
  rfl

/-- A trip of a sample, as the statement tells it: the bus keeps the sample and its other latch (R169, R171). -/
theorem State.taking_trips {s : State} {n : Nat} {b : Bus} (v : Nat) (hb : s.buses[n]? = some b) :
    let t := (s.taking n v).trip n .current
    (∃ b', t.buses[n]? = some b' ∧ Bus.Ebbs ((b.takeSample v).tripped .current).powerDown b') ∧
      t.notices.busTrip = true ∧ s.PowerLost t n := by
  have htaken : (s.taking n v).buses[n]? = some (b.takeSample v) := by simp [State.taking, hb]
  obtain ⟨hbus, hnotice, hbuses, hrobots⟩ := State.trip_leaves .current htaken
  refine ⟨hbus, hnotice, fun b0 hb0 => ?_, fun i r hr hn => ?_⟩
  · cases hb.symm.trans hb0
    have h := hbuses _ htaken
    exact h
  · obtain ⟨r', hr', h1, h2, h3, h4, h5, h6, h7, h8, h9, h10, h11⟩ := hrobots i r hr hn
    exact ⟨r', hr', h1, h2, h3, h4, h5, h6, h7, h8, h9, h10, h11.congr rfl⟩

theorem State.taking_engine (s u : State) (n v : Nat) :
    (s.taking n v).engine u = { s.engine u with conversionDue := false } := rfl

theorem Acts.trip_engine (s : State) (n : Nat) (cause : TripCause) : s.trip n cause = s.engine (s.trip n cause) :=
  (Acts.trip s n cause).engine

end Sys2Proof.Machine

open Sys2Proof Sys2Proof.Machine

/-- Settles O46: a sample is taken and compared, and a trip's loss of power leaves the bus as the trip made it. -/
theorem samplesAndJabberTripBuses : Obligations.SamplesAndJabberTripBuses := by
  intro s n milliamps b hb v count sampled turn trips
  obtain ⟨hidle, htrip, hcount⟩ := s.convert_cases n b v
  have htrips : ∀ {t : State} {b' y : Bus} {cause : TripCause}, s.PowerLost t n → t.notices.busTrip = true →
      t.buses[n]? = some b' → Bus.Ebbs (y.tripped cause).powerDown b' → trips t := fun hp hn hb' he => by
    refine ⟨hp, hn, _, hb', ?_⟩
    rw [he]
    exact ⟨rfl, rfl, rfl, rfl⟩
  refine ⟨fun ht => if_neg ht, fun ht h => ?_, fun ht hon hblank => ⟨fun hle => ?_, fun hgt hlow => ?_, fun hgt hk => ?_⟩,
    fun hon => ?_, fun hoff => ?_⟩
  · have hno : b.compares = false := by
      rw [Bool.eq_false_iff]
      intro hc
      obtain ⟨h1, h2⟩ := b.compares_iff.mp hc
      simp [h1, h2] at h
    exact (execCurrentSample_turn hb ht).trans (congrArg _ ((hidle hno).trans (State.taking_eq v hb)))
  · obtain ⟨h0, hno⟩ := Bus.countAfter_le hle
    refine (execCurrentSample_turn hb ht).trans (congrArg _ ((hcount (b.compares_iff.mpr ⟨hon, hblank⟩) hno).trans ?_))
    rw [h0]
    exact State.taking_modBus v 0 hb
  · obtain ⟨hc, hiff⟩ := Bus.countAfter_gt hgt
    have hno : b.tripsAt v = false := by
      rw [Bool.eq_false_iff]
      intro h
      have := hiff.mp h
      rw [hc] at this
      exact absurd hlow (Nat.not_lt.mpr this)
    refine (execCurrentSample_turn hb ht).trans (congrArg _ ((hcount (b.compares_iff.mpr ⟨hon, hblank⟩) hno).trans ?_))
    rw [hc]
    exact State.taking_modBus v _ hb
  · obtain ⟨hc, hiff⟩ := Bus.countAfter_gt hgt
    obtain ⟨⟨b', hb', he⟩, hnotice, hpower⟩ := State.taking_trips (s := s) v hb
    refine ⟨_, b', (execCurrentSample_turn hb ht).trans
      (congrArg _ (htrip (b.compares_iff.mpr ⟨hon, hblank⟩) (hiff.mpr (hc ▸ hk)))),
      (Acts.trip_engine _ n .current).trans (State.taking_engine s _ n v), htrips hpower hnotice hb' he, hb', ?_⟩
    rw [he]
    refine ⟨rfl, rfl, ?_, ?_⟩
    · simp [Bus.powerDown, Bus.tripped]
    · simp [Bus.powerDown, Bus.tripped, Bus.takeSample]
  · obtain ⟨⟨b', hb', he⟩, hnotice, hpower⟩ := State.trip_leaves .jabber hb
    have hp : s.powered n = true := by simp [State.powered, hb, hon]
    refine ⟨_, b', if_pos hp, Acts.trip_engine s n .jabber, htrips hpower hnotice hb' he, hb', ?_⟩
    rw [he]
    simp [Bus.powerDown, Bus.tripped]
  · have hp : ¬ s.powered n = true := by simp [State.powered, hb, hoff]
    exact if_neg hp
end

section
/-! What the reading requests answer and clear (R46, R117, R149, R172, R177, R180). -/

namespace Sys2Proof.Machine

/-! ### What a request that is taken leaves alone -/

section
variable (s : State) (p : PortId) (tag code : Byte)

@[simp] theorem takeRequest_settled : (s.takeRequest p tag code).settled = s.settled := by
  simp [State.settled]

@[simp] theorem takeRequest_standing (q : PortId) : (s.takeRequest p tag code).standing q = s.standing q := by
  cases q <;> simp [State.standing, State.outcomePending]

/-- A request that is taken leaves its port but for the queue (R174). -/
theorem takeRequest_port : (s.takeRequest p tag code).port p =
    { s.port p with queue := dropTaken tag code (s.port p).queue } := by
  simp [State.takeRequest]

@[simp] theorem takeRequest_digest (n : Nat) : (s.takeRequest p tag code).digest n = s.digest n := by
  simp [State.digest]

@[simp] theorem takeRequest_borderList (n : Nat) :
    (s.takeRequest p tag code).borderList n = s.borderList n := by
  unfold State.borderList State.lensHas
  simp

@[simp] theorem takeRequest_linkRole (n : Nat) : (s.takeRequest p tag code).linkRole n = s.linkRole n := by
  simp [State.linkRole, State.isArbiter, State.isClient]

@[simp] theorem takeRequest_peerLensCounts (n : Nat) :
    (s.takeRequest p tag code).peerLensCounts n = s.peerLensCounts n := by
  simp [State.peerLensCounts, State.isArbiter, State.isClient, State.linkDecided, State.linkClaims, State.linkLenses]

end

/-! ### PORT_STATUS and READ_CAUSE -/

theorem State.clearPort_eq (t : State) (p : PortId) : t.clearPort p =
    { t with notices := if p = PortId.sequencer then .reset else t.notices }.modPort p fun x =>
      { x with overrun := false, errors := 0 } := by
  cases p <;> rfl

/-- PORT_STATUS on either port (R177). -/
theorem execPortStatus_answered {s : State} {r : Req} (hf : r.fits = true) :
    execPortStatus r s = .next (s.answered r 34 .ok
      (.port (s.standing r.port) (s.port r.port).mask (s.port r.port).overrun (s.port r.port).errors
        (dropTaken r.tag 34 (s.port r.port).queue).length) fun t => t.clearPort r.port) := by
  refine congrArg _ (serve_answered s r 34 _ _ _ _ _ rfl hf ?_)
  simp only [takeRequest_port, takeRequest_standing, okWith]

/-- READ_CAUSE on either port (R180). -/
theorem execReadCause_answered {s : State} {r : Req} (hf : r.fits = true) :
    execReadCause r s = .next (s.answered r 37 .ok (.cause s.resetCause) fun t =>
      { t with resetCause := if r.port = PortId.sequencer then .none else t.resetCause }) := by
  refine congrArg _ (serve_answered s r 37 _ _ _ _ _ rfl hf ?_)
  rw [← takeRequest_resetCause s r.port r.tag 37]
  generalize s.takeRequest r.port r.tag 37 = t
  cases r.port <;> rfl

/-! ### READ_FIELD and the elapsed time -/

theorem execReadField_answered {s : State} {r : Req} (hr : sentTo .sequencer r) :
    execReadField r s = .next (s.answered r 24 .ok
      (.field s.mode s.inputs s.field s.field.inProgress s.timer s.timer.elapsed s.targetCount
        s.params.deadlinePreset s.params.deadlineAction)
      fun t => { t with inputs := t.inputs.clearLatches }) := by
  refine congrArg _ (serve_sequencer s r 24 _ _ _ _ hr ?_)
  simp [okWith, State.targetCount]

/-- The elapsed time follows the phase (R46). -/
theorem Timer.elapsed_phase (t : Timer) :
    (t.phase = .stopped → t.elapsed = 0) ∧
    (t.phase = .down ∨ (t.phase = .held ∧ 0 < t.remaining) → t.elapsed = t.loaded - t.remaining) ∧
    (t.phase = .overtime ∨ (t.phase = .held ∧ t.remaining = 0) → t.elapsed = t.loaded + t.overtime) := by
  unfold Timer.elapsed
  cases t.phase <;> simp +contextual

/-! ### READ_PEER -/

/-- The role of a link by its neighbour's sector number (R133). -/
theorem State.linkRole_eq (s : State) (n : Nat) : s.linkRole n =
    if s.map.isNone then none else if s.sectorNumber < s.neighbourNumber n then some .arbiter
      else if s.neighbourNumber n < s.sectorNumber then some .client else none := by
  unfold State.linkRole State.isArbiter State.isClient
  cases s.map <;> simp

theorem execReadPeer_beyond {s : State} {r : Req} {n : Nat} (hr : sentTo .sequencer r) (hn : 5 < n) :
    execReadPeer r n s = .next (s.answered r 29 .badArg .none id) := by
  refine congrArg _ (serve_sequencer s r 29 _ _ _ _ hr ?_)
  rw [if_pos hn]
  rfl

/-- READ_PEER of a link (R149). -/
theorem execReadPeer_answered {s : State} {r : Req} {n : Nat} {l : Link} (hr : sentTo .sequencer r) (hn : n ≤ 5)
    (hl : s.links[n]? = some l) :
    execReadPeer r n s = .next (s.answered r 29 .ok
      (.peer l.state (s.linkRole n) (s.neighbourNumber n) (s.borderList n).length (s.digest n) l.matchCount
        l.partnerAck l.lastIdent l.errors l.drops l.wasDown l.mismatch l.dispute l.lastDisputeCount
        l.lastDisputeLens (s.peerLensCounts n) l.transmit.length) fun t => t.modLink n Link.clearCounters) := by
  refine congrArg _ (serve_sequencer s r 29 _ _ _ _ hr ?_)
  rw [if_neg (Nat.not_lt.mpr hn)]
  simp [readPeerAnswer, hl, okWith]

/-! ### READ_BUS -/

theorem execReadBus_beyond {s : State} {r : Req} {n : Nat} (hr : sentTo .sequencer r) (hn : 7 < n) :
    execReadBus r n s = .next (s.answered r 33 .badArg .none id) := by
  refine congrArg _ (serve_sequencer s r 33 _ _ _ _ hr ?_)
  unfold readBusAnswer
  split
  · rfl
  · exact if_pos hn

/-- READ_BUS of a bus (R172). -/
theorem execReadBus_answered {s : State} {r : Req} {n : Nat} {b : Bus} (hr : sentTo .sequencer r) (hn : n ≤ 7)
    (hb : s.buses[n]? = some b) :
    execReadBus r n s = .next (s.answered r 33 .ok
      (.bus b.switch b.lastOff b.blanking b.tripCurrent b.tripJabber b.peak b.latest b.overCount b.threshold
        b.tripCount b.protocol b.census b.addresses b.stats b.queueA.length b.queueB.length b.credit
        (s.concurrency n) b.concurrencyLimit) fun t => t.modBus n Bus.clearRead) := by
  refine congrArg _ (serve_sequencer s r 33 _ _ _ _ hr ?_)
  simp [readBusAnswer, hb, okWith, Nat.not_lt.mpr hn]

end Sys2Proof.Machine

open Sys2Proof Sys2Proof.Machine

/-- Settles O9: each reading request is answered with the records as they stood, and its change is the one its rule
names. -/
theorem readsClearWhatTheyReport : Obligations.ReadsClearWhatTheyReport := by
  refine ⟨fun s r hf => ⟨⟨_, rfl, ?_⟩, execReadCause_answered hf⟩, fun s r hr => execReadField_answered hr,
    Timer.elapsed_phase, fun s r n hr => ⟨execReadPeer_beyond hr, fun l hn hl => ?_⟩,
    fun s r n hr => ⟨execReadBus_beyond hr, fun b hn hb => execReadBus_answered hr hn hb⟩⟩
  · simp only [← State.clearPort_eq]
    exact execPortStatus_answered hf
  · rw [← State.linkRole_eq]
    exact execReadPeer_answered hr hn hl
end

section
/-! SET_PARAM: each parameter's range, mode and effect (R35, R37, R43, R45, R47, R75, R83, R163, R179). -/

namespace Sys2Proof.Machine

section
variable {s : State} {r : Req} {v n lo hi : Nat}

/-- A part parameter inside its range is set, and outside it is refused (R179). -/
theorem serve_rangeParam (hr : sentTo .sequencer r) (set : Params → Params) :
    (lo ≤ v → v ≤ hi → s.serve r 36 .sequencerOnly (rangeParam lo hi v set) =
      s.answered r 36 .ok (.param (.number v)) fun t => { t with params := set s.params }) ∧
    (v < lo ∨ hi < v → s.serve r 36 .sequencerOnly (rangeParam lo hi v set) = s.answered r 36 .badArg .none id) := by
  refine ⟨fun h1 h2 => serve_sequencer s r 36 _ _ _ _ hr ?_, fun h => serve_sequencer s r 36 _ _ _ _ hr ?_⟩
  · rw [rangeParam, if_neg (by omega), takeRequest_params]
    rfl
  · exact if_pos h

/-- A part parameter, as the request that sets it. -/
theorem exec_rangeParam {c : Instr} (hr : sentTo .sequencer r) (set : Params → Params)
    (hc : exec c s = .next (s.serve r 36 .sequencerOnly (rangeParam lo hi v set))) :
    (lo ≤ v → v ≤ hi → exec c s = .next (s.answered r 36 .ok (.param (.number v)) fun t =>
      { t with params := set s.params })) ∧
    (v < lo ∨ hi < v → exec c s = .next (s.answered r 36 .badArg .none id)) := by
  obtain ⟨hset, hbar⟩ := serve_rangeParam (s := s) (lo := lo) (hi := hi) (v := v) hr set
  exact ⟨fun h1 h2 => hc.trans (congrArg _ (hset h1 h2)), fun h => hc.trans (congrArg _ (hbar h))⟩

/-- The park beta goes up to the stow angle in force (R75). -/
theorem parkBeta_range (r : Req) (s : State) (v : Nat) : exec (.setParamParkBeta r v) s =
    .next (s.serve r 36 .sequencerOnly (rangeParam 0 s.params.stowAngle v fun p => { p with parkBeta := v })) := by
  have h : s.serve r 36 .sequencerOnly (fun t => rangeParam 0 t.params.stowAngle v (fun p => { p with parkBeta := v }) t) =
      s.serve r 36 .sequencerOnly (rangeParam 0 s.params.stowAngle v fun p => { p with parkBeta := v }) := by
    simp only [State.serve, takeRequest_params]
  exact congrArg _ h

/-- A parameter of a bus, as the request that sets it (R47, R179). -/
theorem exec_busParam {c : Instr} (hr : sentTo .sequencer r) (set : Bus → Bus)
    (hc : exec c s = .next (s.serve r 36 .sequencerOnly (busParam n lo hi v set))) :
    (n ≤ 7 → lo ≤ v → v ≤ hi → exec c s = .next (s.answered r 36 .ok (.param (.number v)) fun t => t.modBus n set)) ∧
    (7 < n ∨ v < lo ∨ hi < v → exec c s = .next (s.answered r 36 .badArg .none id)) := by
  refine ⟨fun h0 h1 h2 => hc.trans (congrArg _ (serve_sequencer s r 36 _ _ _ _ hr ?_)),
    fun h => hc.trans (congrArg _ (serve_sequencer s r 36 _ _ _ _ hr ?_))⟩
  · rw [busParam, if_neg (by omega), if_neg (by omega)]
    rfl
  · unfold busParam
    by_cases hn : 7 < n
    · exact if_pos hn
    · rw [if_neg hn, if_pos (h.resolve_left hn)]
      rfl

/-! ### The stow angle (R35) -/

theorem Robot.placed_iff (x : Robot) :
    x.placed = true ↔ x.state ≠ .offline ∧ ∀ cause, x.state ≠ .lost cause := by
  unfold Robot.placed
  cases x.state <;> simp

/-- The four outcomes of a stow angle (R35). -/
theorem stowAnswer_cases (v : Nat) (t : State) :
    (v < 1920 ∨ 7680 < v → stowAnswer v t = refuseWith t .badArg) ∧
    (1920 ≤ v → v ≤ 7680 →
      (t.mode ≠ .init → stowAnswer v t = refuseWith t .wrongMode) ∧
      (t.mode = .init → (t.map.isSome && t.robots.any Robot.placed) = true → stowAnswer v t = refuseWith t .busy) ∧
      (t.mode = .init → (t.map.isSome && t.robots.any Robot.placed) = false → stowAnswer v t =
        okWith { t with params := { t.params with stowAngle := v } } (.param (.number v)))) := by
  unfold stowAnswer
  refine ⟨fun h => if_pos h, fun h1 h2 => ?_⟩
  rw [if_neg (by omega)]
  exact ⟨fun hm => if_pos hm, fun hm hb => by rw [if_neg (by simp [hm]), if_pos hb],
    fun hm hb => by rw [if_neg (by simp [hm]), if_neg (by simp [hb])]⟩

/-! ### Share ratio, deadline action, concurrency limit and statistics -/

/-- A share ratio of the table sets the credit of every bus where it is another than that in force (R43). -/
theorem execSetParamShareRatio_named {value : ShareArg} {x : ShareRatio} (hr : sentTo .sequencer r)
    (hx : ShareRatio.ofArg value = some x) :
    execSetParamShareRatio r value s = .next (s.answered r 36 .ok (.param (.share x)) fun t =>
      { t with
        params := { s.params with share := x }
        buses := s.buses.map fun b => { b with credit := creditAfter s.params.share x b.credit } }) := by
  refine congrArg _ (serve_sequencer s r 36 _ _ _ _ hr ?_)
  simp only [shareAnswer, hx, okWith, takeRequest_params, takeRequest_buses]

theorem ShareRatio.ofArg_none (h : v ∉ [1, 3, 7]) : ShareRatio.ofArg (.ratio v) = none := by
  unfold ShareRatio.ofArg
  split <;> simp_all

theorem execSetParamShareRatio_other (hr : sentTo .sequencer r) (h : v ∉ [1, 3, 7]) :
    execSetParamShareRatio r (.ratio v) s = .next (s.answered r 36 .badArg .none id) := by
  refine congrArg _ (serve_sequencer s r 36 _ _ _ _ hr ?_)
  simp only [shareAnswer, ShareRatio.ofArg_none h]
  rfl

/-- The three outcomes of a concurrency limit (R83). -/
theorem concurrencyAnswer_cases (n v : Nat) (t : State) :
    (7 < n ∨ v < 1 ∨ 12 < v → concurrencyAnswer n v t = refuseWith t .badArg) ∧
    (n ≤ 7 → 1 ≤ v → v ≤ 12 →
      (0 < t.concurrency n → concurrencyAnswer n v t = refuseWith t .busy) ∧
      (t.concurrency n = 0 → concurrencyAnswer n v t =
        okWith (t.modBus n fun b => { b with concurrencyLimit := v }) (.param (.number v)))) := by
  unfold concurrencyAnswer
  refine ⟨fun h => ?_, fun h0 h1 h2 => ?_⟩
  · by_cases hn : 7 < n
    · exact if_pos hn
    · rw [if_neg hn, if_pos (h.resolve_left hn)]
  · rw [if_neg (by omega), if_neg (by omega)]
    exact ⟨fun h => if_pos h, fun h => if_neg (by omega)⟩

/-- The two outcomes of a statistics selection (R163). -/
theorem statisticsAnswer_cases (n v : Nat) (t : State) :
    (∀ o, n ≤ 7 → v ≤ 3 → statisticsAnswer n v (some o) t =
      okWith (t.modBus n fun b => { b with stats := b.stats.set v ⟨o, 0⟩ }) (.param (.object o))) ∧
    ∀ o, 7 < n ∨ 3 < v ∨ o = none → statisticsAnswer n v o t = refuseWith t .badArg := by
  unfold statisticsAnswer
  refine ⟨fun o h0 h1 => if_neg (by omega), fun o h => ?_⟩
  by_cases hn : 7 < n ∨ 3 < v
  · exact if_pos hn
  · have ho : o = none := (h.resolve_left fun h => hn (.inl h)).resolve_left fun h => hn (.inr h)
    rw [if_neg hn, ho]

/-- A request on the sequencer port whose owning rule refuses, or is taken with a change `f`. -/
theorem serve_refused {act : State → Answer} {st : Status} {code : Byte} (hr : sentTo .sequencer r)
    (h : act (s.takeRequest r.port r.tag code) = refuseWith (s.takeRequest r.port r.tag code) st) :
    s.serve r code .sequencerOnly act = s.answered r code st .none id := serve_sequencer s r code _ _ _ _ hr h

end

end Sys2Proof.Machine

open Sys2Proof Sys2Proof.Machine

/-- Settles O43: part parameters and bus parameters by their ranges, and each of the others by its own checks. -/
theorem parametersFollowTheirTable : Obligations.ParametersFollowTheirTable := by
  intro s r v n hr sets bars part perBus placed
  have hplaced : placed ↔ s.robots.any Robot.placed = true := by
    simp only [placed, List.any_eq_true, Robot.placed_iff]
  obtain ⟨hstowBad, hstow⟩ := stowAnswer_cases v (s.takeRequest r.port r.tag 36)
  obtain ⟨hlimitBad, hlimit⟩ := concurrencyAnswer_cases n v (s.takeRequest r.port r.tag 36)
  obtain ⟨hstat, hstatBad⟩ := statisticsAnswer_cases n v (s.takeRequest r.port r.tag 36)
  rw [takeRequest_concurrency] at hlimit
  simp only [takeRequest_params] at hstow
  refine ⟨fun h => congrArg _ (serve_refused hr (hstowBad h)), fun h1 h2 => ?_,
    exec_rangeParam hr (fun p => { p with parkBeta := v }) (parkBeta_range r s v),
    exec_rangeParam hr (fun p => { p with gain := v }) rfl,
    exec_rangeParam hr (fun p => { p with maxCorrection := v }) rfl,
    exec_rangeParam hr (fun p => { p with tolerance := v }) rfl,
    exec_rangeParam hr (fun p => { p with iterationLimit := v }) rfl,
    exec_rangeParam hr (fun p => { p with deadlinePreset := v }) rfl,
    exec_rangeParam hr (fun p => { p with lensWaitLimit := v }) rfl,
    exec_rangeParam hr (fun p => { p with legTimeLimit := v }) rfl,
    exec_rangeParam hr (fun p => { p with attemptLimit := v }) rfl,
    exec_rangeParam hr (fun p => { p with failureLimit := v }) rfl,
    exec_rangeParam hr (fun p => { p with pollInterval := v }) rfl,
    exec_rangeParam hr (fun p => { p with keepaliveInterval := v }) rfl,
    fun x value hx => ?_, fun h => execSetParamShareRatio_other hr h, fun a => ?_, ?_,
    fun h => congrArg _ (serve_refused hr (hlimitBad h)), fun h0 h1 h2 => ?_, 
    exec_busParam hr (fun b => { b with threshold := v }) rfl, exec_busParam hr (fun b => { b with tripCount := v }) rfl,
    fun o h0 h1 => congrArg _ (serve_sequencer s r 36 _ _ _ _ hr (hstat o h0 h1)),
    fun o h => congrArg _ (serve_refused hr (hstatBad o h))⟩
  · obtain ⟨hmode, hbusy, hset⟩ := hstow h1 h2
    refine ⟨fun hm => congrArg _ (serve_refused hr (hmode (by simpa using hm))), fun hm hmap hp => ?_, fun hm hfree => ?_⟩
    · refine congrArg _ (serve_refused hr (hbusy (by simpa using hm) ?_))
      rw [takeRequest_map, takeRequest_robots, hplaced.mp hp, Option.isSome_iff_ne_none.mpr hmap]
      rfl
    · refine congrArg _ (serve_sequencer s r 36 _ _ _ _ hr (hset (by simpa using hm) ?_))
      rw [takeRequest_map, takeRequest_robots]
      rcases hfree with hmap | hno
      · rw [hmap]
        rfl
      · rw [Bool.eq_false_iff.mpr fun h => hno (hplaced.mpr h), Bool.and_false]
  · simp only [List.mem_cons, Prod.mk.injEq, List.not_mem_nil, or_false] at hx
    rcases hx with ⟨rfl, rfl⟩ | ⟨rfl, rfl⟩ | ⟨rfl, rfl⟩ | ⟨rfl, rfl⟩ <;> exact execSetParamShareRatio_named hr rfl
  · refine congrArg _ (serve_sequencer s r 36 _ _ _ _ hr ?_)
    simp only [actionAnswer, okWith, takeRequest_params]
  · exact congrArg _ (serve_refused (act := actionAnswer none) hr rfl)
  · obtain ⟨hbusy, hset⟩ := hlimit h0 h1 h2
    exact ⟨fun h => congrArg _ (serve_refused hr (hbusy h)),
      fun h => congrArg _ (serve_sequencer s r 36 _ _ _ _ hr (hset h))⟩
end

section
/-! Scaling (R39) and the bounds of the later correction stages (R40 to R42). -/

namespace Sys2Proof.Machine

/-! ### Scaling (R39) -/

/-- The magnitude of a scaled offset. -/
theorem scaleOffset_natAbs (g : Nat) (d : Int) : (scaleOffset g d).natAbs = (d.natAbs * g + 128) / 256 := by
  unfold scaleOffset
  split <;> omega

/-- Scaling keeps the sign. -/
theorem scaleOffset_sign (g : Nat) (d : Int) :
    scaleOffset g d = if d < 0 then -(((d.natAbs * g + 128) / 256 : Nat) : Int) else ((d.natAbs * g + 128) / 256 : Nat) := rfl

theorem scaleOffset_nonneg {g : Nat} {d : Int} (h : 0 ≤ d) : 0 ≤ scaleOffset g d := by
  rw [scaleOffset_sign, if_neg (by omega)]
  omega

theorem scaleOffset_nonpos {g : Nat} {d : Int} (h : d ≤ 0) : scaleOffset g d ≤ 0 := by
  rw [scaleOffset_sign]
  split
  · omega
  · obtain rfl : d = 0 := by omega
    simp

/-- The product of an offset and a gain by its magnitude and the offset's sign. -/
theorem offset_mul_gain (g : Nat) (d : Int) :
    d * g = if d < 0 then -((d.natAbs * g : Nat) : Int) else (d.natAbs * g : Nat) := by
  rw [Int.natCast_mul]
  split
  · rw [Int.ofNat_natAbs_of_nonpos (by omega), Int.neg_mul, Int.neg_neg]
  · rw [Int.natAbs_of_nonneg (by omega)]

/-- The scaled offset is the nearest to `d·g/256`. -/
theorem scaleOffset_nearest (g : Nat) (d : Int) : (256 * scaleOffset g d - d * g).natAbs ≤ 128 := by
  rw [scaleOffset_sign, offset_mul_gain]
  generalize d.natAbs * g = n
  split <;> omega

/-- An exact half goes away from zero. -/
theorem scaleOffset_half {g : Nat} {d : Int} (h : (256 * scaleOffset g d - d * g).natAbs = 128) :
    (d * g).natAbs < (256 * scaleOffset g d).natAbs := by
  rw [scaleOffset_sign, offset_mul_gain] at *
  generalize d.natAbs * g = n at *
  split at h <;> omega

theorem scaleOffset_neg (g : Nat) (d : Int) : scaleOffset g (-d) = -scaleOffset g d := by
  rw [scaleOffset_sign, scaleOffset_sign, Int.natAbs_neg]
  by_cases h0 : d = 0
  · subst h0
    simp
  · by_cases hd : d < 0
    · rw [if_neg (by omega), if_pos hd, Int.neg_neg]
    · rw [if_pos (by omega), if_neg hd]

theorem scaleOffset_unit (d : Int) : scaleOffset 256 d = d := by
  rw [scaleOffset_sign]
  split <;> omega

theorem scaleOffset_zero (d : Int) : scaleOffset 0 d = 0 := by
  rw [scaleOffset_sign]
  split <;> omega

/-- A gain of at most 1 keeps the offset's range. -/
theorem scaleOffset_le {g : Nat} {d : Int} (hg : g ≤ 256) (h1 : -2048 ≤ d) (h2 : d ≤ 2047) :
    (scaleOffset g d).natAbs ≤ 2048 := by
  have hmul : d.natAbs * g ≤ 2048 * 256 := Nat.mul_le_mul (by omega) hg
  rw [scaleOffset_natAbs]
  omega

/-! ### Bound, backlash and target (R40 to R42) -/

/-- A bounded offset lies within the maximum correction, and stays where it was within it. -/
theorem boundOffset_spec (c : Nat) (q : Int) :
    (boundOffset c q).1.natAbs ≤ c ∧ ((boundOffset c q).2 = false → (boundOffset c q).1 = q) := by
  unfold boundOffset
  split
  · simp
  · split
    · simp
    · exact ⟨by simp only; omega, fun _ => rfl⟩

/-- Only a zero offset is bounded to zero. -/
theorem boundOffset_zero {c : Nat} {q : Int} (hc : 1 ≤ c) : (boundOffset c q).1 = 0 ↔ q = 0 := by
  unfold boundOffset
  split
  · simp only; omega
  · split
    · simp only; omega
    · rfl

/-- Backlash adds at most its size, in the direction of the offset, and nothing to no offset. -/
theorem backlashOffset_spec (memory : Option Sign) (backlash : Nat) (q : Int) :
    (backlashOffset memory backlash q).natAbs ≤ q.natAbs + backlash ∧ (backlashOffset memory backlash q = 0 ↔ q = 0) := by
  unfold backlashOffset
  rcases memory with _ | _ | _ <;> simp only
  · exact ⟨Nat.le_add_right _ _, trivial⟩
  · split <;> omega
  · split <;> omega

/-- An axis is brought within its limits, no farther from a value within them, and not LIMITED only where nothing
was changed. -/
theorem clampAxis_spec {lo hi p : Nat} (h1 : lo ≤ p) (h2 : p ≤ hi) (q : Int) :
    let a := clampAxis lo hi (p + q)
    (lo ≤ a.1 ∧ a.1 ≤ hi) ∧ ((a.1 : Int) - p).natAbs ≤ q.natAbs ∧ (a.2 = false → (a.1 : Int) = p + q) := by
  intro a
  simp only [a, clampAxis]
  split
  · exact ⟨⟨le_rfl, by omega⟩, by simp only; omega, nofun⟩
  · split
    · exact ⟨⟨by omega, le_rfl⟩, by simp only; omega, nofun⟩
    · exact ⟨by simp only; omega, by simp only; omega, fun _ => by simp only; omega⟩

theorem Site.allows_iff (x : Site) (alpha beta : Nat) :
    x.allows alpha beta = true ↔ x.alphaMin ≤ alpha ∧ alpha ≤ x.alphaMax ∧ beta ≤ x.betaMax := by
  simp [Site.allows, and_assoc]

/-- A target of the last stage lies within the site's limits, is another position, and no farther away than the
offsets (R42). -/
theorem targetStage_target {x : Site} {p q : Pos} {qa qb : Int} {lim limited : Bool}
    (hp : x.allows p.alpha p.beta = true) (h : targetStage x p qa qb lim = .target q limited) :
    x.allows q.alpha q.beta = true ∧ q ≠ p ∧ ((q.alpha : Int) - p.alpha).natAbs ≤ qa.natAbs ∧
      ((q.beta : Int) - p.beta).natAbs ≤ qb.natAbs := by
  obtain ⟨hmin, hmax, hbeta⟩ := (x.allows_iff _ _).mp hp
  obtain ⟨⟨ha1, ha2⟩, ha3, -⟩ := clampAxis_spec hmin hmax qa
  obtain ⟨⟨-, hb2⟩, hb3, -⟩ := clampAxis_spec (Nat.zero_le p.beta) hbeta qb
  unfold targetStage at h
  simp only at h
  split at h
  · cases h
  · next hne =>
    cases h
    refine ⟨(x.allows_iff _ _).mpr ⟨ha1, ha2, hb2⟩, fun heq => hne ?_, ha3, hb3⟩
    exact ⟨congrArg Pos.alpha heq, congrArg Pos.beta heq⟩

/-- A NULL of the last stage without LIMITED comes from offsets of zero (R42). -/
theorem targetStage_null {x : Site} {p : Pos} {qa qb : Int} {lim : Bool} (hp : x.allows p.alpha p.beta = true)
    (h : targetStage x p qa qb lim = .null false) : qa = 0 ∧ qb = 0 := by
  obtain ⟨hmin, hmax, hbeta⟩ := (x.allows_iff _ _).mp hp
  obtain ⟨-, -, ha⟩ := clampAxis_spec hmin hmax qa
  obtain ⟨-, -, hb⟩ := clampAxis_spec (Nat.zero_le p.beta) hbeta qb
  unfold targetStage at h
  simp only at h
  split at h
  · next hsame =>
    simp only [StageResult.null.injEq, Bool.or_eq_false_iff] at h
    have ha' := ha h.1.2
    have hb' := hb h.2
    omega
  · cases h

/-- The stages from scaling on, where the target stage is reached and where it is not. -/
theorem correctionStages_eq (prm : Params) (x : Site) (p : Pos) (dirA dirB : Option Sign) (dA dB : Int)
    (hc : 1 ≤ prm.maxCorrection) : correctionStages prm x p dirA dirB dA dB =
      if scaleOffset prm.gain dA = 0 ∧ scaleOffset prm.gain dB = 0 then .null false
      else targetStage x p
        (backlashOffset dirA x.backlashAlpha (boundOffset prm.maxCorrection (scaleOffset prm.gain dA)).1)
        (backlashOffset dirB x.backlashBeta (boundOffset prm.maxCorrection (scaleOffset prm.gain dB)).1)
        ((boundOffset prm.maxCorrection (scaleOffset prm.gain dA)).2 ||
          (boundOffset prm.maxCorrection (scaleOffset prm.gain dB)).2) := by
  simp only [correctionStages, boundOffset_zero hc]

/-- Bound and backlash together add to at most the maximum correction and the backlash. -/
theorem offset_le (c : Nat) (memory : Option Sign) (backlash : Nat) (q : Int) :
    (backlashOffset memory backlash (boundOffset c q).1).natAbs ≤ c + backlash :=
  (backlashOffset_spec memory backlash _).1.trans (Nat.add_le_add_right (boundOffset_spec c q).1 _)

theorem offset_zero {c : Nat} {memory : Option Sign} {backlash : Nat} {q : Int} (hc : 1 ≤ c) :
    backlashOffset memory backlash (boundOffset c q).1 = 0 ↔ q = 0 :=
  (backlashOffset_spec memory backlash _).2.trans (boundOffset_zero hc)

end Sys2Proof.Machine

open Sys2Proof Sys2Proof.Machine

/-- Settles O30: scaling by the magnitude and the sign, and each later stage by what it adds to the distance. -/
theorem scalingRoundsAndStagesStayInBounds : Obligations.ScalingRoundsAndStagesStayInBounds := by
  refine ⟨fun g d hg h1 h2 => ⟨scaleOffset_natAbs g d, scaleOffset_nonneg, scaleOffset_nonpos,
    scaleOffset_nearest g d, scaleOffset_half, scaleOffset_neg g d, scaleOffset_unit d, scaleOffset_zero d,
    scaleOffset_le hg h1 h2⟩, fun prm x p dirA dirB dA dB hp hc => ?_⟩
  rw [correctionStages_eq prm x p dirA dirB dA dB hc]
  by_cases hzero : scaleOffset prm.gain dA = 0 ∧ scaleOffset prm.gain dB = 0
  · rw [if_pos hzero]
    exact ⟨nofun, fun _ => hzero, fun _ => rfl⟩
  · rw [if_neg hzero]
    refine ⟨fun q limited h => ?_, fun h => ?_, fun h => absurd h hzero⟩
    · obtain ⟨hin, hne, ha, hb⟩ := targetStage_target hp h
      exact ⟨hin, hne, ha.trans (offset_le _ _ _ _), hb.trans (offset_le _ _ _ _)⟩
    · obtain ⟨ha, hb⟩ := targetStage_null hp h
      exact ⟨(offset_zero hc).mp ha, (offset_zero hc).mp hb⟩
end

section
/-! Facing sectors (R34), the TRIM condition (R36) and the plan of a move (R78). -/

namespace Sys2Proof.Machine

/-! ### Facing sectors (R34) -/

/-- The ranges of R34's table. -/
theorem facingSector_iff {f k : Nat} (hf : f < 23040) (hk : k < 6) : facingSector f = k ↔
    (k = 0 ∧ (f < 1920 ∨ 21120 ≤ f)) ∨ (1 ≤ k ∧ 1920 + 3840 * (k - 1) ≤ f ∧ f < 1920 + 3840 * k) := by
  simp only [facingSector, Config.halfSector, Config.turn, Config.sectorWidth]
  omega

/-- A site's sector is the sixth of a turn that its shifted alpha has come to (R33, R34). -/
theorem Site.sector_eq (x : Site) (a : Nat) : x.sector a = (a + x.mount + 1920) / 3840 % 6 := by
  simp only [Site.sector, facing, facingSector, Config.halfSector, Config.turn, Config.sectorWidth]
  omega

/-- Between two alphas of one sector less than a sector's width apart every alpha is of that sector (R36). -/
theorem Site.sector_between {x : Site} {p q a : Nat} (hs : x.sector p = x.sector q) (hd : (q - p) + (p - q) < 3840)
    (h1 : min p q ≤ a) (h2 : a ≤ max p q) : x.sector a = x.sector p := by
  simp only [Site.sector_eq] at *
  omega

/-! ### The TRIM condition (R36) -/

theorem extended_iff (stow b : Nat) : extended stow b = true ↔ stow < b := decide_eq_true_iff

theorem trimCondition_iff (stow : Nat) (x : Site) (p q : Pos) : trimCondition stow x p q = true ↔
    stow < p.beta ∧ stow < q.beta ∧ x.sector p.alpha = x.sector q.alpha ∧
      (q.alpha - p.alpha) + (p.alpha - q.alpha) < 3840 := by
  simp only [trimCondition, Bool.and_eq_true, extended_iff, beq_iff_eq, absDiff, and_assoc]
  exact and_congr_right' (and_congr_right' (and_congr_right' decide_eq_true_iff))

/-- A TRIM keeps the facing within one sector and beta extended for its whole travel. -/
theorem trimCondition_travel {stow : Nat} {x : Site} {p q : Pos} (h : trimCondition stow x p q = true) {a b : Nat}
    (h1 : min p.alpha q.alpha ≤ a) (h2 : a ≤ max p.alpha q.alpha) (hb : min p.beta q.beta ≤ b) :
    x.sector a = x.sector p.alpha ∧ extended stow b = true := by
  obtain ⟨hp, hq, hs, hd⟩ := (trimCondition_iff stow x p q).mp h
  exact ⟨Site.sector_between hs hd h1 h2, (extended_iff stow b).mpr (by omega)⟩

/-! ### The plan (R78) -/

/-- The arm after a leg: each axis it drives is at its target. -/
def Leg.after (u : Pos) (g : Leg) : Pos := ⟨g.alpha.getD u.alpha, g.beta.getD u.beta⟩

/-- What a leg must do that begins with the arm at `u` and is followed by `rest`: alpha moves in a SLEW with beta
stowed only, a DEPLOY begins with beta stowed and is the last leg, and a STOW stows beta. -/
def Leg.Safe (stow : Nat) (u : Pos) (leg : Leg) (rest : List Leg) : Prop :=
  (leg.alpha.isSome = true → leg.kind = .slew ∧ u.beta ≤ stow) ∧
    (leg.kind = .deploy → u.beta ≤ stow ∧ rest = []) ∧ (leg.kind = .stow → (leg.after u).beta ≤ stow)

/-- Each leg of a plan that begins at `u` is safe where the legs before it have brought the arm. -/
def SafePlan (stow : Nat) (u : Pos) (legs : List Leg) : Prop :=
  ∀ done leg rest, legs = done ++ leg :: rest → leg.Safe stow (done.foldl Leg.after u) rest

theorem safePlan_nil (stow : Nat) (u : Pos) : SafePlan stow u [] := by
  intro done leg rest h
  simp at h

/-- A plan is safe where its first leg is and the others are from where that leg ends. -/
theorem safePlan_cons {stow : Nat} {u : Pos} {g : Leg} {l : List Leg} (hg : g.Safe stow u l)
    (hl : SafePlan stow (g.after u) l) : SafePlan stow u (g :: l) := by
  intro done leg rest h
  cases done with
  | nil =>
    cases h
    exact hg
  | cons y done =>
    cases h
    exact hl done leg rest rfl

/-- The DEPLOY of a plan, where there is one. -/
theorem deployLeg_cases (stow : Nat) (q : Pos) :
    (q.beta ≤ stow ∧ deployLeg stow q = []) ∨ (stow < q.beta ∧ deployLeg stow q = [⟨.deploy, none, some q.beta⟩]) := by
  unfold deployLeg
  by_cases hq : stow < q.beta
  · exact .inr ⟨hq, if_pos ((extended_iff stow q.beta).mpr hq)⟩
  · exact .inl ⟨Nat.not_lt.mp hq, if_neg fun h => hq ((extended_iff stow q.beta).mp h)⟩

/-- The STOW of a plan, where there is one: it brings beta to the stow angle, or to the target where that is
stowed. -/
theorem stowLeg_cases (stow : Nat) (p q : Pos) :
    (stowLeg stow p q = [] ∧ p.beta ≤ stow ∧ (stow < q.beta ∨ q.beta = p.beta)) ∨
    ∃ b, stowLeg stow p q = [⟨.stow, none, some b⟩] ∧ b ≤ stow ∧ (stow < q.beta ∨ q.beta = b) := by
  unfold stowLeg
  by_cases hp : stow < p.beta <;> by_cases hq : stow < q.beta <;> by_cases hb : q.beta = p.beta <;>
    simp [extended, hp, hq, hb] <;> omega

/-- From a stowed beta a DEPLOY is safe, and beta is then at the target. -/
theorem deployLeg_safe {stow : Nat} {u q : Pos} (hu : u.beta ≤ stow) (hq : stow < q.beta ∨ q.beta = u.beta) :
    SafePlan stow u (deployLeg stow q) ∧ (deployLeg stow q).foldl Leg.after u = ⟨u.alpha, q.beta⟩ := by
  rcases deployLeg_cases stow q with ⟨h, hl⟩ | ⟨-, hl⟩
  · rw [hl, hq.resolve_left (by omega)]
    exact ⟨safePlan_nil stow u, rfl⟩
  · rw [hl]
    exact ⟨safePlan_cons ⟨nofun, fun _ => ⟨hu, rfl⟩, nofun⟩ (safePlan_nil stow _), rfl⟩

/-- From a stowed beta a SLEW and a DEPLOY are safe and bring the arm to the target. -/
theorem slewDeploy_safe {stow : Nat} {u q : Pos} (hu : u.beta ≤ stow) (hq : stow < q.beta ∨ q.beta = u.beta) :
    SafePlan stow u (slewLeg u q ++ deployLeg stow q) ∧ (slewLeg u q ++ deployLeg stow q).foldl Leg.after u = q := by
  unfold slewLeg
  by_cases ha : q.alpha = u.alpha
  · obtain ⟨hsafe, hend⟩ := deployLeg_safe hu hq
    rw [if_pos ha]
    exact ⟨hsafe, hend.trans (by rw [← ha])⟩
  · obtain ⟨hsafe, hend⟩ := deployLeg_safe (u := ⟨q.alpha, u.beta⟩) hu hq
    rw [if_neg ha]
    exact ⟨safePlan_cons ⟨fun _ => ⟨rfl, hu⟩, nofun, nofun⟩ hsafe, hend⟩

/-- A plan that is no TRIM is safe and brings the arm to its target. -/
theorem stowSlewDeploy_safe (stow : Nat) (p q : Pos) :
    SafePlan stow p (stowLeg stow p q ++ slewLeg p q ++ deployLeg stow q) ∧
      (stowLeg stow p q ++ slewLeg p q ++ deployLeg stow q).foldl Leg.after p = q := by
  rw [List.append_assoc]
  rcases stowLeg_cases stow p q with ⟨hl, hp, hq⟩ | ⟨b, hl, hb, hq⟩
  · rw [hl]
    exact slewDeploy_safe hp hq
  · obtain ⟨hsafe, hend⟩ := slewDeploy_safe (u := ⟨p.alpha, b⟩) hb hq
    rw [hl]
    exact ⟨safePlan_cons ⟨nofun, nofun, fun _ => hb⟩ hsafe, hend⟩

/-- The kinds of a plan that is no TRIM stand in the order of R78. -/
theorem stowSlewDeploy_kinds (stow : Nat) (p q : Pos) :
    ((stowLeg stow p q ++ slewLeg p q ++ deployLeg stow q).map (·.kind)).Sublist [.stow, .slew, .deploy] := by
  have hstow : ((stowLeg stow p q).map (·.kind)).Sublist [.stow] := by
    rcases stowLeg_cases stow p q with ⟨hl, -⟩ | ⟨b, hl, -⟩ <;> simp [hl]
  have hslew : ((slewLeg p q).map (·.kind)).Sublist [.slew] := by
    unfold slewLeg
    split <;> simp
  have hdeploy : ((deployLeg stow q).map (·.kind)).Sublist [.deploy] := by
    rcases deployLeg_cases stow q with ⟨-, hl⟩ | ⟨-, hl⟩ <;> simp [hl]
  rw [List.map_append, List.map_append]
  exact (hstow.append hslew).append hdeploy

/-- A plan brings the arm to its target. -/
theorem planLegs_end (stow : Nat) (x : Site) (p q : Pos) : (planLegs stow x p q).foldl Leg.after p = q := by
  unfold planLegs
  split
  · rfl
  · exact (stowSlewDeploy_safe stow p q).2

end Sys2Proof.Machine

open Sys2Proof Sys2Proof.Machine

/-- Settles O17: sectors are sixths of a turn, a TRIM stays between two alphas of one sector, and any other plan is
safe leg by leg. -/
theorem legPlansKeepTheArmSafe : Obligations.LegPlansKeepTheArmSafe := by
  refine ⟨fun f k => facingSector_iff, fun stow x p q _ => ⟨trimCondition_iff stow x p q,
    fun h a b => trimCondition_travel h⟩, fun stow x p q hne => ?_⟩
  intro legs after
  have hend : after legs = q := planLegs_end stow x p q
  refine ⟨hend, List.length_pos_iff.mpr fun h => hne (hend.symm.trans (by rw [h]; rfl)), fun h => if_pos h, fun h => ?_⟩
  have hlegs : legs = stowLeg stow p q ++ slewLeg p q ++ deployLeg stow q := if_neg (by simp [h])
  refine ⟨hlegs ▸ stowSlewDeploy_kinds stow p q, fun done leg rest hsplit => ?_⟩
  obtain ⟨halpha, hdeploy, hstow⟩ := (stowSlewDeploy_safe stow p q).1 done leg rest (hlegs.symm.trans hsplit)
  refine ⟨halpha, hdeploy, fun hk => ?_⟩
  have hlast : after (done ++ [leg]) = leg.after (after done) := List.foldl_append
  rw [hlast]
  exact hstow hk
end

section
/-! One millisecond of the deadline timer (R46), and the command a port's head of queue is taken as (R173 to
R175). -/

namespace Sys2Proof.Machine

/-! ### The deadline timer's millisecond (R46) -/

theorem Timer.tick_idle {t : Timer} (h : t.phase = .stopped ∨ t.phase = .held) : t.tick = t := by
  unfold Timer.tick
  rcases h with h | h <;> simp [h]

theorem Timer.tick_within {t : Timer} (h : t.phase = .down ∨ t.phase = .overtime) (hms : t.ms < 99) :
    t.tick = { t with ms := t.ms + 1 } := by
  have hlt : t.ms + 1 < Config.deadlineUnit := Nat.succ_lt_succ hms
  unfold Timer.tick
  rcases h with h | h <;> simp [h, hlt]

/-- The millisecond that completes a unit. -/
theorem Timer.not_within {t : Timer} (hms : t.ms = 99) : ¬ t.ms + 1 < Config.deadlineUnit := by
  rw [hms]
  exact Nat.lt_irrefl 100

theorem Timer.tick_down {t : Timer} (h : t.phase = .down) (hms : t.ms = 99) (hr : 1 < t.remaining) :
    t.tick = { t with remaining := t.remaining - 1, ms := 0 } := by
  simp [Timer.tick, Timer.not_within hms, h, hr]

theorem satInc_eq_min {top n : Nat} (h : n ≤ top) : satInc top n = min top (n + 1) := by
  unfold satInc
  split <;> omega

theorem Timer.tick_overtime {t : Timer} (h : t.phase = .overtime) (hms : t.ms = 99) (ht : t.overtime ≤ 65535) :
    t.tick = { t with overtime := min 65535 (t.overtime + 1), ms := 0 } := by
  have hsat : satInc Config.top16 t.overtime = min 65535 (t.overtime + 1) := satInc_eq_min ht
  simp [Timer.tick, Timer.not_within hms, h, hsat]

theorem State.deadlineExpiry_due {s : State} (h : s.timer.phase = .down) (hms : s.timer.ms = 99)
    (hr : s.timer.remaining ≤ 1) : .deadlineExpiry ∈ s.dueDeadline := by
  have hdue : s.timer.due = true := by simp [Timer.due, h, hms, hr, Config.deadlineUnit]
  simp [State.dueDeadline, hdue]

/-! ### The command a queued request is taken as -/

theorem requestOf_blankRequest (r : Req) {code : Byte} (h0 : 1 ≤ code.toNat) (h1 : code.toNat ≤ 37) :
    ∃ c rights, blankRequest r code = some c ∧ requestOf c = some (r, code, rights) := by
  obtain ⟨n, rfl, hn⟩ : ∃ n, code = BitVec.ofNat 8 n ∧ n = code.toNat := ⟨code.toNat, by simp, rfl⟩
  rw [← hn] at h0 h1
  clear hn
  interval_cases n <;> exact ⟨_, _, rfl, rfl⟩

theorem argumentless_iff (code : Byte) : argumentless code = true ↔
    code ∈ [3#8, 14#8, 16#8, 17#8, 18#8, 19#8, 20#8, 22#8, 24#8, 31#8, 34#8, 37#8] := by
  simp [argumentless, ← BitVec.toNat_inj]

theorem catalogued_iff {code : Byte} : catalogued code = true ↔ code ≠ 0 ∧ code.toNat ≤ 37 := by
  simp only [catalogued, Bool.and_eq_true, decide_eq_true_eq, ← BitVec.toNat_inj, ne_eq, BitVec.ofNat_eq_ofNat,
    BitVec.toNat_ofNat]
  omega

/-- The codes without arguments are codes of the catalogue. -/
theorem catalogued_of_argumentless {code : Byte} (h : argumentless code = true) : catalogued code = true := by
  rw [argumentless_iff] at h
  fin_cases h <;> rfl

/-- A request with arguments is taken as a request of its code, port and tag. -/
theorem QueuedRequest.parsed_spec (p : PortId) (q : QueuedRequest) (h : catalogued q.code = true) :
    ∃ c r rights, q.parsed p = some c ∧ requestOf c = some (r, q.code, rights) ∧ r.port = p ∧ r.tag = q.tag := by
  have hblank : ∃ c r rights, blankRequest ⟨p, q.tag, false⟩ q.code = some c ∧
      requestOf c = some (r, q.code, rights) ∧ r.port = p ∧ r.tag = q.tag := by
    obtain ⟨h0, h1⟩ := catalogued_iff.mp h
    obtain ⟨c, rights, hc, hr⟩ := requestOf_blankRequest ⟨p, q.tag, false⟩
      (Nat.pos_of_ne_zero fun hz => h0 (BitVec.eq_of_toNat_eq hz)) h1
    exact ⟨c, _, rights, hc, hr, rfl, rfl⟩
  unfold QueuedRequest.parsed
  split
  case h_1 => exact hblank
  case h_2 c _ =>
    split
    case isFalse => exact hblank
    case isTrue hc =>
      obtain ⟨⟨r, code, rights⟩, hreq, hx⟩ := (Option.any_eq_true _ _).mp hc
      obtain ⟨hr, hcode⟩ := Bool.and_eq_true_iff.mp hx
      cases eq_of_beq hr
      cases eq_of_beq hcode
      exact ⟨c, _, rights, rfl, hreq, rfl, rfl⟩

theorem QueuedRequest.command_badLength (p : PortId) {q : QueuedRequest} (h : q.badLength = true) :
    q.command p = .badFrame p q.tag q.code := if_pos h

theorem QueuedRequest.command_unknown (p : PortId) {q : QueuedRequest} (h : q.badLength = false)
    (hc : catalogued q.code = false) : q.command p = .unknown p q.tag q.code := by
  have ha : argumentless q.code = false := by
    by_contra ha
    simp [catalogued_of_argumentless (Bool.eq_true_of_not_eq_false ha)] at hc
  simp [QueuedRequest.command, h, hc, ha]

/-- A request of the catalogue is taken as the request its tag and code name; one without arguments fits
where its payload is empty. -/
theorem QueuedRequest.command_request (p : PortId) {q : QueuedRequest} (h : q.badLength = false)
    (hc : catalogued q.code = true) : ∃ r rights, requestOf (q.command p) = some (r, q.code, rights) ∧
      r.port = p ∧ r.tag = q.tag ∧ (argumentless q.code = true → r.fits = q.payload.isEmpty) := by
  cases ha : argumentless q.code
  case false =>
    obtain ⟨c, r, rights, hparsed, hreq, hport, htag⟩ := q.parsed_spec p hc
    have hcommand : q.command p = c := by simp [QueuedRequest.command, h, ha, hc, hparsed]
    exact ⟨r, rights, hcommand ▸ hreq, hport, htag, nofun⟩
  case true =>
    obtain ⟨h0, h1⟩ := catalogued_iff.mp hc
    obtain ⟨c, rights, hblank, hreq⟩ := requestOf_blankRequest ⟨p, q.tag, q.payload.isEmpty⟩
      (Nat.pos_of_ne_zero fun hz => h0 (BitVec.eq_of_toNat_eq hz)) h1
    have hcommand : q.command p = c := by simp [QueuedRequest.command, h, ha, hblank]
    exact ⟨_, rights, hcommand ▸ hreq, rfl, rfl, fun _ => rfl⟩

/-- The head of a port's queue is among the commands of a millisecond. -/
theorem State.command_mem_tick {s : State} {p : PortId} {q : QueuedRequest} {rest : List QueuedRequest}
    (h : (s.port p).queue = q :: rest) : q.command p ∈ s.tick.pending := by
  have hdue : ∀ t : State, t.port p = s.port p → q.command p ∈ t.due := by
    intro t ht
    have hmem : q.command p ∈ t.duePort p := by simp [State.duePort, ht, h]
    cases p <;> simp [State.due, hmem]
  exact List.mem_append_right _ (hdue _ (by cases p <;> rfl))

end Sys2Proof.Machine

open Sys2Proof Sys2Proof.Machine

/-- Settles O2, by the cases of the timer's millisecond and of the request at a port's head. -/
theorem emptyQueueLetsAMillisecondPass : Obligations.EmptyQueueLetsAMillisecondPass := by
  intro s hs
  have hstep : step s = .next s.tick := by simp only [step, hs]
  refine ⟨s.tick, hstep, rfl, fun p q rest hq => ?_, Timer.tick_idle, Timer.tick_within, Timer.tick_down,
    Timer.tick_overtime, fun h hms hr => List.mem_append_left _ (State.deadlineExpiry_due h hms hr)⟩
  have hmem := State.command_mem_tick hq
  refine ⟨fun h => q.command_badLength p h ▸ hmem, fun h hc => ?_, fun h h0 h1 => ?_⟩
  · have hout : catalogued q.code = false := by
      rw [← Bool.not_eq_true, catalogued_iff]
      exact fun hin => hc.elim hin.1 (Nat.not_lt.mpr hin.2)
    exact q.command_unknown p h hout ▸ hmem
  · obtain ⟨r, rights, hreq, hport, htag, hfits⟩ := q.command_request p h (catalogued_iff.mpr ⟨h0, h1⟩)
    exact ⟨_, r, rights, hmem, hreq, hport, htag, fun hc =>
      (hfits ((argumentless_iff q.code).mpr hc)).trans (by cases q.payload <;> rfl)⟩
end

section
/-! The dispatch share (R44), and what a leg dispatch does (R61, R80, R83). -/

namespace Sys2Proof.Machine

/-! ### The dispatch share (R44) -/

theorem chooseQueue_onlyA {share : ShareRatio} {b : Bus} (ha : b.queueA ≠ []) (hb : b.queueB = []) :
    chooseQueue share b = (true, b.credit) := by
  have ha' : b.queueA.isEmpty = false := by simp [ha]
  simp [chooseQueue, ha', hb]

theorem chooseQueue_noA {share : ShareRatio} {b : Bus} (ha : b.queueA = []) :
    chooseQueue share b = (false, share.credit.getD b.credit) := by
  cases hc : share.credit <;> simp [chooseQueue, ha, hc]

theorem chooseQueue_both {share : ShareRatio} {b : Bus} (ha : b.queueA ≠ []) (hb : b.queueB ≠ []) :
    chooseQueue share b = match share.credit with
      | some ratio => if 0 < b.credit then (true, b.credit - 1) else (false, ratio)
      | none => (true, b.credit) := by
  have ha' : b.queueA.isEmpty = false := by simp [ha]
  have hb' : b.queueB.isEmpty = false := by simp [hb]
  cases hc : share.credit <;> simp [chooseQueue, ha', hb', hc]

/-! ### The queue, the transaction and the target lens of a dispatch -/

/-- A bus after a dispatch has taken the head of the queue chosen, of which `rest` is left. -/
def Bus.popped (b : Bus) (chosen : Bool × Nat) (rest : List Nat) : Bus :=
  { b with
    queueA := if chosen.1 then rest else b.queueA
    queueB := if chosen.1 then b.queueB else rest
    credit := chosen.2 }

theorem Bus.popQueue_eq {b : Bus} {share : ShareRatio} {site : Nat} {rest : List Nat}
    (h : (if (chooseQueue share b).1 then b.queueA else b.queueB) = site :: rest) :
    b.popQueue share = b.popped (chooseQueue share b) rest ∧ b.dispatchHead share = some site ∧
      (b.queueA ≠ [] ∨ b.queueB ≠ []) := by
  unfold Bus.popQueue Bus.dispatchHead Bus.popped
  by_cases hc : (chooseQueue share b).1 = true
  · rw [if_pos hc] at h
    simp [hc, h]
  · rw [if_neg hc] at h
    simp [hc, h]

theorem State.beginTxn_eq (s : State) (n : Nat) (kind : TxnKind) (site : Nat) :
    s.beginTxn n kind site = s.begun n kind site := by
  unfold State.beginTxn State.begun
  simp only [Bus.send, Bus.countFrame_stats]

/-- The target lens of a DEPLOY as its transaction begins (R61). -/
theorem State.occupyTarget_decided {s : State} {site i : Nat} {l : Lens} {d : Decided} {p : Party}
    (hl : s.lenses[i]? = some l) (hb : l.body = .decided d) (hp : l.partyOf site = some p) (hd : d.heldBy p = true) :
    s.occupyTarget site i = s.modLens i fun _ => .decided { d with holder := some (p, .occupied) } := by
  simp only [State.occupyTarget, hl, hb, hp, State.setDecided, Decided.setKind, if_pos hd]

theorem State.occupyTarget_client {s : State} {site i : Nat} {l : Lens} {c : Client}
    (hl : s.lenses[i]? = some l) (hb : l.body = .client c) (hc : c.claim = .heldReserved) :
    s.occupyTarget site i = s.clientTo i l c .heldOccupied .hold := by
  simp only [State.occupyTarget, hl, hb, if_pos hc]

/-- A border message on a link that is UP with room joins its queue (R70). -/
theorem State.sendBorder_eq {s : State} {k : Nat} {u : Link} (i : Nat) (m : BorderMessage) (hu : s.links[k]? = some u)
    (hup : u.state = .up) (hroom : u.transmit.length < 64) : s.sendBorder k i m = s.withMessage k i m := by
  have hroom' : u.transmit.length < Config.transmitDepth := hroom
  unfold State.sendBorder State.sendNumbered State.withMessage
  simp only [hu, if_pos hup, if_pos hroom']

/-! ### The dispatch (R83) -/

/-- The robot of a dispatched leg. -/
def Robot.dispatched (r : Robot) (m : Move) (tag : Nat) : Robot :=
  { r with
    state := .inLeg, pollTime := none
    move := some { m with tag := some tag, dispatch := none } }

/-- Head and robot of a dispatch: the queue chosen loses its head, whose robot goes IN_LEG. -/
def State.headTaken (s : State) (n : Nat) (chosen : Bool × Nat) (rest : List Nat) (site tag : Nat) (m : Move) : State :=
  (s.modBus n fun x => x.popped chosen rest).modRobot site fun y => y.dispatched m tag

theorem State.enterTarget_of_ne {s : State} {site : Nat} {leg : Leg}
    (h : leg.kind ≠ .deploy ∨ s.targetLensOf site = none) : s.enterTarget site leg = s := by
  unfold State.enterTarget
  rcases h with h | h
  · exact if_neg h
  · simp [h]

theorem State.enterTarget_deploy {s : State} {site i : Nat} {leg : Leg} (h : leg.kind = .deploy)
    (hi : s.targetLensOf site = some i) : s.enterTarget site leg = s.occupyTarget site i := by
  simp [State.enterTarget, h, hi]

/-- The event of a dispatch: no move ends in it, for the robot dispatched is in its leg. -/
theorem State.dispatchLeg_eq {s v : State} {n site : Nat} {b : Bus} {rest : List Nat} {r : Robot} {m : Move} {leg : Leg}
    (hb : s.buses[n]? = some b)
    (hq : (if (chooseQueue s.params.share b).1 then b.queueA else b.queueB) = site :: rest)
    (hr : s.robots[site]? = some r) (hm : r.move = some m) (hn : s.NoDenialWaits)
    (hv : (s.headTaken n (chooseQueue s.params.share b) rest site r.nextTag m).enterTarget site leg = v)
    (hrobots : v.robots = (s.headTaken n (chooseQueue s.params.share b) rest site r.nextTag m).robots)
    (houtcomes : v.outcomes = s.outcomes) :
    s.dispatchLeg n site r leg = v.begun n (.move leg r.nextTag) site := by
  have hpop : (s.modBus n fun x => x.popQueue s.params.share) =
      s.modBus n fun x => x.popped (chooseQueue s.params.share b) rest :=
    State.modBus_congr hb (Bus.popQueue_eq hq).1
  have hrobot : r.dispatch = r.dispatched m r.nextTag := by simp [Robot.dispatch, Robot.dispatched, hm]
  have hhead : (s.modBus n fun x => x.popped (chooseQueue s.params.share b) rest).modRobot site Robot.dispatch =
      s.headTaken n (chooseQueue s.params.share b) rest site r.nextTag m :=
    State.modRobot_congr (s := s.modBus n _) hr hrobot
  have hwaits : (v.begun n (.move leg r.nextTag) site).NoDenialWaits := by
    have hsent := State.NoDenialWaits.modRobot hn (i := site) (f := fun y => y.dispatched m r.nextTag)
      fun _ _ => by simp [Robot.deniedAtRest, Robot.dispatched]
    intro x hx
    exact hsent x (hrobots ▸ hx)
  unfold State.dispatchLeg
  simp only [hpop]
  rw [hhead, hv, State.beginTxn_eq]
  exact State.close_quiet' hwaits houtcomes

/-- The dispatch is taken where places 1 and 2 of the arbiter let it (R83, R157). -/
theorem exec_legDispatch_taken {s : State} {n site : Nat} {b : Bus} {rest : List Nat} {r : Robot} {m : Move} {leg : Leg}
    (hb : s.buses[n]? = some b) (hrun : b.protocol = .running) (htxn : b.txn = none) (hall : b.haltBroadcast = false)
    (hone : b.haltAddressed = []) (hmode : s.mode = .opened) (hroom : s.concurrency n < b.concurrencyLimit)
    (hq : (if (chooseQueue s.params.share b).1 then b.queueA else b.queueB) = site :: rest)
    (hr : s.robots[site]? = some r) (hm : r.move = some m) (hleg : m.leg = some leg) :
    exec (.legDispatch n) s = .next (s.dispatchLeg n site r leg) := by
  obtain ⟨-, hhead, hsome⟩ := Bus.popQueue_eq hq
  have hwaiting : s.legWaiting n b = true := by
    rcases hsome with h | h <;> simp [State.legWaiting, hmode, hroom, h]
  have hgate : (b.free && !b.haltWaiting && s.legWaiting n b) = true := by
    simp [Bus.free, Bus.haltWaiting, hrun, htxn, hall, hone, hwaiting]
  have hlegs : r.move.bind Move.leg = some leg := by simp [hm, hleg]
  change execLegDispatch n s = _
  simp only [execLegDispatch, hb, if_pos hgate, hhead, hr, hlegs]

end Sys2Proof.Machine

open Sys2Proof Sys2Proof.Machine

/-- Settles O50: the share by the two queues, and a dispatch by its head, its target lens and its transaction. -/
theorem legsAreDispatchedByTheShare : Obligations.LegsAreDispatchedByTheShare := by
  refine ⟨fun share b ratio => ⟨fun hs => ⟨fun ha hb hc => ?_, fun ha hb hc => ?_, fun ha hb => ?_, fun ha hb => ?_⟩,
    fun hs => ⟨fun ha => ?_, fun ha hb => ?_⟩⟩, ?_⟩
  · simp [chooseQueue_both ha hb, hs, hc]
  · simp [chooseQueue_both ha hb, hs, hc]
  · exact chooseQueue_onlyA ha (Classical.not_not.mp hb)
  · simp [chooseQueue_noA (Classical.not_not.mp ha), hs]
  · subst hs
    by_cases hb : b.queueB = []
    · exact chooseQueue_onlyA ha hb
    · exact chooseQueue_both ha hb
  · subst hs
    exact chooseQueue_noA (Classical.not_not.mp ha)
  intro s n b site rest r m leg hb hrun htxn hall hone hmode hroom chosen hq hr hm hleg hn tag sent
  have hexec := exec_legDispatch_taken hb hrun htxn hall hone hmode hroom hq hr hm hleg
  let v := s.headTaken n chosen rest site tag m
  have htarget : v.targetLensOf site = m.targetLens := by
    have hrobot : v.robots[site]? = some (r.dispatched m tag) := by
      simp [v, State.headTaken, State.modRobot_robots, hr]
    simp [State.targetLensOf, hrobot, Robot.dispatched]
  refine ⟨fun h => ?_, fun i l hk hi hl => ⟨fun d p hd hp hheld => ?_, fun c p k u hc hp hclaim hlink hu hup hlen => ?_⟩⟩
  · have hv : v.enterTarget site leg = v := State.enterTarget_of_ne (htarget.symm ▸ h)
    rw [hexec, State.dispatchLeg_eq hb hq hr hm hn hv rfl rfl]
    rfl
  · have hv : v.enterTarget site leg = v.modLens i fun _ => .decided { d with holder := some (p, .occupied) } :=
      (State.enterTarget_deploy hk (htarget.trans hi)).trans (State.occupyTarget_decided hl hd hp hheld)
    rw [hexec, State.dispatchLeg_eq hb hq hr hm hn hv rfl rfl]
    rfl
  · have hv : v.enterTarget site leg =
        (v.modLens i fun _ => .client { c with claim := .heldOccupied, deadline := none }).withMessage k i .hold := by
      rw [State.enterTarget_deploy hk (htarget.trans hi), State.occupyTarget_client (s := v) hl hc hclaim,
        State.clientTo, hlink]
      exact State.sendBorder_eq i .hold hu hup hlen
    rw [hexec, State.dispatchLeg_eq hb hq hr hm hn hv rfl rfl]
    rfl
end

section
/-! `State.Eases`: what moves that end leave of the books (outcome records, field, timer and notices) and of the
claims that wait (R57 to R62, R96, R97, R114). -/

namespace Sys2Proof.Machine

/-! ### The relation -/

/-- What is written down of moves that have ended, and the notices but PEER_CHANGE. -/
def State.books (s : State) : List OutcomeRecord × Bool × FieldRecord × Timer × Notices :=
  (s.outcomes, s.overflow, s.field, s.timer, { s.notices with peerChange := false })

/-- Side `p` does not wait in a record: it is no waiter, and no claim of a client is under way. -/
def LensBody.Unwaited (p : Party) : LensBody → Prop
  | .decided d => d.waiter ≠ some p
  | .client c => c.claim ≠ .claiming

/-- A record in which no side newly waits. -/
def LensBody.Eases (b b' : LensBody) : Prop := ∀ p, b.Unwaited p → b'.Unwaited p

/-- `t` comes from `s` as moves end with outcomes of `O`; unless `X`, no side of a lens newly waits. -/
inductive State.Eases (X : Prop) (O : MoveOutcome → Prop) : State → State → Prop
  | refl (s : State) : Eases X O s s
  | trans {s t u : State} : Eases X O s t → Eases X O t u → Eases X O s u
  | quiet {s t : State} (hbooks : t.books = s.books) (hlenses : t.lenses = s.lenses) : Eases X O s t
  | lens (s : State) (i : Nat) (f : LensBody → LensBody)
      (h : ¬ X → ∀ l, s.lenses[i]? = some l → l.body.Eases (f l.body)) : Eases X O s (s.modLens i f)
  | record (s : State) (o : OutcomeRecord) (h : O o.outcome) : Eases X O s (s.appendOutcome o)
  | count (s : State) (o : MoveOutcome) (h : O o) : Eases X O s (s.countFieldEnd o)
  | queue (s : State) (outcomes : List OutcomeRecord) (overflow v : Bool) (h : ∃ o, O o) :
      Eases X O s { s with outcomes, overflow, notices := { s.notices with outcomeOverflow := v } }

namespace State.Eases

variable {X : Prop} {O : MoveOutcome → Prop}

theorem modRobot (s : State) (i : Nat) (f : Robot → Robot) : s.Eases X O (s.modRobot i f) := .quiet rfl rfl

theorem modBus (s : State) (n : Nat) (f : Bus → Bus) : s.Eases X O (s.modBus n f) := .quiet rfl rfl

theorem modLink (s : State) (n : Nat) (f : Link → Link) : s.Eases X O (s.modLink n f) := .quiet rfl rfl

/-- A decided record is replaced. -/
theorem setDecided {s : State} {i : Nat} {l : Lens} {d d' : Decided} (hl : s.lenses[i]? = some l)
    (hb : l.body = .decided d) (h : ¬ X → ∀ p, d.waiter ≠ some p → d'.waiter ≠ some p) :
    s.Eases X O (s.setDecided i d') := by
  refine .lens s i _ fun hx l' hl' p hp => ?_
  cases hl.symm.trans hl'
  rw [hb] at hp
  exact h hx p hp

/-- A client record is replaced. -/
theorem setClient {s : State} {i : Nat} {l : Lens} {c c' : Client} (hl : s.lenses[i]? = some l)
    (hb : l.body = .client c) (h : ¬ X → c.claim ≠ .claiming → c'.claim ≠ .claiming) :
    s.Eases X O (s.setClient i c') := by
  refine .lens s i _ fun hx l' hl' p hp => ?_
  cases hl.symm.trans hl'
  rw [hb] at hp
  exact h hx hp

theorem foldl {α : Type} {f : State → α → State} (h : ∀ (s : State) x, s.Eases X O (f s x)) (l : List α) (s : State) :
    s.Eases X O (l.foldl f s) := by
  induction l generalizing s with
  | nil => exact .refl s
  | cons x l ih => exact (h s x).trans (ih (f s x))

theorem forLenses {f : Nat → State → State} (h : ∀ (s : State) i, s.Eases X O (f i s)) (s : State) :
    s.Eases X O (s.forLenses f) := foldl (fun s i => h s i) _ s

theorem forSites {f : Nat → State → State} (h : ∀ (s : State) i, s.Eases X O (f i s)) (s : State) :
    s.Eases X O (s.forSites f) := foldl (fun s i => h s i) _ s

/-! ### Robots and queues -/

theorem denyRobot (s : State) (site : Nat) (reason : DenyReason) : s.Eases X O (s.denyRobot site reason) := by
  unfold State.denyRobot
  split
  · exact .refl s
  · split
    · exact modRobot s site _
    · exact .refl s

theorem joinQueue (s : State) (site : Nat) : s.Eases X O (s.joinQueue site) := by
  unfold State.joinQueue
  split
  · exact .refl s
  · split
    · exact .refl s
    · split <;> exact modBus s _ _

theorem leaveQueues (s : State) (site : Nat) : s.Eases X O (s.leaveQueues site) := by
  unfold State.leaveQueues
  split
  · exact .refl s
  · exact modBus s _ _

theorem grantRobot (s : State) (site : Nat) : s.Eases X O (s.grantRobot site) := by
  unfold State.grantRobot
  split
  · exact .refl s
  · split
    · exact (modRobot s site _).trans (joinQueue _ site)
    · exact .refl s

/-! ### Links -/

theorem enterProbing (s : State) (n : Nat) : s.Eases X O (s.enterProbing n) := by
  rw [State.enterProbing_eq]
  exact .quiet rfl rfl

theorem departLens (s : State) (n i : Nat) : s.Eases X O (s.departLens n i) := by
  unfold State.departLens
  split
  · exact .refl s
  · rename_i l hl
    split
    · split
      · rename_i d hb
        split
        · exact setDecided hl hb fun _ _ _ => nofun
        · exact .refl s
      · rename_i c hb
        split
        · exact .trans (setClient (c' := { c with claim := .none, deadline := none }) hl hb fun _ _ => nofun)
            (denyRobot _ _ _)
        · exact .refl s
    · exact .refl s

theorem takeDown (s : State) (n : Nat) : s.Eases X O (s.takeDown n) := by
  unfold State.takeDown
  split
  · exact .refl s
  · split
    · exact ((modLink s n _).trans (forLenses (fun t i => departLens t n i) _)).trans (enterProbing _ n)
    · exact enterProbing s n

theorem sendNumbered (s : State) (n : Nat) (b : PeerBody) : s.Eases X O (s.sendNumbered n b) := by
  unfold State.sendNumbered
  split
  · exact .refl s
  · split
    · exact modLink s n _
    · exact takeDown s n

theorem sendBorder (s : State) (n i : Nat) (m : BorderMessage) : s.Eases X O (s.sendBorder n i m) := by
  unfold State.sendBorder
  split
  · exact .refl s
  · split
    · exact sendNumbered s n _
    · exact .refl s

theorem tellGrant (s : State) (i : Nat) (x : LensSide) : s.Eases X O (s.tellGrant i x) := by
  cases x with
  | site j => exact grantRobot s j
  | remote n _ => exact sendBorder s n i _

theorem tellDeny (s : State) (i : Nat) (r : RefuseReason) (x : LensSide) : s.Eases X O (s.tellDeny i r x) := by
  cases x with
  | site j => exact denyRobot s j _
  | remote n _ => exact sendBorder s n i _

/-! ### One lens -/

theorem releaseDecided {s : State} {i : Nat} {l : Lens} {d : Decided} (hl : s.lenses[i]? = some l)
    (hb : l.body = .decided d) : s.Eases X O (s.releaseDecided i l d) := by
  have hset : s.Eases X O (s.setDecided i d.release) := setDecided hl hb fun _ p hp => by
    unfold Decided.release
    split
    · exact hp
    · exact nofun
    · exact hp
  unfold State.releaseDecided
  simp only
  split
  · exact hset.trans (tellGrant _ _ _)
  · exact hset

theorem denyWaiter {s : State} {i : Nat} {l : Lens} {d : Decided} (r : RefuseReason) (hl : s.lenses[i]? = some l)
    (hb : l.body = .decided d) : s.Eases X O (s.denyWaiter i l d r) := by
  unfold State.denyWaiter
  split
  · exact .refl s
  · exact .trans (setDecided (d' := d.dropWaiter) hl hb fun _ _ _ => nofun) (tellDeny _ _ _ _)

theorem holdingToPin {s : State} {i : Nat} {l : Lens} {d : Decided} (p : Party) (hl : s.lenses[i]? = some l)
    (hb : l.body = .decided d) : s.Eases X O (s.holdingToPin i l d p) := by
  have hset : s.Eases X O (s.setDecided i (d.toPin p)) := setDecided hl hb fun _ _ _ => nofun
  unfold State.holdingToPin
  simp only
  split
  · exact hset
  · exact hset.trans (tellDeny _ _ _ _)

theorem clientTo {s : State} {i : Nat} {l : Lens} {c : Client} (st : ClaimState) (m : BorderMessage)
    (hl : s.lenses[i]? = some l) (hb : l.body = .client c) (h : X ∨ st ≠ .claiming) :
    s.Eases X O (s.clientTo i l c st m) :=
  .trans (setClient hl hb fun hx _ => h.resolve_left hx) (sendBorder _ _ i m)

theorem moveEndLens (s : State) (site i : Nat) : s.Eases X O (s.moveEndLens site i) := by
  unfold State.moveEndLens
  split
  · exact .refl s
  · rename_i l hl
    split
    · exact .refl s
    · split
      · rename_i d hb
        split
        · exact releaseDecided hl hb
        · split
          · exact denyWaiter _ hl hb
          · split
            · exact setDecided hl hb fun _ _ _ => nofun
            · exact .refl s
      · rename_i c hb
        split
        · exact clientTo _ _ hl hb (.inr nofun)
        · exact clientTo _ _ hl hb (.inr nofun)
        all_goals exact .refl s

theorem lossLens (s : State) (site i : Nat) : s.Eases X O (s.lossLens site i) := by
  unfold State.lossLens
  split
  · exact .refl s
  · rename_i l hl
    split
    · exact .refl s
    · split
      · rename_i d hb
        split
        · exact holdingToPin _ hl hb
        · split
          · exact releaseDecided hl hb
          · exact .refl s
      · rename_i c hb
        split
        · exact clientTo _ _ hl hb (.inr nofun)
        · exact clientTo _ _ hl hb (.inr nofun)
        all_goals exact .refl s

/-! ### The end of a move (R96) -/

/-- The outcome of an end, where it has one. -/
def OutIn (O : MoveOutcome → Prop) (out : Option (MoveOutcome × Option DenyReason)) : Prop :=
  ∀ o reason, out = some (o, reason) → O o

theorem recordEnd (s : State) (site : Nat) (kind : MoveKind) (limited : Bool) {o : MoveOutcome}
    (reason : Option DenyReason) (h : O o) : s.Eases X O (s.recordEnd site kind limited o reason) := by
  unfold State.recordEnd
  split
  · exact .refl s
  · rename_i r _
    have ht := (record (X := X) s ⟨site, kind, o, r.believed, r.epoch, limited, reason⟩ h).trans
      (modRobot _ site fun r => r.recorded kind o)
    simp only
    split
    · exact ht.trans (.count _ o h)
    · exact ht

theorem finishMove (s : State) (site : Nat) (st : RobotState) {out : Option (MoveOutcome × Option DenyReason)}
    (h : OutIn O out) : s.Eases X O (s.finishMove site st out) := by
  unfold State.finishMove
  split
  · exact .refl s
  · have ht := ((forLenses (X := X) (O := O) (fun t i => moveEndLens t site i) s).trans (leaveQueues _ site)).trans
      (modRobot _ site fun r => { r with state := st, move := none, pollTime := none })
    simp only
    split
    · exact ht
    · exact ht.trans (recordEnd _ _ _ _ _ (h _ _ rfl))

theorem loseWith (s : State) (site : Nat) (cause : LostCause) {out : Option (MoveOutcome × Option DenyReason)}
    (h : OutIn O out) : s.Eases X O (s.loseWith site cause out) := by
  have ht := (modRobot (X := X) (O := O) s site fun r => { r.forget with anchor := none }).trans
    (forLenses (fun t i => lossLens t site i) _)
  unfold State.loseWith
  simp only
  split
  · exact ht.trans (modRobot _ _ _)
  · exact ht.trans (finishMove _ _ _ h)

theorem endAtRest (s : State) (site : Nat) {out : Option (MoveOutcome × Option DenyReason)} (h : OutIn O out) :
    s.Eases X O (s.endAtRest site out) := by
  unfold State.endAtRest
  split
  · exact .refl s
  · split
    · exact .refl s
    · split
      · exact loseWith s _ _ h
      · exact finishMove s _ _ h

theorem outIn_none : OutIn O none := nofun

theorem outIn_some {o : MoveOutcome} (reason : Option DenyReason) (h : O o) : OutIn O (some (o, reason)) := by
  rintro _ _ ⟨⟩
  exact h

/-! ### The close of an event (R93, R96, R97) -/

theorem settle (s : State) (h : O .denied) : s.Eases X O s.settle := by
  have hends : ∀ (n : Nat) (s : State), s.Eases X O (s.settleDenials n) := by
    intro n
    induction n with
    | zero => exact fun s => .refl s
    | succ n ih =>
      intro s
      unfold State.settleDenials
      split
      · exact .refl s
      · refine .trans ?_ (ih _)
        unfold State.endDenied
        split
        · exact .refl s
        · exact endAtRest s _ (outIn_some _ h)
  exact hends _ s

theorem closeEvent (s t : State) (h : O .denied) : t.Eases X O (s.closeEvent t) := by
  unfold State.closeEvent
  simp only
  split
  · exact .queue t _ t.overflow t.notices.outcomeOverflow ⟨_, h⟩
  · exact .queue t _ true true ⟨_, h⟩

theorem close (s t : State) (h : O .denied) : t.Eases X O (s.close t) :=
  (settle t h).trans (closeEvent s _ h)

/-! ### What it leaves -/

/-- With no outcome to record the books stay as they are. -/
theorem books {s t : State} (h : s.Eases X (fun _ => False) t) : t.books = s.books := by
  induction h with
  | refl => rfl
  | trans _ _ h1 h2 => exact h2.trans h1
  | quiet h _ => exact h
  | lens => rfl
  | record _ _ h => exact h.elim
  | count _ _ h => exact h.elim
  | queue _ _ _ _ h => exact h.elim fun _ h => h.elim

/-- A side that does not wait goes on not waiting. -/
theorem unwaited {s t : State} (h : s.Eases False O t) {i : Nat} {l : Lens} {p : Party} (hl : s.lenses[i]? = some l)
    (hp : l.body.Unwaited p) : ∃ l', t.lenses[i]? = some l' ∧ l'.body.Unwaited p := by
  induction h generalizing l with
  | refl => exact ⟨l, hl, hp⟩
  | trans _ _ h1 h2 =>
    obtain ⟨l1, hl1, hp1⟩ := h1 hl hp
    exact h2 hl1 hp1
  | quiet _ h => exact ⟨l, h ▸ hl, hp⟩
  | lens s j f h =>
    simp only [State.modLens, List.getElem?_modify, hl]
    by_cases hji : j = i
    · subst hji
      exact ⟨{ l with body := f l.body }, by simp, h id l hl p hp⟩
    · exact ⟨l, by simp [hji], hp⟩
  | record => exact ⟨l, hl, hp⟩
  | count s o _ =>
    refine ⟨l, ?_, hp⟩
    unfold State.countFieldEnd State.endField
    split <;> exact hl
  | queue => exact ⟨l, hl, hp⟩

end State.Eases

end Sys2Proof.Machine
end

section
/-! The time limits (R58, R87, R90, R116). -/

namespace Sys2Proof.Machine

/-! ### A site in a walk over the sites -/

/-- A site's robot in a walk in which each site gives up at most what is its own: it is told before and after its
own turn. -/
theorem State.Ebbs.forSites_robot {X : Nat → Prop} {s : State} {act : Nat → State → State} {i : Nat} {x : Robot}
    (h : ∀ (u : State) j, u.Ebbs (fun k => k = j) X (act j u)) (hx : s.robots[i]? = some x) :
    ∃ u x1, s.Ebbs (fun j => j < i) X u ∧ u.robots[i]? = some x1 ∧ x.Told x1 ∧
      ∀ x2, (act i u).robots[i]? = some x2 → ∃ x3, (s.forSites act).robots[i]? = some x3 ∧ x2.Told x3 := by
  obtain ⟨u, hu, hv⟩ := forSites_at h (List.getElem?_eq_some_iff.mp hx).1
  obtain ⟨x1, hx1, ht⟩ := hu.told hx (lt_irrefl i)
  exact ⟨u, x1, hu, hx1, ht, fun x2 hx2 => hv.told hx2 (lt_irrefl i)⟩

/-- A robot with a state of no move is told nothing. -/
theorem Robot.Told.resting {r r' : Robot} (h : r.Told r') (hst : r.state.moves = false) : r' = r := by
  refine h.same ?_ ?_ ?_ <;> intro hs <;> simp [hs, RobotState.moves] at hst

/-- A robot that halts is told nothing. -/
theorem Robot.Told.halting {r r' : Robot} (h : r.Told r') (hst : r.state = .halting) : r' = r := by
  refine h.same ?_ ?_ ?_ <;> simp [hst]

/-! ### The wait deadline (R58) -/

/-- A site whose wait has ended does not wait at the lens. -/
theorem State.endWait_unwaited {s : State} {site i : Nat} {l : Lens} {p : Party} (hl : s.lenses[i]? = some l)
    (hp : l.partyOf site = some p) : ∃ l', (s.endWait site i).lenses[i]? = some l' ∧ l'.body.Unwaited p := by
  have hset : ∀ b : LensBody, (s.modLens i fun _ => b).lenses[i]? = some { l with body := b } := fun b => by
    simp [State.modLens, hl]
  unfold State.endWait
  simp only [hl]
  cases hb : l.body with
  | decided d =>
    by_cases hw : d.waiter = some p
    · have hgate : (d.waiter.isSome && d.waiter == l.partyOf site) = true := by simp [hw, hp]
      simp only [if_pos hgate]
      exact ⟨_, hset _, nofun⟩
    · have hgate : ¬ (d.waiter.isSome && d.waiter == l.partyOf site) = true := by simp [hp, hw]
      simp only [if_neg hgate]
      exact ⟨l, hl, by rw [hb]; exact hw⟩
  | client c =>
    by_cases hc : c.claim = .claiming
    · simp only [if_pos hc]
      exact (State.Eases.sendBorder (O := fun _ => True) _ _ i _).unwaited (p := p) (hset _) nofun
    · simp only [if_neg hc]
      exact ⟨l, hl, by rw [hb]; exact hc⟩

/-- The end of a wait may change its lens, and has told its robot at most. -/
theorem State.timeoutWait_ebbs (s : State) (site : Nat) (m : Move) (h : s.targetLensOf site = m.targetLens) :
    ∃ u, s.Ebbs (fun _ => False) (fun _ => True) u ∧ s.timeoutWait site = u.endAtRest site (some (.timeout, none)) ∧
      ∀ i l p, m.targetLens = some i → s.lenses[i]? = some l → l.partyOf site = some p →
        ∃ l', u.lenses[i]? = some l' ∧ l'.body.Unwaited p := by
  unfold State.timeoutWait
  rw [h]
  cases m.targetLens with
  | none => exact ⟨s, .refl s, rfl, fun _ _ _ h => absurd h (by simp)⟩
  | some i =>
    refine ⟨s.endWait site i, .endWait s trivial, rfl, fun j l p hj hl hp => ?_⟩
    cases hj
    exact State.endWait_unwaited hl hp

/-- A step of the engine, closed, changes the engine's parts alone. -/
theorem State.Ebbs.close_engine {E X : Nat → Prop} {s t : State} (h : s.Ebbs E X t) (s0 : State) :
    s0.close t = s.engine (s0.close t) := by
  obtain ⟨F, hc, -⟩ := s0.close_ebbs t
  exact ((h.mono (E' := fun _ => True) (X' := fun _ => True) (fun _ _ => trivial) fun _ _ => trivial).trans
    (hc.mono (fun _ _ => trivial) fun _ _ => trivial)).engine

theorem State.movingIn_of {s : State} {site : Nat} {r : Robot} {m : Move} (hr : s.robots[site]? = some r)
    (hm : r.move = some m) : s.movingIn site r.state = true := by
  simp [State.movingIn, hr, hm]

/-- WAIT_DEADLINE_PASSES ends the wait and its move (R58). -/
theorem waitDeadlinePasses_ends {s : State} {site : Nat} {r : Robot} {m : Move} (hr : s.robots[site]? = some r)
    (hm : r.move = some m) (hst : r.state = .waitLens) :
    ∃ t r', exec (.waitDeadlinePasses site) s = .next t ∧ t = s.engine t ∧ t.robots[site]? = some r' ∧
      r.EndedAtRest r' .timeout ∧
      ∀ i l p, m.targetLens = some i → s.lenses[i]? = some l → l.partyOf site = some p →
        ∃ l', t.lenses[i]? = some l' ∧ l'.body.Unwaited p := by
  have htarget : s.targetLensOf site = m.targetLens := by simp [State.targetLensOf, hr, hm]
  obtain ⟨u, hu, heq, hlens⟩ := s.timeoutWait_ebbs site m htarget
  obtain ⟨r1, hr1, ht⟩ := hu.told hr id
  obtain ⟨m1, hm1, -⟩ := ht.someMove hm
  obtain ⟨r2, hr2, hend, -, hmoves⟩ := State.endAtRest_ended .timeout none hr1 hm1
  have hexec : exec (.waitDeadlinePasses site) s = .next (s.close (s.timeoutWait site)) :=
    if_pos (hst ▸ State.movingIn_of hr hm)
  have hends : s.Ebbs (fun j => j = site) (fun _ => True) (u.endAtRest site (some (.timeout, none))) :=
    (hu.mono (fun _ h => h.elim) fun _ => id).trans (.endAtRest u _ rfl)
  rw [heq] at hexec
  refine ⟨_, r2, hexec, hends.close_engine s, State.close_same hr2 hmoves, hend.congr ht.move.symm,
    fun i l p hi hl hp => ?_⟩
  obtain ⟨l1, hl1, hp1⟩ := hlens i l p hi hl hp
  have heases : u.Eases False (fun _ => True) (s.close (u.endAtRest site (some (.timeout, none)))) :=
    (State.Eases.endAtRest u site fun _ _ _ => trivial).trans (.close s _ trivial)
  exact heases.unwaited hl1 hp1

/-! ### The limits of legs and halts (R87, R90) -/

/-- The list of addressed HALTs with a site in it, once (R155). -/
theorem State.queueHalt_eq {s : State} {site : Nat} {r : Robot} (hr : s.robots[site]? = some r) :
    s.queueHalt site = s.modBus r.bus fun b =>
      { b with haltAddressed := if site ∈ b.haltAddressed then b.haltAddressed else b.haltAddressed ++ [site] } := by
  unfold State.queueHalt
  rw [State.busOf_eq hr]
  refine congrArg (s.modBus r.bus) (funext fun b => ?_)
  by_cases h : site ∈ b.haltAddressed <;> simp [h]

/-- LEG_TIMEOUT halts the leg (R87, R89). -/
theorem legTimeout_halts {s : State} {site started : Nat} {r : Robot} {m : Move} (hr : s.robots[site]? = some r)
    (hm : r.move = some m) (hst : r.state = .inLeg) (hd : m.dispatch = some started) :
    exec (.legTimeout site) s = .next ((s.modBus r.bus fun b =>
      { b with haltAddressed := if site ∈ b.haltAddressed then b.haltAddressed else b.haltAddressed ++ [site] }).modRobot
        site fun y =>
          { y with
            state := .halting
            move := some { m with haltCause := some .stall, haltTime := some s.now, dispatch := none } }) := by
  have hgate : s.legRuns site = true := by simp [State.legRuns, hr, hst, hm, hd]
  have hexec : exec (.legTimeout site) s = .next ((s.queueHalt site).enterHalting site .stall) := if_pos hgate
  rw [hexec, State.queueHalt_eq hr]
  refine congrArg _ (State.modRobot_congr hr ?_)
  rw [hm]
  rfl

/-- HALT_TIME_LIMIT loses the robot and queues a HALT to it (R90). -/
theorem haltTimeLimit_loses {s : State} {site : Nat} {r : Robot} {m : Move} (hr : s.robots[site]? = some r)
    (hm : r.move = some m) (hst : r.state = .halting) :
    ∃ t, exec (.haltTimeLimit site) s = .next t ∧ t = s.engine t ∧
      t.robots[site]? = some (r.lostFor .uncertain) ∧ s.LossConverted t site none ∧
      ∀ b, s.buses[r.bus]? = some b → ∃ b', t.buses[r.bus]? = some b' ∧
        b'.haltAddressed = if site ∈ b.haltAddressed then b.haltAddressed else b.haltAddressed ++ [site] := by
  have hlost := State.lose_robot .uncertain hr
  have hlose : s.Ebbs (fun j => j = site) (fun _ => False) (s.lose site .uncertain) := .lose s .uncertain rfl
  have hqueue := State.queueHalt_eq hlost
  have hexec : exec (.haltTimeLimit site) s = .next (s.close ((s.lose site .uncertain).queueHalt site)) :=
    if_pos (hst ▸ State.movingIn_of hr hm)
  obtain ⟨hrobot, hloss⟩ := State.lose_close (s0 := s) (v := (s.lose site .uncertain).queueHalt site) .uncertain hr rfl
  obtain ⟨F, hclose, -⟩ := s.close_ebbs ((s.lose site .uncertain).queueHalt site)
  refine ⟨_, hexec, ?_, hrobot, hloss, fun b hb => ?_⟩
  · have h1 := hclose.engine
    rw [hqueue] at h1 ⊢
    rw [h1, hlose.engine]
    rfl
  · obtain ⟨b1, hb1, he1⟩ := hlose.buses.get hb
    have hb2 : ((s.lose site .uncertain).queueHalt site).buses[r.bus]? = some { b1 with
        haltAddressed := if site ∈ b1.haltAddressed then b1.haltAddressed else b1.haltAddressed ++ [site] } := by
      rw [hqueue]
      simp [State.modBus, Robot.lostFor, hb1]
    obtain ⟨b3, hb3, he3⟩ := hclose.buses.get hb2
    refine ⟨b3, hb3, ?_⟩
    rw [he3, he1]

/-! ### The deadline (R46, R116) -/

/-- What an expiry writes down: the field's two flags, the timer's two counts and the notice DEADLINE. -/
def State.expiry (s : State) : Bool × Bool × Nat × Nat × Bool :=
  (s.field.deadlinePassed, s.field.cut, s.timer.remaining, s.timer.overtime, s.notices.deadline)

/-- DEADLINE_EXPIRY of a running field (R116). -/
theorem exec_deadlineExpiry {s : State} (hphase : s.timer.phase = .down) (hfield : s.field.state = .running) :
    (s.params.deadlineAction = .runOn → exec .deadlineExpiry s = .next s.expireTimer) ∧
      (s.params.deadlineAction = .cut →
        exec .deadlineExpiry s = .next (s.expireTimer.markCut.sweep State.cutSite)) := by
  change (_ → execDeadlineExpiry s = _) ∧ (_ → execDeadlineExpiry s = _)
  unfold execDeadlineExpiry
  rw [if_pos ⟨hphase, hfield⟩]
  exact ⟨fun h => by simp only [h], fun h => by simp only [h]⟩

/-- The ends of moves keep what an expiry has written down. -/
theorem State.Eases.expiry {X : Prop} {O : MoveOutcome → Prop} {s t : State} (h : s.Eases X O t) :
    t.expiry = s.expiry := by
  induction h with
  | refl => rfl
  | trans _ _ h1 h2 => exact h2.trans h1
  | quiet h _ =>
    exact congrArg (fun b : List OutcomeRecord × Bool × FieldRecord × Timer × Notices =>
      (b.2.2.1.deadlinePassed, b.2.2.1.cut, b.2.2.2.1.remaining, b.2.2.2.1.overtime, b.2.2.2.2.deadline)) h
  | count s o _ =>
    unfold State.countFieldEnd State.endField
    split <;> rfl
  | lens | record | queue => rfl

theorem State.cutSite_ebbs (i : Nat) (s : State) : s.Ebbs (fun k => k = i) (fun _ => False) (s.cutSite i) := by
  unfold State.cutSite
  split
  · exact .endAtRest s _ rfl
  · exact .refl s

theorem State.cutSite_eases (i : Nat) (s : State) : s.Eases False (fun _ => True) (s.cutSite i) := by
  unfold State.cutSite
  split
  · exact .endAtRest s i fun _ _ _ => trivial
  · exact .refl s

theorem State.cutSite_of {s : State} {i : Nat} {r : Robot} (hr : s.robots[i]? = some r) :
    s.cutSite i = if r.inField = true ∧ r.atRest = true then s.endAtRest i (some (.cut, none)) else s := by
  simp [State.cutSite, hr, Robot.atRest]

theorem Robot.Told.inField {r r' : Robot} (h : r.Told r') : r'.inField = r.inField := by
  have := congrArg (fun o : Option Move => o.any fun m => m.kind == .field) h.move
  rw [Option.any_map, Option.any_map] at this
  exact this

/-- A robot after the walk of a CUT: a FIELD move at rest has ended, and any other robot is told at most (R116). -/
theorem State.cutting_sites {s : State} {i : Nat} {x : Robot} (hx : s.robots[i]? = some x) :
    ∃ r, (s.forSites State.cutSite).robots[i]? = some r ∧
      if x.inField = true ∧ x.atRest = true then x.EndedAtRest r .cut ∧ r.state.moves = false else x.Told r := by
  obtain ⟨u, x1, -, hx1, ht1, hafter⟩ := Ebbs.forSites_robot (fun t j => State.cutSite_ebbs j t) hx
  have hact := State.cutSite_of hx1
  rw [ht1.inField, ht1.atRest] at hact
  by_cases hc : x.inField = true ∧ x.atRest = true
  · rw [if_pos hc] at hact
    obtain ⟨m, hm⟩ : ∃ m, x.move = some m := by
      obtain ⟨m, hm, -⟩ := (Option.any_eq_true _ _).mp hc.1
      exact ⟨m, hm⟩
    obtain ⟨m1, hm1, -⟩ := ht1.someMove hm
    obtain ⟨r2, hr2, hend, -, hmoves⟩ := State.endAtRest_ended .cut none hx1 hm1
    obtain ⟨r3, hr3, ht3⟩ := hafter r2 (by rw [hact]; exact hr2)
    rw [ht3.resting hmoves] at hr3
    exact ⟨r2, hr3, by rw [if_pos hc]; exact ⟨hend.congr ht1.move.symm, hmoves⟩⟩
  · rw [if_neg hc] at hact
    obtain ⟨r3, hr3, ht3⟩ := hafter x1 (by rw [hact]; exact hx1)
    exact ⟨r3, hr3, by rw [if_neg hc]; exact ht1.trans ht3⟩

/-- A robot after a CUT (R116). -/
theorem State.cutting_robots {s s0 : State} {i : Nat} {x : Robot} (hs : s.MovesSound) (hx : s.robots[i]? = some x) :
    ∃ x', (s0.close (s.forSites State.cutSite)).robots[i]? = some x' ∧
      (x.atRest = true → x.inField = true → x.EndedAtRest x' .cut) ∧
      (x.state = .inLeg → x'.state = .inLeg ∧ x'.move.map (·.kind) = x.move.map (·.kind)) ∧
      (x.state = .halting ∨ x.move = none → x' = x) := by
  obtain ⟨r, hr, hcase⟩ := State.cutting_sites hx
  by_cases hrest : x.atRest = true
  · have hsome : x.move.isSome = true := by
      rw [hs.at hx]
      revert hrest
      unfold Robot.atRest RobotState.moves
      cases x.state <;> simp
    have hother : ¬ x.state = .inLeg ∧ ¬ (x.state = .halting ∨ x.move = none) := by
      refine ⟨fun h => ?_, fun h => ?_⟩
      · simp [Robot.atRest, h] at hrest
      · rcases h with h | h
        · simp [Robot.atRest, h] at hrest
        · simp [h] at hsome
    by_cases hf : x.inField = true
    · rw [if_pos ⟨hf, hrest⟩] at hcase
      exact ⟨r, State.close_same hr hcase.2, fun _ _ => hcase.1, fun h => (hother.1 h).elim, fun h => (hother.2 h).elim⟩
    · obtain ⟨r', hr', -⟩ := State.close_enabled (s := s0) hr
      exact ⟨r', hr', fun _ h => (hf h).elim, fun h => (hother.1 h).elim, fun h => (hother.2 h).elim⟩
  · rw [if_neg fun h => hrest h.2] at hcase
    obtain ⟨r', hr', ht⟩ := State.close_told (s := s0) hr (hcase.atRest.trans (Bool.eq_false_of_not_eq_true hrest))
    have hall := hcase.trans ht
    refine ⟨r', hr', fun h => (hrest h).elim, fun h => ⟨?_, ?_⟩, fun h => ?_⟩
    · rw [hall.keepsState (by simp [h]), h]
    · have := congrArg (Option.map Move.kind) hall.move
      simp only [Option.map_map] at this
      exact this
    · rcases h with h | h
      · exact hall.halting h
      · exact hall.resting (by rw [← hs.at hx, h]; rfl)

end Sys2Proof.Machine

open Sys2Proof Sys2Proof.Machine

/-- Settles O56: a wait, a leg and a halt end by what their limit does to one robot, and a CUT is a walk in which each
site gives up at most its own move. -/
theorem timeLimitsEndMovesAndFields : Obligations.TimeLimitsEndMovesAndFields := by
  refine ⟨fun s site r m hr hm => ⟨fun hst => ?_, fun started hst hd => legTimeout_halts hr hm hst hd, fun hst => ?_⟩,
    fun s hphase hfield hs => ⟨fun haction => ?_, fun haction => ?_⟩⟩
  · obtain ⟨t, r', hexec, hengine, hr', hend, hlens⟩ := waitDeadlinePasses_ends hr hm hst
    refine ⟨t, r', hexec, hengine, hr', hend, fun i l p hi hl hp => ?_⟩
    obtain ⟨l', hl', hun⟩ := hlens i l p hi hl hp
    exact ⟨l', hl', fun d hd => by rwa [hd] at hun, fun c hc => by rwa [hc] at hun⟩
  · obtain ⟨t, hexec, hengine, hr', hloss, hbus⟩ := haltTimeLimit_loses hr hm hst
    refine ⟨t, _, hexec, hengine, hr', rfl, rfl, rfl, rfl, hloss, fun h => ?_, fun h => ?_, hbus⟩
    · simp [Robot.lostFor, hm, h]
    · simp [Robot.lostFor, hm, h]
  · exact (exec_deadlineExpiry hphase hfield).1 haction
  · let u := s.expireTimer.markCut
    have hexec : exec .deadlineExpiry s = .next (u.close (u.forSites State.cutSite)) :=
      (exec_deadlineExpiry hphase hfield).2 haction
    have hengine : u.close (u.forSites State.cutSite) = s.engine (u.close (u.forSites State.cutSite)) := by
      have hwalk : u.Ebbs (fun _ => True) (fun _ => False) (u.forSites State.cutSite) :=
        .forSites (fun t i => (State.cutSite_ebbs i t).mono (fun _ _ => trivial) fun _ => id) u
      conv => lhs; rw [hwalk.close_engine u]
      rfl
    have hexpiry : (u.close (u.forSites State.cutSite)).expiry = u.expiry :=
      ((State.Eases.forSites (fun t i => State.cutSite_eases i t) u).trans (.close u _ trivial)).expiry
    have hu : u.expiry = (true, true, 0, 0, true) := rfl
    obtain ⟨hpassed, hcut, hremaining, hovertime, hnotice⟩ := by
      simpa only [hu, State.expiry, Prod.mk.injEq] using hexpiry
    exact ⟨_, hexec, hengine, hpassed, hcut, hnotice, hremaining, hovertime, fun i x hx =>
      State.cutting_robots (s := u) hs hx⟩
end

section
/-! RESTART (R89, R93, R104, R105). -/

namespace Sys2Proof.Machine

/-! ### Ends with no outcome -/

/-- A move that ends at rest with no outcome: its robot has no move and keeps its last outcome (R88, R93). -/
structure Robot.EndedSilently (r r' : Robot) : Prop where
  move : r'.move = none
  moves : r'.state.moves = false
  kept : r'.lastOutcome = r.lastOutcome ∧ r'.epoch = r.epoch ∧ r'.enabled = r.enabled
  state : if r.move.any Move.isHome then ∃ cause, r'.state = .lost cause else r'.state = .idle

theorem State.endAtRest_silently {s : State} {i : Nat} {r : Robot} {m : Move} (hr : s.robots[i]? = some r)
    (hm : r.move = some m) : ∃ r', (s.endAtRest i none).robots[i]? = some r' ∧ r.EndedSilently r' := by
  unfold State.endAtRest
  simp only [hr, hm]
  by_cases hh : m.isHome = true
  · rw [if_pos hh]
    refine ⟨_, loseWith_robot _ _ hr, Robot.lostWith_move _ _ _, ?_, ?_, ?_⟩
    · rw [Robot.lostWith_state]; rfl
    · simp only [Robot.lostWith, hm]; exact ⟨rfl, rfl, rfl⟩
    · rw [hm, Option.any_some, if_pos hh]
      exact ⟨_, Robot.lostWith_state _ _ _⟩
  · rw [if_neg hh]
    refine ⟨_, finishMove_robot _ _ hr hm, rfl, rfl, ⟨rfl, rfl, rfl⟩, ?_⟩
    rw [hm, Option.any_some, if_neg hh]
    rfl

/-! ### RESTART at one site -/

theorem State.haltSite_ebbs (cause : HaltCause) (out : Option (MoveOutcome × Option DenyReason)) (i : Nat) (s : State) :
    s.Ebbs (fun k => k = i) (fun _ => False) (s.haltSite cause out i) := by
  have hmod : ∀ f : Robot → Robot, (∀ r, (f r).move.isSome = true → r.move.isSome = true) →
      s.Ebbs (fun k => k = i) (fun _ => False) (s.modRobot i f) := fun f hf =>
    .robot s fun r _ => ⟨fun h => absurd rfl h, hf r⟩
  unfold State.haltSite
  split
  · exact .refl s
  · split
    · exact .endAtRest s out rfl
    · exact .endAtRest s out rfl
    · exact hmod _ fun r h => by simpa using h
    · split
      · exact hmod _ fun r h => by simpa using h
      · exact .refl s
    all_goals exact .refl s

theorem State.haltSite_eases (cause : HaltCause) (i : Nat) (s : State) :
    s.Eases False (fun _ => False) (s.haltSite cause none i) := by
  unfold State.haltSite
  split
  · exact .refl s
  · split
    · exact .endAtRest s i nofun
    · exact .endAtRest s i nofun
    · exact .modRobot s i _
    · split
      · exact .modRobot s i _
      · exact .refl s
    all_goals exact .refl s

section
variable {s : State} {i : Nat} {r : Robot} (hr : s.robots[i]? = some r)
include hr

theorem State.haltSite_atRest (cause : HaltCause) (out : Option (MoveOutcome × Option DenyReason))
    (h : r.atRest = true) : s.haltSite cause out i = s.endAtRest i out := by
  have hst : r.state = .queued ∨ r.state = .waitLens := by simpa [Robot.atRest] using h
  unfold State.haltSite
  rcases hst with hst | hst <;> simp only [hr, hst]

theorem State.haltSite_inLeg (cause : HaltCause) (out : Option (MoveOutcome × Option DenyReason))
    (h : r.state = .inLeg) : s.haltSite cause out i = s.enterHalting i cause := by
  unfold State.haltSite
  simp only [hr, h]

theorem State.haltSite_halting (out : Option (MoveOutcome × Option DenyReason)) (h : r.state = .halting) :
    s.haltSite .restart out i = s.modMove i fun m => { m with haltCause := some .restart } := by
  unfold State.haltSite
  simp only [hr, h, if_true]

theorem State.haltSite_resting (cause : HaltCause) (out : Option (MoveOutcome × Option DenyReason))
    (h : r.state.moves = false) : s.haltSite cause out i = s := by
  unfold State.haltSite
  simp only [hr]
  cases hst : r.state
  case queued | waitLens | inLeg | halting =>
    rw [hst] at h
    cases h
  all_goals rfl

end

/-- What RESTART makes of a robot (R89, R93, R104). -/
structure Robot.Restarted (x x' : Robot) (now : Nat) : Prop where
  kept : x'.lastOutcome = x.lastOutcome ∧ x'.epoch = x.epoch ∧ x'.enabled = x.enabled
  calm : x'.atRest = false
  ended : x.atRest = true → x'.move = none ∧
    if x.move.any Move.isHome then ∃ cause, x'.state = .lost cause else x'.state = .idle
  halted : x.state = .inLeg → x.HaltedFrom x' .restart now
  halting : x.state = .halting → x'.state = .halting ∧ ∃ m', x'.move = some m' ∧
    m'.haltCause = some .restart ∧ m'.haltTime = x.move.bind (·.haltTime)
  still : x.move = none → x' = x

/-- The four states of a move and the others. -/
theorem RobotState.moves_cases (x : Robot) :
    x.atRest = true ∨ x.state = .inLeg ∨ x.state = .halting ∨ x.state.moves = false := by
  unfold Robot.atRest RobotState.moves
  cases x.state <;> simp

theorem Robot.atRest_moves {x : Robot} (h : x.atRest = true) : x.state.moves = true := by
  unfold Robot.atRest at h
  unfold RobotState.moves
  cases hst : x.state <;> simp_all

theorem Robot.atRest_of_moves {x : Robot} (h : x.state.moves = false) : x.atRest = false :=
  Bool.eq_false_of_not_eq_true fun h' => by simp [Robot.atRest_moves h'] at h

/-- A robot at rest: its move ends with no outcome. -/
theorem Robot.EndedSilently.restarted {x x1 x' : Robot} (ht : x.Told x1) (h : x1.EndedSilently x')
    (hrest : x.atRest = true) (hm : x.move.isSome = true) (now : Nat) : x.Restarted x' now where
  kept := by rw [ht.rest] at h; exact h.kept
  calm := Robot.atRest_of_moves h.moves
  ended _ := by
    have hhome : x1.move.any Move.isHome = x.move.any Move.isHome := by
      have := congrArg (fun o : Option Move => o.any Move.isHome) ht.move
      rw [Option.any_map, Option.any_map] at this
      exact this
    exact ⟨h.move, hhome ▸ h.state⟩
  halted hst := by simp [Robot.atRest, hst] at hrest
  halting hst := by simp [Robot.atRest, hst] at hrest
  still hn := by simp [hn] at hm

/-- A leg of `x`, told until then, is halted at time `now` (R89). -/
theorem Robot.Told.restarted {x x1 : Robot} (ht : x.Told x1) (hst : x.state = .inLeg) (hm : x.move.isSome = true)
    (now : Nat) : x.Restarted { x1 with
      state := .halting
      move := x1.move.map fun m => { m with haltCause := some .restart, haltTime := some now, dispatch := none } }
    now where
  kept := by rw [ht.rest]; exact ⟨rfl, rfl, rfl⟩
  calm := rfl
  ended h := by simp [Robot.atRest, hst] at h
  halted _ := by
    refine ⟨rfl, by rw [ht.rest], by rw [ht.rest], fun m hxm => ?_⟩
    obtain ⟨m1, hm1, heq⟩ := ht.someMove hxm
    refine ⟨{ m1 with haltCause := some .restart, haltTime := some now, dispatch := none }, by simp [hm1], rfl, rfl,
      rfl, ?_, ?_⟩
    · rw [heq]
    · rw [heq]
  halting h := by rw [hst] at h; cases h
  still hn := by simp [hn] at hm

/-- A robot that halts takes the cause RESTART (R89). -/
theorem Robot.restarted_of_halting {x : Robot} {m : Move} (hst : x.state = .halting) (hm : x.move = some m) (now : Nat) :
    x.Restarted { x with move := some { m with haltCause := some .restart } } now where
  kept := ⟨rfl, rfl, rfl⟩
  calm := by simp [Robot.atRest, hst]
  ended h := by simp [Robot.atRest, hst] at h
  halted h := by rw [hst] at h; cases h
  halting _ := ⟨hst, _, rfl, rfl, by rw [hm]; rfl⟩
  still h := by rw [hm] at h; cases h

theorem Robot.restarted_of_resting {x : Robot} (hst : x.state.moves = false) (now : Nat) : x.Restarted x now where
  kept := ⟨rfl, rfl, rfl⟩
  calm := Robot.atRest_of_moves hst
  ended h := by simp [Robot.atRest_moves h] at hst
  halted h := by rw [h] at hst; cases hst
  halting h := by rw [h] at hst; cases hst
  still _ := rfl

/-- A robot after the walk of RESTART. -/
theorem State.restarting_sites {s : State} {i : Nat} {x : Robot} (hs : s.MovesSound) (hx : s.robots[i]? = some x) :
    ∃ x', (s.forSites (State.haltSite .restart none)).robots[i]? = some x' ∧ x.Restarted x' s.now := by
  obtain ⟨u, x1, hu, hx1, ht1, hafter⟩ :=
    Ebbs.forSites_robot (fun t j => State.haltSite_ebbs .restart none j t) hx
  have hsome : x.state.moves = true → x.move.isSome = true := fun h => (hs.at hx).trans h
  have hmod : ∀ f : Robot → Robot, (u.modRobot i f).robots[i]? = some (f x1) := fun f => by simp [hx1]
  rcases RobotState.moves_cases x with hrest | hst | hst | hst
  · have hm := hsome (Robot.atRest_moves hrest)
    obtain ⟨m1, hm1⟩ := Option.isSome_iff_exists.mp (ht1.isSome.trans hm)
    obtain ⟨x2, hx2, hend⟩ := State.endAtRest_silently hx1 hm1
    obtain ⟨x3, hx3, ht3⟩ := hafter x2 (by rw [haltSite_atRest hx1 _ _ (ht1.atRest.trans hrest)]; exact hx2)
    exact ⟨x3, hx3, ht3.resting hend.moves ▸ hend.restarted ht1 hrest hm _⟩
  · have hst1 : x1.state = .inLeg := (ht1.keepsState (by simp [hst])).trans hst
    obtain ⟨x3, hx3, ht3⟩ := hafter _ (by rw [haltSite_inLeg hx1 _ _ hst1]; exact hmod _)
    have hnow : u.now = s.now := by rw [hu.frame]
    refine ⟨x3, hx3, ?_⟩
    rw [ht3.halting rfl, hnow]
    exact ht1.restarted hst (hsome (by rw [hst]; rfl)) _
  · have hsame : x1 = x := ht1.halting hst
    subst hsame
    obtain ⟨m, hm⟩ := Option.isSome_iff_exists.mp (hsome (by rw [hst]; rfl))
    obtain ⟨x3, hx3, ht3⟩ := hafter _ (by rw [haltSite_halting hx1 _ hst]; exact hmod _)
    refine ⟨x3, hx3, ?_⟩
    rw [ht3.halting hst, hm]
    exact Robot.restarted_of_halting hst hm _
  · have hsame : x1 = x := ht1.resting hst
    subst hsame
    obtain ⟨x3, hx3, ht3⟩ := hafter _ (by rw [haltSite_resting hx1 _ _ hst]; exact hx1)
    exact ⟨x3, hx3, ht3.resting hst ▸ Robot.restarted_of_resting hst _⟩

/-- After the walk of RESTART no robot is at rest with a move, so no denial waits. -/
theorem State.restarting_quiet {s : State} (hs : s.MovesSound) :
    (s.forSites (State.haltSite .restart none)).NoDenialWaits := by
  have hwalk : s.Ebbs (fun _ => True) (fun _ => False) (s.forSites (State.haltSite .restart none)) :=
    .forSites (fun t i => (State.haltSite_ebbs .restart none i t).mono (fun _ _ => trivial) fun _ => id) s
  intro r hr
  obtain ⟨i, hi⟩ := List.mem_iff_getElem?.mp hr
  obtain ⟨x, hx, -⟩ := hwalk.robots.get' hi
  obtain ⟨r', hr', hrestarted⟩ := State.restarting_sites hs hx
  cases hi.symm.trans hr'
  cases hd : r.deniedAtRest with
  | none => rfl
  | some reason =>
    have := Robot.deniedAtRest_atRest hd
    rw [hrestarted.calm] at this
    cases this

/-! ### The buses -/

/-- Broadcast HALTs are queued on the buses of a list. -/
theorem State.queueBroadcasts (l : List Nat) (s : State) :
    l.foldl State.queueBroadcast s = { s with buses := (l.foldl State.queueBroadcast s).buses } ∧
      ∀ (n : Nat) (b : Bus), s.buses[n]? = some b → ∃ v, (l.foldl State.queueBroadcast s).buses[n]? =
        some { b with haltBroadcast := v } ∧ (n ∈ l ∨ b.haltBroadcast = true → v = true) := by
  induction l generalizing s with
  | nil => exact ⟨rfl, fun n b hb => ⟨b.haltBroadcast, hb, fun h => h.resolve_left nofun⟩⟩
  | cons k l ih =>
    obtain ⟨hframe, hbuses⟩ := ih (s.queueBroadcast k)
    refine ⟨hframe, fun n b hb => ?_⟩
    by_cases hk : k = n
    · subst hk
      obtain ⟨v, hv, hset⟩ := hbuses k { b with haltBroadcast := true } (by simp [State.queueBroadcast, State.modBus, hb])
      exact ⟨v, hv, fun _ => hset (.inr rfl)⟩
    · obtain ⟨v, hv, hset⟩ := hbuses n b (by simp [State.queueBroadcast, State.modBus, hb, hk])
      exact ⟨v, hv, fun h => hset (h.imp_left fun h => (List.mem_cons.mp h).resolve_left (Ne.symm hk))⟩

theorem State.broadcastHalts_frame (s : State) : s.broadcastHalts = { s with buses := s.broadcastHalts.buses } :=
  (s.queueBroadcasts s.legBuses).1

/-- A bus with a robot in a leg gets a broadcast HALT (R89). -/
theorem State.broadcastHalts_bus {s : State} {n : Nat} {b : Bus} (hb : s.buses[n]? = some b) :
    ∃ v, s.broadcastHalts.buses[n]? = some { b with haltBroadcast := v } ∧
      ((∃ x ∈ s.robots, x.bus = n ∧ x.state = .inLeg) → v = true) := by
  obtain ⟨v, hv, hset⟩ := (s.queueBroadcasts s.legBuses).2 n b hb
  refine ⟨v, hv, fun ⟨x, hx, hbus, hst⟩ => hset (.inl ?_)⟩
  refine List.mem_filter.mpr ⟨List.mem_range.mpr (List.getElem?_eq_some_iff.mp hb).1, ?_⟩
  exact List.any_eq_true.mpr ⟨x, hx, by simp [hbus, hst]⟩

/-! ### The whole of RESTART -/

/-- The state in which RESTART walks over the sites. -/
def State.restarting (s : State) : State := { s with field := .reset, timer := .reset }.broadcastHalts

theorem State.restarting_frame (s : State) :
    s.restarting = { s with field := .reset, timer := .reset, buses := s.restarting.buses } :=
  State.broadcastHalts_frame _

/-- The walk leaves no denial and no record, so that its event closes as it is. -/
theorem State.restarted_eq {s : State} (hs : s.MovesSound) : s.restarted =
    (s.restarting.forSites (State.haltSite .restart none)).clearForRestart.enterMode s.restartMode := by
  have hsound : s.restarting.MovesSound := by
    rw [s.restarting_frame]
    exact hs
  have hbooks := (State.Eases.forSites (fun t i => State.haltSite_eases .restart i t) s.restarting).books
  have hclose : s.restarting.close (s.restarting.forSites (State.haltSite .restart none)) =
      s.restarting.forSites (State.haltSite .restart none) :=
    State.close_quiet' (State.restarting_quiet hsound) (congrArg Prod.fst hbooks)
  exact congrArg (fun t : State => t.clearForRestart.enterMode s.restartMode) hclose

theorem State.restarting_ebbs (s : State) :
    s.restarting.Ebbs (fun _ => True) (fun _ => False) (s.restarting.forSites (State.haltSite .restart none)) :=
  .forSites (fun t i => (State.haltSite_ebbs .restart none i t).mono (fun _ _ => trivial) fun _ => id) _

theorem Mode.same_eq (m : Mode) {n : Mode} (h : n = .halted ∨ n = .init) : m.same n = (m == n) := by
  rcases h with rfl | rfl <;> cases m <;> rfl

/-- What RESTART clears, sets and keeps (R105). -/
theorem State.restarted_frame {s : State} (hs : s.MovesSound) : s.restarted = { s with
    robots := s.restarted.robots, lenses := s.restarted.lenses, links := s.restarted.links, buses := s.restarted.buses
    outcomes := [], overflow := false, field := .reset, timer := .reset, inquiry := .empty
    loader := none, resetCause := .restart
    mode := if s.inputs.stopAsserted then .halted else .init
    notices := { s.notices with
      peerChange := s.restarted.notices.peerChange
      modeChange := s.notices.modeChange || !(s.mode == if s.inputs.stopAsserted then .halted else .init) } } := by
  have hnotices : ∀ {a b : Notices}, { a with peerChange := false } = { b with peerChange := false } →
      a = { b with peerChange := a.peerChange } := fun {a b} h => by
    cases a
    cases b
    simpa using h
  have hbooks := (State.Eases.forSites (fun t i => State.haltSite_eases .restart i t) s.restarting).books
  have hkept := hnotices (congrArg (fun b : List OutcomeRecord × Bool × FieldRecord × Timer × Notices => b.2.2.2.2) hbooks)
  have hmode : s.mode.same s.restartMode = (s.mode == if s.inputs.stopAsserted then .halted else .init) :=
    s.mode.same_eq (by unfold State.restartMode; split <;> simp)
  rw [State.restarted_eq hs]
  generalize hw : s.restarting.forSites (State.haltSite .restart none) = w at hkept ⊢
  have hframe := s.restarting_ebbs.frame
  rw [hw, hkept, s.restarting_frame] at hframe
  rw [hframe]
  simp only [State.clearForRestart, State.enterMode, hmode]
  rfl

/-- The same as it is answered. -/
theorem State.restarted_respond {s : State} (hs : s.MovesSound) (p : PortId) (x : Response) :
    s.restarted.respond p x = { s with
      robots := (s.restarted.respond p x).robots, lenses := (s.restarted.respond p x).lenses
      links := (s.restarted.respond p x).links, buses := (s.restarted.respond p x).buses
      outcomes := [], overflow := false, field := .reset, timer := .reset, inquiry := .empty
      loader := none, resetCause := .restart
      mode := if s.inputs.stopAsserted then .halted else .init
      notices := { s.notices with
        peerChange := (s.restarted.respond p x).notices.peerChange
        modeChange := s.notices.modeChange ||
          !(s.mode == if s.inputs.stopAsserted then .halted else .init) } : State }.respond p x := by
  conv => lhs; rw [State.restarted_frame hs]
  cases p <;> rfl

/-- A robot after RESTART. -/
theorem State.restarted_robot {s : State} {i : Nat} {x : Robot} (hs : s.MovesSound) (hx : s.robots[i]? = some x) :
    ∃ x', s.restarted.robots[i]? = some x' ∧ x.Restarted x' s.now := by
  have hframe := s.restarting_frame
  have hsound : s.restarting.MovesSound := by
    rw [hframe]
    exact hs
  have hnow : s.restarting.now = s.now := by rw [hframe]
  rw [State.restarted_eq hs, ← hnow]
  exact State.restarting_sites hsound (by rw [hframe]; exact hx)

/-- A bus after RESTART (R43, R89, R105). -/
theorem State.restarted_bus {s : State} {n : Nat} {b : Bus} (hs : s.MovesSound) (hb : s.buses[n]? = some b) :
    ∃ b', s.restarted.buses[n]? = some b' ∧ b'.queueA = [] ∧ b'.queueB = [] ∧
      b'.credit = (s.params.share.credit).getD b.credit ∧ b'.switch = b.switch ∧ b'.protocol = b.protocol ∧
      b'.addresses = b.addresses ∧ b'.census = b.census ∧ b'.stats = b.stats ∧
      ((∃ x ∈ s.robots, x.bus = n ∧ x.state = .inLeg) → b'.haltBroadcast = true) := by
  obtain ⟨v, hv, hset⟩ := State.broadcastHalts_bus (s := { s with field := .reset, timer := .reset }) hb
  obtain ⟨b1, hb1, he⟩ := s.restarting_ebbs.buses.get hv
  have hparams : (s.restarting.forSites (State.haltSite .restart none)).params = s.params := by
    rw [s.restarting_ebbs.frame, s.restarting_frame]
  refine ⟨b1.restart s.params.share, ?_, ?_⟩
  · rw [State.restarted_eq hs]
    simp only [State.enterMode, State.clearForRestart, hparams, List.getElem?_map, hb1, Option.map_some]
  · rw [he]
    exact ⟨rfl, rfl, rfl, rfl, rfl, rfl, rfl, rfl, hset⟩

theorem execRestart_taken {s : State} {r : Req} (hr : sentTo .sequencer r) : exec (.restart r) s =
    .next (s.answered r 20 .ok (.stopped (s.robots.countP Robot.atRest)
      (s.robots.countP fun x => x.state == .inLeg || x.state == .halting)) State.restarted) := by
  refine congrArg _ (serve_sequencer s r 20 _ _ _ _ hr ?_)
  simp only [restartAnswer, State.countStates, takeRequest_robots]
  rfl

end Sys2Proof.Machine

open Sys2Proof Sys2Proof.Machine

/-- Settles O26: RESTART is a walk that leaves no robot at rest, so that its event has no denial and no record. -/
theorem restartAbandonsWhatWasInHand : Obligations.RestartAbandonsWhatWasInHand := by
  intro s r hr hs hquiet htakes
  let v := s.takeRequest r.port r.tag 20
  have hsound : v.MovesSound := by simpa [v, State.MovesSound] using hs
  have hrobots : ∀ (w : State) (x : Response), (w.respond r.port x).robots = w.robots := fun w x =>
    State.modPort_robots _ _ _
  have hbuses : ∀ (w : State) (x : Response), (w.respond r.port x).buses = w.buses := fun w x => by cases r.port <;> rfl
  refine ⟨_, execRestart_taken hr, ?_, fun n b hb => ?_, fun i x hx => ?_⟩
  · have h := State.restarted_respond hsound r.port ⟨r.tag, 20, .ok, (s.port r.port).overrun,
      .stopped (s.robots.countP Robot.atRest) (s.robots.countP fun x => x.state == .inLeg || x.state == .halting)⟩
    simp only [v, takeRequest_inputs, takeRequest_mode] at h
    simp only [answered_takes _ _ _ _ _ _ htakes, takeRequest_inputs]
    exact h
  · obtain ⟨b', hb', hqa, hqb, hcredit, hswitch, hprotocol, haddresses, hcensus, hstats, -⟩ :=
      State.restarted_bus (s := v) hsound (n := n) (b := b) (by simpa [v] using hb)
    refine ⟨b', ?_, hqa, hqb, by simpa [v] using hcredit, hswitch, hprotocol, haddresses, hcensus, hstats⟩
    rw [answered_takes _ _ _ _ _ _ htakes, hbuses]
    exact hb'
  · obtain ⟨x', hx', h⟩ := State.restarted_robot (s := v) hsound (i := i) (x := x) (by simpa [v] using hx)
    obtain ⟨hlast, hepoch, henabled⟩ := h.kept
    have hnow : v.now = s.now := takeRequest_now ..
    refine ⟨x', ?_, hlast, hepoch, henabled, h.ended, fun hst => ⟨hnow ▸ h.halted hst, fun b hb => ?_⟩, h.halting, h.still⟩
    · rw [answered_takes _ _ _ _ _ _ htakes, hrobots]
      exact hx'
    · obtain ⟨b', hb', -, -, -, -, -, -, -, -, hall⟩ :=
        State.restarted_bus (s := v) hsound (n := x.bus) (b := b) (by simpa [v] using hb)
      refine ⟨b', ?_, hall ⟨x, ?_, rfl, hst⟩⟩
      · rw [answered_takes _ _ _ _ _ _ htakes, hbuses]
        exact hb'
      · simpa [v] using List.mem_of_getElem? hx
end

section
/-! Admissions one after another: what they leave of robots without a move, and of the field's counts (R77, R113). -/

namespace Sys2Proof.Machine

/-! ### Robots without a move -/

/-- A robot without a move that is not of `J` has at most been told. -/
def State.Spares (J : Nat → Prop) (s t : State) : Prop :=
  ∀ (i : Nat) (r : Robot), ¬ J i → s.robots[i]? = some r → r.move = none → ∃ r', t.robots[i]? = some r' ∧ r.Told r'

namespace State.Spares

variable {J : Nat → Prop} {s t u : State}

theorem same (h : t.robots = s.robots) : s.Spares J t := fun _ r _ hr _ => ⟨r, h ▸ hr, .refl r⟩

theorem trans (h1 : s.Spares J t) (h2 : t.Spares J u) : s.Spares J u := by
  intro i r hi hr hm
  obtain ⟨r1, hr1, ht1⟩ := h1 i r hi hr hm
  obtain ⟨r2, hr2, ht2⟩ := h2 i r1 hi hr1 (ht1.noMove hm)
  exact ⟨r2, hr2, ht1.trans ht2⟩

theorem mono {K : Nat → Prop} (hJ : ∀ i, J i → K i) (h : s.Spares J t) : s.Spares K t :=
  fun i r hi => h i r fun hj => hi (hJ i hj)

theorem ebbs {E X : Nat → Prop} (h : s.Ebbs E X t) (hE : ∀ i, E i → J i) : s.Spares J t :=
  fun i _ hi hr _ => h.told hr fun he => hi (hE i he)

theorem modRobot (s : State) {i : Nat} (hi : J i) (f : Robot → Robot) : s.Spares J (s.modRobot i f) := by
  intro j r hj hr _
  have hij : i ≠ j := fun h => hj (h ▸ hi)
  exact ⟨r, by simp [hij, hr], .refl r⟩

/-- The denials of an event end moves alone. -/
theorem settle (s : State) : s.Spares J s.settle := by
  have hends : ∀ (n : Nat) (s : State), s.Spares J (s.settleDenials n) := by
    intro n
    induction n with
    | zero => exact fun s => same rfl
    | succ n ih =>
      intro s
      unfold State.settleDenials
      split
      · exact same rfl
      · rename_i site hfirst
        refine trans (fun i r _ hr hm => ?_) (ih _)
        by_cases hi : i = site
        · subst hi
          obtain ⟨reason, hd⟩ := Option.isSome_iff_exists.mp (firstDenied_some hfirst)
          have hdr : r.deniedAtRest = some reason := by simpa [hr] using hd
          simp [Robot.deniedAtRest_none hm] at hdr
        · exact (Ebbs.endDenied (E := fun j => j = site) (X := fun _ => False) s rfl).told hr hi
  exact hends _ s

theorem close (s t : State) : t.Spares J (s.close t) := by
  obtain ⟨_, _, _, hclose, -⟩ := s.closeEvent_rest t.settle
  refine (settle t).trans (same ?_)
  unfold State.close
  rw [hclose]

theorem readyLeg (s : State) {site : Nat} (hJ : J site) : s.Spares J (s.readyLeg site) := by
  unfold State.readyLeg
  split
  · exact same rfl
  · split
    · exact (modRobot s hJ _).trans (ebbs (E := fun _ => False) (X := fun _ => True) (.setWaitDeadline _ trivial) nofun)
    · exact (modRobot s hJ _).trans (ebbs (E := fun _ => False) (X := fun _ => True) (.joinQueue _ site) nofun)

theorem admissionClaim (s : State) (site : Nat) (l : Option Nat) : s.Spares J (s.admissionClaim site l).1 := by
  unfold State.admissionClaim
  split
  · exact same rfl
  · split
    · exact same rfl
    · exact ebbs (E := fun _ => False) (X := fun _ => True) (.claimFor s trivial) nofun

theorem recordEnd (s : State) {site : Nat} (kind : MoveKind) (limited : Bool) (o : MoveOutcome)
    (reason : Option DenyReason) (hJ : J site) : s.Spares J (s.recordEnd site kind limited o reason) :=
  ebbs (E := fun j => j = site) (X := fun _ => True) (.recordEnd s kind limited o reason rfl) fun _ h => h ▸ hJ

/-- An admission spares the robots of the other sites. -/
theorem admitMove (s : State) {site : Nat} (kind : MoveKind) (x : Site) (p q : Pos) (limited : Bool) (hJ : J site) :
    s.Spares J (s.admitMove site kind x p q limited).1 := by
  refine trans ?_ (close s _)
  unfold State.tryMove
  split
  · exact recordEnd s kind limited _ _ hJ
  · have hclaim := admissionClaim (J := J) s site (s.planTarget site x (planLegs s.params.stowAngle x p q) q)
    simp only
    split
    · exact (hclaim.trans (settle _)).trans (recordEnd _ _ _ _ _ hJ)
    · exact (hclaim.trans (modRobot _ hJ _)).trans (readyLeg _ hJ)
    · exact (hclaim.trans (modRobot _ hJ _)).trans (readyLeg _ hJ)

end State.Spares

/-! ### The field's counts -/

namespace State.Eases

variable {O : MoveOutcome → Prop}

/-- The claims of admissions, as steps in which sides may newly wait. -/
theorem claimFor (s : State) (site i : Nat) : s.Eases True O (s.claimFor site i).1 := by
  unfold State.claimFor
  split
  · exact .refl s
  · rename_i l hl
    split
    · rename_i d hb
      split
      · exact .refl s
      · exact setDecided hl hb fun h => absurd trivial h
    · rename_i c hb
      split
      · exact .refl s
      · split
        · exact .refl s
        · split
          · split
            · exact clientTo _ _ hl hb (.inl trivial)
            · exact takeDown s _
          all_goals exact .refl s

theorem setWaitDeadline (s : State) (site i : Nat) : s.Eases True O (s.setWaitDeadline site i) := by
  unfold State.setWaitDeadline
  simp only
  split
  · exact .refl s
  · rename_i l hl
    split
    · rename_i d hb
      split
      · exact .refl s
      · exact setDecided hl hb fun h => absurd trivial h
    · rename_i c hb
      split
      · exact setClient hl hb fun h => absurd trivial h
      · exact .refl s

theorem startMove (s : State) (site : Nat) (m : Move) : s.Eases True O (s.startMove site m) := by
  unfold State.startMove State.readyLeg
  refine (modRobot s site fun r => { r with move := some m }).trans ?_
  split
  · exact .refl _
  · split
    · exact (modRobot _ site _).trans (setWaitDeadline _ site _)
    · exact (modRobot _ site _).trans (joinQueue _ site)

theorem admissionClaim (s : State) (site : Nat) (l : Option Nat) : s.Eases True O (s.admissionClaim site l).1 := by
  unfold State.admissionClaim
  split
  · exact .refl s
  · split
    · exact .refl s
    · exact claimFor s site _

end State.Eases

/-- The field with `k` more ends that were denied. -/
def FieldRecord.denied (f : FieldRecord) (k : Nat) : FieldRecord :=
  { f with counts := { f.counts with denied := f.counts.denied + k } }

/-- An end that is counted while the field is not RUNNING is counted alone (R114). -/
theorem State.countFieldEnd_denied {s : State} (h : s.field.state ≠ .running) :
    (s.countFieldEnd .denied).field = s.field.denied 1 := by
  unfold State.countFieldEnd State.endField
  rw [if_neg fun hr => h hr.1]
  rfl

/-- Where the field is not RUNNING, denials are counted in it and change nothing else of it. -/
theorem State.Eases.denials {X : Prop} {s t : State} (h : s.Eases X (· = .denied) t) (hs : s.field.state ≠ .running) :
    ∃ k, t.field = s.field.denied k := by
  induction h with
  | refl => exact ⟨0, rfl⟩
  | trans _ _ h1 h2 =>
    obtain ⟨k1, hk1⟩ := h1 hs
    obtain ⟨k2, hk2⟩ := h2 (by rw [hk1]; exact hs)
    refine ⟨k1 + k2, ?_⟩
    rw [hk2, hk1]
    simp only [FieldRecord.denied, Nat.add_assoc]
  | quiet h _ =>
    exact ⟨0, congrArg (fun b : List OutcomeRecord × Bool × FieldRecord × Timer × Notices => b.2.2.1) h⟩
  | count s o ho =>
    subst ho
    exact ⟨1, State.countFieldEnd_denied hs⟩
  | lens | record | queue => exact ⟨0, rfl⟩

/-- The end of an admission that is denied (R77, R114). -/
theorem State.recordEnd_field {s : State} {i : Nat} {r : Robot} (limited : Bool) (reason : Option DenyReason)
    (hr : s.robots[i]? = some r) (hs : s.field.state ≠ .running) :
    (s.recordEnd i .field limited .denied reason).field = s.field.denied 1 := by
  unfold State.recordEnd
  simp only [hr, if_true]
  exact State.countFieldEnd_denied hs

/-- The denials an admission answers. -/
def Admission.denials : Admission → Nat
  | .denied _ => 1
  | .done => 0
  | .legs _ => 0

/-- An admission of a FIELD move changes the field by the denials it makes alone, of which one is its own where it is
denied (R77, R114). -/
theorem State.admitMove_field {s : State} {i : Nat} {r : Robot} {x : Site} {p q : Pos} (limited : Bool)
    (hr : s.robots[i]? = some r) (hs : s.field.state ≠ .running) (hq : q ≠ p) :
    ∃ k, (s.admitMove i .field x p q limited).1.field = s.field.denied k ∧
      (s.admitMove i .field x p q limited).2.denials ≤ k := by
  have hclose : ∀ (t : State) (a : Admission) (k : Nat), t.field = s.field.denied k → a.denials ≤ k →
      ∃ k', (s.close t).field = s.field.denied k' ∧ a.denials ≤ k' := by
    intro t a k ht ha
    obtain ⟨k', hk'⟩ := (State.Eases.close (X := True) (O := (· = .denied)) s t rfl).denials (by rw [ht]; exact hs)
    refine ⟨k + k', ?_, by omega⟩
    rw [hk', ht]
    simp only [FieldRecord.denied, Nat.add_assoc]
  let lens := s.planTarget i x (planLegs s.params.stowAngle x p q) q
  have hclaim := State.Eases.admissionClaim (O := (· = .denied)) s i lens
  have hstart : ∀ m, ∃ k, ((s.admissionClaim i lens).1.startMove i m).field = s.field.denied k := fun m =>
    (hclaim.trans (.startMove _ i m)).denials hs
  have htry : ∃ k, (s.tryMove i .field x p q limited).1.field = s.field.denied k ∧
      (s.tryMove i .field x p q limited).2.denials ≤ k := by
    unfold State.tryMove
    rw [if_neg hq]
    simp only
    split
    · obtain ⟨k, hk⟩ := (hclaim.trans (.settle _ rfl)).denials hs
      have hlen : i < (s.admissionClaim i lens).1.settle.robots.length := by
        rw [((Acts.admissionClaim s i lens).trans (.settle _)).keeps.robots]
        exact (List.getElem?_eq_some_iff.mp hr).1
      refine ⟨k + 1, ?_, Nat.le_add_left 1 k⟩
      rw [State.recordEnd_field _ _ (List.getElem?_eq_getElem hlen) (by rw [hk]; exact hs), hk]
      simp only [FieldRecord.denied, Nat.add_assoc]
    · exact (hstart _).imp fun k hk => ⟨hk, Nat.zero_le k⟩
    · exact (hstart _).imp fun k hk => ⟨hk, Nat.zero_le k⟩
  obtain ⟨k, hk, hle⟩ := htry
  exact hclose _ _ k hk hle

end Sys2Proof.Machine
end

section
/-! CONFIGURE (R45, R112 to R114). -/

namespace Sys2Proof.Machine

/-! ### Refusals -/

theorem configureAnswer_zero (t : State) : configureAnswer 0 t = refuseWith t .badArg := rfl

theorem configureAnswer_busy {number : Nat} {t : State} (hn : 1 ≤ number) (hmode : t.mode = .opened)
    (hmove : t.anyMove = true) : configureAnswer number t = refuseWith t .busy := by
  unfold configureAnswer
  rw [if_neg (by omega), hmode]
  simp only [Mode.moveBar, if_pos hmove]

theorem configureAnswer_taken {number : Nat} {t : State} (hn : 1 ≤ number) (hmode : t.mode = .opened)
    (hmove : t.anyMove = false) : configureAnswer number t = okWith (configureField number t).1
      (.configured number (configureField number t).1.field.admitted (configureField number t).1.field.already
        (configureField number t).1.field.notAttempted (configureField number t).2
        (configureField number t).1.field.state) := by
  have hno : ¬ t.anyMove = true := by simp [hmove]
  unfold configureAnswer
  rw [if_neg (by omega), hmode]
  simp only [Mode.moveBar, if_neg hno]

theorem State.anyMove_iff (s : State) : s.anyMove = true ↔ ∃ x ∈ s.robots, x.move ≠ none := by
  simp [State.anyMove, Option.isSome_iff_ne_none]

/-! ### The three kinds of site (R113) -/

/-- The robot of the site is enabled and at the site's target. -/
def State.AlreadyAt (s : State) (i : Nat) : Prop :=
  ∃ x q, s.robots[i]? = some x ∧ x.enabled = true ∧ s.targets[i]? = some (some q) ∧ x.believed = some q

/-- The robot of the site is enabled, IDLE and away from the site's target. -/
def State.TriedAt (s : State) (i : Nat) : Prop :=
  ∃ x q p, s.robots[i]? = some x ∧ x.enabled = true ∧ s.targets[i]? = some (some q) ∧ x.believed = some p ∧
    p ≠ q ∧ x.state = .idle

theorem State.not_both {s : State} {i : Nat} (h : s.AlreadyAt i) : ¬ s.TriedAt i := by
  obtain ⟨x, q, hx, -, hq, hb⟩ := h
  rintro ⟨x', q', p', hx', -, hq', hb', hne, -⟩
  cases hx.symm.trans hx'
  cases hq.symm.trans hq'
  cases hb.symm.trans hb'
  exact hne rfl

/-- A robot that is told keeps what the kind of its site is read from. -/
theorem Robot.Told.kind {r r' : Robot} (h : r.Told r') :
    r'.enabled = r.enabled ∧ r'.believed = r.believed ∧ (r'.state = .idle ↔ r.state = .idle) := by
  refine ⟨by rw [h.rest], by rw [h.rest]; rfl, ?_⟩
  rcases h.state with hs | ⟨hw, hq⟩
  · rw [hs]
  · simp [hw, hq]

/-- The kind of a site stays while its robot is told at most. -/
theorem State.kind_congr {s t : State} {i : Nat} {r r' : Robot} (hr : s.robots[i]? = some r)
    (hr' : t.robots[i]? = some r') (h : r.Told r') (ht : t.targets = s.targets) :
    (t.AlreadyAt i ↔ s.AlreadyAt i) ∧ (t.TriedAt i ↔ s.TriedAt i) := by
  obtain ⟨henabled, hbelieved, hidle⟩ := h.kind
  simp only [State.AlreadyAt, State.TriedAt, hr, hr', ht, Option.some.injEq, exists_and_left, exists_eq_left',
    henabled, hbelieved, hidle, and_self]

/-! ### One site -/

theorem configureSite_already {s : State} {i : Nat} {x : Site} (hx : s.site? i = some x) (h : s.AlreadyAt i) :
    configureSite i s = (s.countAlready, 0) := by
  obtain ⟨r, q, hr, hen, hq, hb⟩ := h
  have hget : s.targets.getD i none = some q := by rw [List.getD_eq_getElem?_getD, hq]; rfl
  have hbar : ¬ r.enabled = false := by simp [hen]
  simp only [configureSite, hx, hr, hget, if_neg hbar, hb, if_true]

theorem configureSite_tried {s : State} {i : Nat} {x : Site} (hx : s.site? i = some x) (h : s.TriedAt i) :
    ∃ p q, q ≠ p ∧ configureSite i s = ((s.countAdmitted.admitMove i .field x p q false).1,
      (s.countAdmitted.admitMove i .field x p q false).2.denials) := by
  obtain ⟨r, q, p, hr, hen, hq, hb, hne, hst⟩ := h
  have hget : s.targets.getD i none = some q := by rw [List.getD_eq_getElem?_getD, hq]; rfl
  refine ⟨p, q, Ne.symm hne, ?_⟩
  have hbar : ¬ r.enabled = false := by simp [hen]
  have hidle : ¬ r.state ≠ .idle := by simp [hst]
  simp only [configureSite, hx, hr, hget, if_neg hbar, hb, if_neg (Ne.symm hne), if_neg hidle]
  rfl

theorem configureSite_notAttempted {s : State} {i : Nat} (ha : ¬ s.AlreadyAt i) (ht : ¬ s.TriedAt i) :
    configureSite i s = (s.countNotAttempted, 0) := by
  have htarget : ∀ q, s.targets.getD i none = some q → s.targets[i]? = some (some q) := fun q h => by
    rw [List.getD_eq_getElem?_getD] at h
    cases hi : s.targets[i]? with
    | none => simp [hi] at h
    | some y => simpa [hi] using h
  unfold configureSite
  split
  case h_2 => rfl
  case h_1 x r q hx hr hq =>
    split
    case isTrue => rfl
    case isFalse hen =>
      have hen : r.enabled = true := by simpa using hen
      split
      case h_1 => rfl
      case h_2 p hb =>
        by_cases hqp : q = p
        · exact absurd ⟨r, q, hr, hen, htarget q hq, hqp ▸ hb⟩ ha
        · rw [if_neg hqp, if_pos fun hst => ht ⟨r, q, p, hr, hen, htarget q hq, hb, Ne.symm hqp, hst⟩]

/-! ### The walk over the sites -/

open Classical in
/-- The field record after the first `k` sites, `n` ends having been denied (R112, R113). -/
noncomputable def State.fieldAfter (s : State) (number k n : Nat) : FieldRecord :=
  { FieldRecord.reset with
    number := number
    admitted := Nat.count s.TriedAt k
    already := Nat.count s.AlreadyAt k
    notAttempted := Nat.count (fun i => ¬ s.AlreadyAt i ∧ ¬ s.TriedAt i) k
    counts := { Tally.zero with denied := n } }

theorem State.fieldAfter_zero (s : State) (number : Nat) :
    s.fieldAfter number 0 0 = { FieldRecord.reset with number := number } := by
  simp [State.fieldAfter, FieldRecord.reset, Tally.zero]

/-- The state `u` after the first `k` sites of a CONFIGURE that began in `s`, `d` of them denied. -/
structure State.Walked (s : State) (number : Nat) (u : State) (k d : Nat) : Prop where
  acts : Acts s u
  spares : s.Spares (· < k) u
  field : ∃ n, u.field = s.fieldAfter number k n ∧ d ≤ n

open Classical in
/-- One site of the walk. -/
theorem State.Walked.step {s u : State} {number k d : Nat} {x : Site} {r : Robot} (h : s.Walked number u k d)
    (hx : s.site? k = some x) (hr : s.robots[k]? = some r) (hm : r.move = none) :
    s.Walked number (configureSite k u).1 (k + 1) (d + (configureSite k u).2) := by
  obtain ⟨n, hfield, hd⟩ := h.field
  obtain ⟨r', hr', htold⟩ := h.spares k r (lt_irrefl k) hr hm
  have hxu : u.site? k = some x := by
    unfold State.site? at *
    rw [h.acts.keeps.map]
    exact hx
  obtain ⟨hat, htry⟩ := State.kind_congr hr hr' htold h.acts.keeps.targets
  have hspares : s.Spares (· < k + 1) u := h.spares.mono fun _ => Nat.lt_succ_of_lt
  have hacts := h.acts.trans (Acts.configureSite k u)
  by_cases ha : s.AlreadyAt k
  · have ht := State.not_both ha
    have hsite := configureSite_already hxu (hat.mpr ha)
    rw [hsite] at hacts ⊢
    refine ⟨hacts, hspares, n, ?_, hd⟩
    simp only [State.countAlready, hfield, State.fieldAfter, Nat.count_succ, ha, ht, not_true, if_true, if_false,
      false_and, Nat.add_zero]
  · by_cases ht : s.TriedAt k
    · obtain ⟨p, q, hne, hsite⟩ := configureSite_tried hxu (htry.mpr ht)
      have hstate : u.countAdmitted.field.state ≠ .running := by
        simp [State.countAdmitted, hfield, State.fieldAfter, FieldRecord.reset]
      obtain ⟨j, hj, hle⟩ := State.admitMove_field (s := u.countAdmitted) (x := x) false hr' hstate hne
      rw [hsite] at hacts ⊢
      refine ⟨hacts, (hspares.trans (.same (t := u.countAdmitted) rfl)).trans (.admitMove _ _ _ _ _ _ (Nat.lt_succ_self k)), n + j,
        ?_, Nat.add_le_add hd hle⟩
      rw [hj]
      simp only [FieldRecord.denied, State.countAdmitted, hfield, State.fieldAfter, Nat.count_succ, ha, ht, not_true,
        not_false_eq_true, if_true, if_false, and_false, Nat.add_zero]
    · have hsite := configureSite_notAttempted (fun h => ha (hat.mp h)) fun h => ht (htry.mp h)
      rw [hsite] at hacts ⊢
      refine ⟨hacts, hspares, n, ?_, hd⟩
      simp only [State.countNotAttempted, hfield, State.fieldAfter, Nat.count_succ, ha, ht, not_false_eq_true, if_true,
        if_false, and_self, Nat.add_zero]

/-- The walk of a CONFIGURE over every site of a map whose robots have no move. -/
theorem configureSites_walked {s : State} {m : PlateMap} {number : Nat} (hmap : s.map = some m)
    (hlen : s.robots.length = m.sites.length) (hmove : ∀ x ∈ s.robots, x.move = none)
    (hfield : s.field = s.fieldAfter number 0 0) :
    s.Walked number (configureSites s).1 m.sites.length (configureSites s).2 := by
  have hwalk : ∀ k, k ≤ m.sites.length →
      s.Walked number ((List.range k).foldl (fun a i => ((configureSite i a.1).1, a.2 + (configureSite i a.1).2)) (s, 0)).1
        k ((List.range k).foldl (fun a i => ((configureSite i a.1).1, a.2 + (configureSite i a.1).2)) (s, 0)).2 := by
    intro k
    induction k with
    | zero => exact fun _ => ⟨.refl s, .same rfl, 0, hfield, Nat.le_refl 0⟩
    | succ k ih =>
      intro hk
      have hx : s.site? k = some m.sites[k] := by simp [State.site?, hmap, List.getElem?_eq_getElem hk]
      have hr : s.robots[k]? = some s.robots[k] := List.getElem?_eq_getElem (by omega)
      rw [List.range_succ, List.foldl_append]
      exact (ih (by omega)).step hx hr (hmove _ (List.getElem_mem _))
  unfold configureSites
  rw [hlen]
  exact hwalk _ (Nat.le_refl _)

/-! ### The field that begins -/

/-- A field begins RUNNING with these counts, or ends at once (R113, R114). -/
structure State.FieldBegun (t : State) (f : FieldRecord) (preset : Nat) : Prop where
  counts : t.field = { f with state := t.field.state }
  running : f.counts.total < f.admitted → t.field.state = .running ∧ t.timer = .start preset
  ended : f.admitted ≤ f.counts.total → t.field.state = .ended ∧ t.timer = (Timer.start preset).hold ∧
    t.notices.fieldEnded = true

theorem State.fieldBegun (s : State) (f : FieldRecord) (preset : Nat) :
    State.FieldBegun
      { s with field := { f with state := .running }, timer := .start preset : State }.endField f preset := by
  unfold State.endField
  by_cases h : f.admitted ≤ f.counts.total
  · rw [if_pos ⟨rfl, Nat.sub_eq_zero_of_le h⟩]
    exact ⟨rfl, fun hlt => absurd h (Nat.not_le.mpr hlt), fun _ => ⟨rfl, rfl, rfl⟩⟩
  · have hin : f.admitted - f.counts.total ≠ 0 := by omega
    rw [if_neg fun hr => hin hr.2]
    exact ⟨rfl, fun _ => ⟨rfl, rfl⟩, fun hle => absurd hle h⟩

/-- A timer that is held at its start has run for no time (R45). -/
theorem Timer.elapsed_start (preset : Nat) : (Timer.start preset).hold.elapsed = 0 := by
  rcases Nat.eq_zero_or_pos preset with rfl | h
  · rfl
  · exact (if_pos h).trans (Nat.sub_self preset)

/-- CONFIGURE's field (R113). -/
theorem configureField_begun {s : State} {m : PlateMap} {number : Nat} (hmap : s.map = some m)
    (hlen : s.robots.length = m.sites.length) (hmove : ∀ x ∈ s.robots, x.move = none) :
    ∃ n, State.FieldBegun (configureField number s).1 (s.fieldAfter number m.sites.length n) s.params.deadlinePreset ∧
      (configureField number s).2 ≤ n := by
  obtain ⟨n, hfield, hle⟩ := (configureSites_walked (s := { s with field := { FieldRecord.reset with number := number } })
    hmap hlen hmove (State.fieldAfter_zero _ number).symm).field
  refine ⟨n, ?_, hle⟩
  unfold configureField
  simp only [hfield]
  exact State.fieldBegun _ _ _

open Classical in
/-- The sites of a kind below `n`, counted. -/
theorem exists_places (P : Nat → Prop) (n : Nat) (h : ∀ i, P i → i < n) :
    ∃ l : List Nat, l.Nodup ∧ l.length = Nat.count P n ∧ ∀ i, i ∈ l ↔ P i := by
  refine ⟨(List.range n).filter P, List.nodup_range.filter _, ?_, fun i => ?_⟩
  · rw [Nat.count, List.countP_eq_length_filter]
  · simp only [List.mem_filter, List.mem_range, decide_eq_true_eq]
    exact ⟨fun hi => hi.2, fun hi => ⟨h i hi, hi⟩⟩

/-- Every site is of one of the three kinds. -/
theorem State.fieldAfter_sum (s : State) (number k n : Nat) : (s.fieldAfter number k n).admitted +
    (s.fieldAfter number k n).already + (s.fieldAfter number k n).notAttempted = k := by
  simp only [State.fieldAfter]
  induction k with
  | zero => simp
  | succ k ih =>
    simp only [Nat.count_succ]
    by_cases ha : s.AlreadyAt k
    · have ht := State.not_both ha
      simp only [ha, ht, not_true, false_and, if_true, if_false]
      omega
    · by_cases ht : s.TriedAt k <;> simp only [ha, ht, not_true, not_false_eq_true, and_false, and_self, if_true, if_false] <;>
        omega

theorem State.fieldAfter_total (s : State) (number k n : Nat) : (s.fieldAfter number k n).counts.total = n := by
  simp [State.fieldAfter, Tally.total, Tally.zero]

/-- CONFIGURE as it is refused (R113). -/
theorem execConfigure_refused {s : State} {r : Req} {number : Nat} {st : Status} (hr : sentTo .sequencer r)
    (h : configureAnswer number (s.takeRequest r.port r.tag 23) = refuseWith (s.takeRequest r.port r.tag 23) st) :
    exec (.configure r number) s = .next (s.answered r 23 st .none id) :=
  congrArg _ (serve_sequencer s r 23 _ st .none id hr h)

/-- CONFIGURE as it is taken (R113). -/
theorem execConfigure_taken {s : State} {r : Req} {number : Nat} (hr : sentTo .sequencer r) (hn : 1 ≤ number)
    (hmode : s.mode = .opened) (hmove : s.anyMove = false) (ht : s.Takes r 23) :
    ∃ t, exec (.configure r number) s = .next t ∧
      t.field = (configureField number (s.takeRequest r.port r.tag 23)).1.field ∧
      t.timer = (configureField number (s.takeRequest r.port r.tag 23)).1.timer ∧
      t.notices = (configureField number (s.takeRequest r.port r.tag 23)).1.notices ∧
      t = s.answered r 23 .ok (.configured number t.field.admitted t.field.already t.field.notAttempted
        (configureField number (s.takeRequest r.port r.tag 23)).2 t.field.state) (·.engine t) := by
  have hanswer := configureAnswer_taken (t := s.takeRequest r.port r.tag 23) hn (by simpa using hmode) (by simpa using hmove)
  have hengine := (Acts.configureField number (s.takeRequest r.port r.tag 23)).engine
  generalize hF : configureField number (s.takeRequest r.port r.tag 23) = F at hanswer hengine
  have hexec : exec (.configure r number) s = .next (s.answered r 23 .ok (.configured number F.1.field.admitted
      F.1.field.already F.1.field.notAttempted F.2 F.1.field.state) fun _ => F.1) :=
    congrArg _ (serve_sequencer s r 23 _ _ _ (fun _ => F.1) hr hanswer)
  rw [answered_takes _ _ _ _ _ _ ht] at hexec
  obtain ⟨port, tag, fits⟩ := r
  cases hr.1
  refine ⟨_, hexec, rfl, rfl, rfl, ?_⟩
  rw [answered_takes _ _ _ _ _ _ ht]
  conv => lhs; rw [hengine]
  rfl

end Sys2Proof.Machine

open Sys2Proof Sys2Proof.Machine

/-- Settles O29: a walk in which each site adds one to the count of its kind, and only denials end moves. -/
theorem configureCountsEverySite : Obligations.ConfigureCountsEverySite := by
  intro s r number m hr hmap hlen hmode
  refine ⟨fun hn => ?_, fun hn hbusy => ?_, fun hn hmove htakes => ?_⟩
  · subst hn
    exact execConfigure_refused hr (configureAnswer_zero _)
  · refine execConfigure_refused hr (configureAnswer_busy hn (by simpa using hmode) ?_)
    rw [takeRequest_anyMove]
    exact s.anyMove_iff.mpr hbusy
  intro at_ tried
  have hquiet : s.anyMove = false := Bool.eq_false_of_not_eq_true fun h => by
    obtain ⟨x, hx, hne⟩ := s.anyMove_iff.mp h
    exact hne (hmove x hx)
  obtain ⟨t, hexec, hfield, htimer, hnotices, hframe⟩ := execConfigure_taken (number := number) hr hn hmode hquiet htakes
  let v := s.takeRequest r.port r.tag 23
  obtain ⟨n, hbegun, hdenied⟩ := configureField_begun (s := v) (m := m) (number := number) (by simpa [v] using hmap)
    (by simpa [v] using hlen) (by simpa [v] using hmove)
  obtain ⟨hcounts, hrunning, hended⟩ := hbegun
  rw [State.fieldAfter_total] at hrunning hended
  rw [← hfield] at hcounts hrunning hended
  rw [← htimer] at hrunning hended
  rw [← hnotices] at hended
  have hkinds : ∀ i, (v.AlreadyAt i ↔ at_ i) ∧ (v.TriedAt i ↔ tried i) := fun i => by
    simp [v, at_, tried, State.AlreadyAt, State.TriedAt]
  have hbelow : ∀ {i : Nat} {x : Robot}, v.robots[i]? = some x → i < m.sites.length := fun {i x} hx => by
    rw [← hlen, ← takeRequest_robots s r.port r.tag 23]
    exact (List.getElem?_eq_some_iff.mp hx).1
  obtain ⟨la, hla, hlalen, hlamem⟩ := exists_places v.AlreadyAt m.sites.length fun i ⟨x, _, hx, _⟩ => hbelow hx
  obtain ⟨lt, hlt, hltlen, hltmem⟩ := exists_places v.TriedAt m.sites.length fun i ⟨x, _, _, hx, _⟩ => hbelow hx
  have hadmitted : t.field.admitted = (v.fieldAfter number m.sites.length n).admitted := by rw [hcounts]
  have hdeniedCount : t.field.counts.denied = n := by rw [hcounts]; rfl
  refine ⟨t, _, hexec, hframe, by rw [hcounts]; rfl, ⟨la, hla, ?_, fun i => (hlamem i).trans (hkinds i).1⟩,
    ⟨lt, hlt, ?_, fun i => (hltmem i).trans (hkinds i).2⟩, ?_, hdeniedCount ▸ hdenied, ?_, by rw [hcounts]; rfl,
    by rw [hcounts]; rfl, fun h => ?_, fun h => ?_⟩
  · rw [hlalen, hcounts]
    rfl
  · rw [hltlen, hcounts]
    rfl
  · rw [hcounts]
    exact v.fieldAfter_sum number m.sites.length n
  · rw [hdeniedCount, hcounts]
    exact v.fieldAfter_total number m.sites.length n
  · obtain ⟨hstate, hclock⟩ := hrunning (by omega)
    have hparams : v.params = s.params := takeRequest_params ..
    exact ⟨hstate, by rw [hclock, hparams]; rfl⟩
  · obtain ⟨hstate, hclock, hnotice⟩ := hended (by omega)
    exact ⟨hstate, by rw [hclock]; rfl, by rw [hclock]; exact Timer.elapsed_start _, hnotice⟩
end

section
/-! Every step keeps the bounds of R49: what acts within its bounds keeps them (`Acts.lensesSound`), and what goes
beyond leaves every lens record as it is, or installs a map or a reset's table with empty records. -/

namespace Sys2Proof.Machine

/-- The bounds of R49 are kept from `s` to `t`. -/
def State.KeepsBounds (s t : State) : Prop := s.LensesSound → t.LensesSound

namespace State.KeepsBounds

variable {s t u : State}

theorem same (h : t.lenses = s.lenses) : s.KeepsBounds t := fun hs l hl => hs l (h ▸ hl)

theorem refl (s : State) : s.KeepsBounds s := id

theorem trans (h1 : s.KeepsBounds t) (h2 : t.KeepsBounds u) : s.KeepsBounds u := h2 ∘ h1

theorem acts (h : Acts s t) : s.KeepsBounds t := h.lensesSound

/-- Other parts change first, and then the lens table within its bounds. -/
theorem thenActs (ha : Acts t u) (h : t.lenses = s.lenses) : s.KeepsBounds u := (same h).trans (acts ha)

/-! ### Requests (R174, R175) -/

theorem port (s : State) (p : PortId) (f : StationPort → StationPort) : s.KeepsBounds (s.modPort p f) :=
  same (s.modPort_lenses p f)

theorem answerOnly (s : State) (p : PortId) (tag code : Byte) (st : Status) :
    s.KeepsBounds (s.answerOnly p tag code st) := (port s p _).trans (port _ p _)

/-- A request whose rule keeps the bounds keeps them. -/
theorem serve (s : State) (r : Req) (code : Byte) (rights : Rights) {act : State → Answer}
    (h : ∀ t : State, t.KeepsBounds (act t).state) : s.KeepsBounds (s.serve r code rights act) := by
  have htake : s.KeepsBounds (s.takeRequest r.port r.tag code) := port s _ _
  unfold State.serve
  split
  · exact refl s
  · exact answerOnly s _ _ _ _
  · refine trans ?_ (port _ r.port _)
    split
    · exact htake
    · split
      · exact htake
      · exact htake.trans (h _)

/-! ### Modes, parameters, targets and samples -/

theorem openAnswer (t : State) : t.KeepsBounds (Machine.openAnswer t).state := by
  unfold Machine.openAnswer
  split
  case h_4 =>
    split
    · exact refl t
    · split <;> exact same rfl
  all_goals exact refl t

theorem freezeAnswer (t : State) : t.KeepsBounds (Machine.freezeAnswer t).state := by
  unfold Machine.freezeAnswer
  split
  · split <;> exact same rfl
  all_goals exact refl t

theorem thawAnswer (t : State) : t.KeepsBounds (Machine.thawAnswer t).state := by
  unfold Machine.thawAnswer
  split
  · split <;> exact same rfl
  all_goals exact refl t

theorem resumeAnswer (t : State) : t.KeepsBounds (Machine.resumeAnswer t).state := by
  unfold Machine.resumeAnswer
  split
  · exact refl t
  · split
    · exact refl t
    · split
      · exact refl t
      · split <;> exact same rfl

/-- RESTART clears no lens record: it acts on the table only through the moves it ends (R105). -/
theorem restarted (t : State) : t.KeepsBounds t.restarted :=
  (thenActs (.haltMoves { t with field := .reset, timer := .reset } .restart none) rfl).trans (same rfl)

theorem rangeParam {lo hi value : Nat} {set : Params → Params} (t : State) :
    t.KeepsBounds (Machine.rangeParam lo hi value set t).state := by
  unfold Machine.rangeParam
  split <;> exact same rfl

theorem stowAnswer (value : Nat) (t : State) : t.KeepsBounds (Machine.stowAnswer value t).state := by
  unfold Machine.stowAnswer
  split
  · exact refl t
  · split
    · exact refl t
    · split <;> exact same rfl

theorem shareAnswer (value : ShareArg) (t : State) : t.KeepsBounds (Machine.shareAnswer value t).state := by
  unfold Machine.shareAnswer
  split <;> exact same rfl

theorem actionAnswer (value : Option DeadlineAction) (t : State) :
    t.KeepsBounds (Machine.actionAnswer value t).state := by
  unfold Machine.actionAnswer
  split <;> exact same rfl

theorem writeTargets (entries : List TargetArg) (t : State) : t.KeepsBounds (entries.foldl State.writeTarget t) := by
  induction entries generalizing t with
  | nil => exact refl t
  | cons e rest ih =>
    refine trans ?_ (ih _)
    unfold State.writeTarget
    split <;> exact same rfl

theorem loadTargetsAnswer (entries : List TargetArg) (t : State) :
    t.KeepsBounds (Machine.loadTargetsAnswer entries t).state := by
  unfold Machine.loadTargetsAnswer
  split
  · exact refl t
  · split
    · exact refl t
    · exact writeTargets entries t

theorem convert (s : State) (n : Nat) (b : Bus) (v : Nat) : s.KeepsBounds (s.convert n b v) := by
  unfold State.convert
  simp only
  split
  · exact same rfl
  · split
    · exact thenActs (.trip _ n _) rfl
    · exact same rfl

/-! ### The map and the full resets (R4, R13, R180) -/

theorem mem_foldr_insertLens {x : DerivedLens} {l : List DerivedLens} (h : x ∈ l.foldr insertLens []) : x ∈ l := by
  induction l with
  | nil => exact h
  | cons y rest ih =>
    rcases List.mem_cons.mp ((insertLens_perm y _).mem_iff.mp h) with rfl | h
    · exact List.mem_cons_self
    · exact List.mem_cons_of_mem _ (ih h)

/-- The records of a derived lens are empty (R4). -/
theorem derived_body {m : PlateMap} {x : DerivedLens} (h : x ∈ m.derive) :
    x.lens.body = .decided .empty ∨ x.lens.body = .client .empty := by
  rcases List.mem_append.mp h with h | h
  · obtain ⟨y, -, hy⟩ := List.mem_flatMap.mp h
    obtain ⟨d, -, hd⟩ := List.mem_filterMap.mp hy
    unfold baseLens at hd
    split at hd <;> cases hd
    exact .inl rfl
  · obtain ⟨link, -, hl⟩ := List.mem_flatMap.mp h
    have hl := mem_foldr_insertLens hl
    obtain ⟨y, -, hy⟩ := List.mem_flatMap.mp hl
    obtain ⟨d, -, hd⟩ := List.mem_filterMap.mp hy
    unfold entryLens borderLens at hd
    split at hd
    · split at hd
      · cases hd
        split
        · exact .inl rfl
        · exact .inr rfl
      · cases hd
    all_goals cases hd

theorem install (t : State) (m : PlateMap) : t.KeepsBounds (t.install m) := by
  intro _ l hl d hd
  rw [State.install_eq] at hl
  obtain ⟨x, hx, rfl⟩ := List.mem_map.mp hl
  rcases derived_body hx with hb | hb <;> rw [hb] at hd <;> cases hd
  exact Decided.wf_empty

theorem endLoad (t : State) : t.KeepsBounds (Machine.endLoad t).state := by
  unfold Machine.endLoad
  split
  · exact refl t
  · split
    · exact refl t
    · split
      · exact refl t
      · split
        · exact refl t
        · exact install t _

theorem fullReset (s : State) (cause : ResetCause) (a b : Bool) : s.KeepsBounds (s.fullReset cause a b) := by
  intro _ l hl
  have hnone : (s.fullReset cause a b).lenses = [] := by cases b <;> rfl
  rw [hnone] at hl
  cases hl

end State.KeepsBounds

/-! ### The commands -/

/-- The command answers a next state with the bounds of `s`. -/
def KeptOut (s : State) (o : Host.Outcome State Fault Refusal) : Prop := ∀ t, o = .next t → s.KeepsBounds t

namespace KeptOut

theorem next {s t : State} (h : s.KeepsBounds t) : KeptOut s (.next t) := by
  intro u hu
  cases hu
  exact h

theorem acts {s : State} {o : Host.Outcome State Fault Refusal} (h : ActsOut s o) : KeptOut s o :=
  fun _ ht => .acts (h.acts ht)

theorem serve {s : State} {r : Req} {code : Byte} {rights : Rights} {act : State → Answer}
    (h : ∀ t : State, t.KeepsBounds (act t).state) : KeptOut s (.next (s.serve r code rights act)) :=
  next (.serve s r code rights h)

theorem served {s : State} {o : Host.Outcome State Fault Refusal} (h : ActsServed s o) : KeptOut s o := by
  obtain ⟨r, code, rights, act, rfl, hact⟩ := h
  exact serve fun t => .acts (hact t)

/-- A request whose rule leaves every lens record as it is. -/
theorem serveSame {s : State} {r : Req} {code : Byte} {rights : Rights} {act : State → Answer}
    (h : ∀ t : State, (act t).state.lenses = t.lenses) : KeptOut s (.next (s.serve r code rights act)) :=
  serve fun t => .same (h t)

theorem shutterOpened (s : State) : KeptOut s (execShutterOpened s) := by
  unfold execShutterOpened
  split
  · exact next (.refl s)
  · simp only
    split
    · exact next (.thenActs (.haltMoves _ _ _) rfl)
    · exact next (.same rfl)

theorem shutterClosed (s : State) : KeptOut s (execShutterClosed s) := by
  unfold execShutterClosed
  split <;> exact next (.same rfl)

theorem stopAsserted (s : State) : KeptOut s (execStopAsserted s) := by
  unfold execStopAsserted
  split
  · exact next (.refl s)
  · exact next (.thenActs (.powerLoss _ _) rfl)

theorem stopReleased (s : State) : KeptOut s (execStopReleased s) := by
  unfold execStopReleased
  split <;> exact next (.same rfl)

theorem stationFrameReceived (s : State) (p : PortId) (bytes : List Byte) :
    KeptOut s (execStationFrameReceived p bytes s) := by
  unfold execStationFrameReceived
  split <;> exact next (.port s p _)

theorem badFrame (s : State) (p : PortId) (tag code : Byte) : KeptOut s (execBadFrame p tag code s) := by
  refine next ?_
  unfold State.answerBadFrame
  split
  · exact .refl s
  · exact .answerOnly s p tag code _
  · split
    · exact .answerOnly s p tag code _
    · exact .refl s

theorem unknown (s : State) (p : PortId) (tag code : Byte) : KeptOut s (execUnknown p tag code s) := by
  refine next ?_
  unfold State.answerUnknown
  split
  · exact .refl s
  · split
    · exact .refl s
    · exact .answerOnly s p tag code _
    · exact .answerOnly s p tag code _

theorem currentSample (s : State) (n milliamps : Nat) : KeptOut s (execCurrentSample n milliamps s) := by
  unfold execCurrentSample
  split
  · split
    · exact next (.refl s)
    · exact next (.convert s n _ _)
  · exact next (.refl s)

theorem mapBegin (s : State) (r : Req) (sector count : Nat) (neighbours : List Nat) :
    KeptOut s (execMapBegin r sector count neighbours s) := serveSame fun t => by
  unfold beginLoad
  split
  · rfl
  · split <;> rfl

theorem mapSites (s : State) (r : Req) (entries : List SiteArg) : KeptOut s (execMapSites r entries s) :=
  serveSame fun t => by
    unfold stageSites
    split
    · rfl
    · split
      · rfl
      · split <;> rfl

theorem enableSet (s : State) (r : Req) (mask : List Bool) : KeptOut s (execEnableSet r mask s) :=
  serveSame fun t => by split <;> rfl

theorem enableClear (s : State) (r : Req) (mask : List Bool) : KeptOut s (execEnableClear r mask s) :=
  serve fun t => by
    split
    · exact .refl t
    · exact .thenActs (.sweep (t.setEnabled mask false) _ (Acts.disableSite t mask)) rfl

theorem clearTargets (s : State) (r : Req) : KeptOut s (execClearTargets r s) :=
  serveSame fun t => by split <;> rfl

theorem portStatus (s : State) (r : Req) : KeptOut s (execPortStatus r s) :=
  serveSame fun t => by
    show (t.clearPort r.port).lenses = t.lenses
    rw [State.clearPort_eq, State.modPort_lenses]

theorem setMask (s : State) (r : Req) (enables : List Bool) : KeptOut s (execSetMask r enables s) :=
  serveSame fun t => by
    split
    · rfl
    · exact t.modPort_lenses r.port _

theorem readCause (s : State) (r : Req) : KeptOut s (execReadCause r s) :=
  serveSame fun t => by split <;> rfl

end KeptOut

/-- Every command keeps the bounds of R49. -/
theorem exec_keepsBounds {c : Instr} {s t : State} (h : exec c s = .next t) : s.KeepsBounds t := by
  cases c
  case powerOn a b => cases h; exact .fullReset s _ a b
  case resetLine a b => cases h; exact .fullReset s _ a b
  case setParamConcurrencyLimit r bus v => exact KeptOut.served (.concurrencyLimit s r bus v) t h
  case setParamThreshold r bus v => exact KeptOut.served (.threshold s r bus v) t h
  case setParamTripCount r bus v => exact KeptOut.served (.tripCount s r bus v) t h
  case setParamStatisticsSelection r bus n o => exact KeptOut.served (.statisticsSelection s r bus n o) t h
  case readMap r first count => exact KeptOut.served (.readMap s r first count) t h
  case clearFault r site => exact KeptOut.served (.clearFault s r site) t h
  case readRobot r first count => exact KeptOut.served (.readRobot s r first count) t h
  case readLens r first count => exact KeptOut.served (.readLens s r first count) t h
  case moveTo r site a b => exact KeptOut.served (.moveTo s r site a b) t h
  case park r site => exact KeptOut.served (.park s r site) t h
  case home r site => exact KeptOut.served (.home s r site) t h
  case abort r site => exact KeptOut.served (.abort s r site) t h
  case abortField r => exact KeptOut.served (.abortField s r) t h
  case readOutcomes r count => exact KeptOut.served (.readOutcomes s r count) t h
  case configure r number => exact KeptOut.served (.configure s r number) t h
  case snapshot r first count => exact KeptOut.served (.snapshot s r first count) t h
  case correct r reports => exact KeptOut.served (.correct s r reports) t h
  case reAnchor r site a b => exact KeptOut.served (.reAnchor s r site a b) t h
  case peerControlEnable r n => exact KeptOut.served (.peerControlEnable s r n) t h
  case peerControlDisable r n => exact KeptOut.served (.peerControlDisable s r n) t h
  case peerControlReset r n => exact KeptOut.served (.peerControlReset s r n) t h
  case readPeer r n => exact KeptOut.served (.readPeer s r n) t h
  case inquire r site item => exact KeptOut.served (.inquire s r site item) t h
  case readInquiry r => exact KeptOut.served (.readInquiry s r) t h
  case busPowerOn r bus => exact KeptOut.served (.busPowerOn s r bus) t h
  case busPowerOff r bus => exact KeptOut.served (.busPowerOff s r bus) t h
  case readBus r bus => exact KeptOut.served (.readBus s r bus) t h
  case deadlineExpiry  => exact KeptOut.acts (.deadlineExpiry s) t h
  case waitDeadlinePasses site => exact KeptOut.acts (.waitDeadlinePasses s site) t h
  case legTimeout site => exact KeptOut.acts (.legTimeout s site) t h
  case haltTimeLimit site => exact KeptOut.acts (.haltTimeLimit s site) t h
  case legDispatch bus => exact KeptOut.acts (.legDispatch s bus) t h
  case haltBroadcast bus => exact KeptOut.acts (.haltBroadcast s bus) t h
  case haltAddressed bus => exact KeptOut.acts (.haltAddressed s bus) t h
  case poll bus => exact KeptOut.acts (.poll s bus) t h
  case setCounts bus => exact KeptOut.acts (.setCounts s bus) t h
  case inquireTransaction bus => exact KeptOut.acts (.inquireTransaction s bus) t h
  case keepalivePoll bus => exact KeptOut.acts (.keepalivePoll s bus) t h
  case robotReplyGood bus reply => exact KeptOut.acts (.robotReplyGood s bus reply) t h
  case robotReplyMissing bus => exact KeptOut.acts (.robotReplyMissing s bus) t h
  case robotReplyCheckError bus => exact KeptOut.acts (.robotReplyCheckError s bus) t h
  case jabber bus => exact KeptOut.acts (.jabber s bus) t h
  case blankingEnd bus => exact KeptOut.acts (.blankingEnd s bus) t h
  case rollcall bus => exact KeptOut.acts (.rollcall s bus) t h
  case rollcallSlotEnd bus slot => exact KeptOut.acts (.rollcallSlotEnd s bus slot) t h
  case ident n f => exact KeptOut.acts (.ident s n f) t h
  case summary p count entries => exact KeptOut.acts (.summary s p count entries) t h
  case summaryClient p count entries => exact KeptOut.acts (.summaryClient s p count entries) t h
  case keepalive p => exact KeptOut.acts (.keepalive s p) t h
  case claim p n => exact KeptOut.acts (.claim s p n) t h
  case withdraw p n => exact KeptOut.acts (.withdraw s p n) t h
  case release p n => exact KeptOut.acts (.release s p n) t h
  case pin p n => exact KeptOut.acts (.pin s p n) t h
  case hold p n => exact KeptOut.acts (.hold s p n) t h
  case grant p n => exact KeptOut.acts (.grant s p n) t h
  case refuse p n reason => exact KeptOut.acts (.refuse s p n reason) t h
  case peerFrameError n => exact KeptOut.acts (.peerFrameError s n) t h
  case identSend n => exact KeptOut.acts (.identSend s n) t h
  case keepaliveSend n => exact KeptOut.acts (.keepaliveSend s n) t h
  case silenceLimit n => exact KeptOut.acts (.silenceLimit s n) t h
  case matchedTimeout n => exact KeptOut.acts (.matchedTimeout s n) t h
  case syncingTimeout n => exact KeptOut.acts (.syncingTimeout s n) t h
  case peerFrameSent n => exact KeptOut.acts (.peerFrameSent s n) t h
  case shutterOpened => exact KeptOut.shutterOpened s t h
  case shutterClosed => exact KeptOut.shutterClosed s t h
  case stopAsserted => exact KeptOut.stopAsserted s t h
  case stopReleased => exact KeptOut.stopReleased s t h
  case stationFrameReceived p bytes => exact KeptOut.stationFrameReceived s p bytes t h
  case badFrame p tag code => exact KeptOut.badFrame s p tag code t h
  case unknown p tag code => exact KeptOut.unknown s p tag code t h
  case currentSample n v => exact KeptOut.currentSample s n v t h
  case mapBegin r sector count neighbours => exact KeptOut.mapBegin s r sector count neighbours t h
  case mapSites r entries => exact KeptOut.mapSites s r entries t h
  case mapEnd r => exact KeptOut.serve .endLoad t h
  case enableSet r mask => exact KeptOut.enableSet s r mask t h
  case enableClear r mask => exact KeptOut.enableClear s r mask t h
  case openSector r => exact KeptOut.serve .openAnswer t h
  case freeze r => exact KeptOut.serve .freezeAnswer t h
  case thaw r => exact KeptOut.serve .thawAnswer t h
  case resume r => exact KeptOut.serve .resumeAnswer t h
  case restart r => exact KeptOut.serve .restarted t h
  case loadTargets r entries => exact KeptOut.serve (.loadTargetsAnswer entries) t h
  case clearTargets r => exact KeptOut.clearTargets s r t h
  case readField r => exact KeptOut.serveSame (fun _ => rfl) t h
  case portStatus r => exact KeptOut.portStatus s r t h
  case setMask r enables => exact KeptOut.setMask s r enables t h
  case readCause r => exact KeptOut.readCause s r t h
  case setParamStowAngle r v => exact KeptOut.serve (.stowAnswer v) t h
  case setParamShareRatio r v => exact KeptOut.serve (.shareAnswer v) t h
  case setParamDeadlineAction r v => exact KeptOut.serve (.actionAnswer v) t h
  -- What is left sets one of the parameters with a range.
  all_goals exact KeptOut.serve (fun u => .rangeParam u) t h

/-- Every step keeps the bounds of R49: a command by `exec_keepsBounds`, and a millisecond changes no record. -/
theorem step_keepsBounds {s t : State} (h : step s = .next t) : s.KeepsBounds t := by
  unfold step at h
  split at h
  · cases h
    exact .same rfl
  · rename_i c rest _
    exact State.KeepsBounds.trans (.same rfl : s.KeepsBounds { s with pending := rest }) (exec_keepsBounds h)

end Sys2Proof.Machine

/-- Settles O57: every step keeps the bounds (`step_keepsBounds`). -/
theorem everyStepKeepsTheLensBounds : Obligations.EveryStepKeepsTheLensBounds :=
  fun _ _ hs h => Sys2Proof.Machine.step_keepsBounds h hs
end


section
/-! The claim decision table, the reconciliation test, and what a consistent report leaves a robot (R53, R65,
R66). -/

namespace Sys2Proof.Machine

/-! ### What a robot has at a record, over the steps that leave it its own -/

/-- Side `p` neither holds nor pins the record. -/
structure Decided.Without (d : Decided) (p : Party) : Prop where
  wf : d.wf = true
  held : d.heldBy p = false
  pin : d.pinned p = false

/-- Side `p` holds the record, of kind `k`. -/
structure Decided.Holds (d : Decided) (p : Party) (k : HoldKind) : Prop where
  wf : d.wf = true
  holder : d.holder = some (p, k)

/-- Side `p` holds the record, or pins it and nothing stands against it (R65). -/
structure Decided.Faces (d : Decided) (p : Party) : Prop where
  wf : d.wf = true
  part : (∃ k, d.holder = some (p, k)) ∨ d.holder = none ∧ d.pinned p = true ∧ d.pinned p.other = false

namespace Decided

variable {d d' : Decided} {p : Party} {G S : Party → Prop}

theorem heldBy_of_holder {q : Party} {k : HoldKind} (h : d.holder = some (q, k)) : d.heldBy p = (q == p) := by
  simp [heldBy, h]

theorem Holds.ebbs {k : HoldKind} (h : d.Holds p k) (he : Ebbs G S d d') (hG : G p) : d'.Holds p k :=
  ⟨he.wf h.wf, he.kept p k h.holder hG⟩

theorem Faces.ebbs (h : d.Faces p) (he : Ebbs G S d d') (hG : G p) : d'.Faces p := by
  refine ⟨he.wf h.wf, h.part.imp (fun ⟨k, hk⟩ => ⟨k, he.kept p k hk hG⟩) fun ⟨hn, hp, ho⟩ => ?_⟩
  rw [he.pins p (by simp [hn]), he.pins p.other (by simp [hn])]
  exact ⟨he.free hn, hp, ho⟩

theorem Without.ebbs (h : d.Without p) (he : Ebbs G S d d') (hG : G p.other) : d'.Without p where
  wf := he.wf h.wf
  held := by
    by_cases hw : d.waiter = some p
    · obtain ⟨k, hk⟩ := heldBy_iff.mp (((wf_iff d).mp h.wf).2.2 p hw)
      rw [heldBy_of_holder (he.kept p.other k hk hG)]
      cases p <;> rfl
    · exact (he.apart p h.held hw).1
  pin := by
    have hno : d.holder ≠ some (p, .occupied) := fun ho => by
      have := h.held
      simp [heldBy, ho] at this
    rw [he.pins p hno, h.pin]

/-- A robot that faces its lens comes to hold it OCCUPIED (R66). -/
theorem Faces.occupyBy (h : d.Faces p) : (d.occupyBy p).Holds p .occupied := by
  refine ⟨wf_occupyBy p h.wf, ?_⟩
  have hfree : d.pinned p.other = false ∧ d.heldBy p.other = false := by
    rcases h.part with ⟨k, hk⟩ | ⟨hn, -, ho⟩
    · exact ⟨pinned_of_held h.wf (by simp [hk]) _, by rw [heldBy_of_holder hk]; cases p <;> rfl⟩
    · exact ⟨ho, Ebbs.heldBy_false hn _⟩
  simp [Decided.occupyBy, hfree]

theorem Holds.setKind {k : HoldKind} (h : d.Holds p k) (j : HoldKind) : (d.setKind p j).Holds p j :=
  ⟨wf_setKind p j h.wf, by simp [Decided.setKind, heldBy_of_holder h.holder]⟩

theorem Holds.release {k : HoldKind} (h : d.Holds p k) : d.release.Without p where
  wf := wf_release h.wf
  held := (release_gone h.holder (waiter_ne_of_heldBy h.wf (heldBy_iff.mpr ⟨k, h.holder⟩))).1
  pin := by
    have hpin := pinned_of_held h.wf (by simp [h.holder]) p
    have hsame : d.release.pinned p = d.pinned p := by
      unfold Decided.release
      split <;> cases p <;> rfl
    rw [hsame, hpin]

theorem removePin_of_unpinned (h : d.pinned p = false) : d.removePin p = d := by
  rcases d with ⟨hd, pa, pb, w, t⟩
  cases p <;> cases h <;> rfl

theorem without_removePin (hwf : d.wf = true) (hno : d.heldBy p = false) : (d.removePin p).Without p := by
  refine ⟨wf_removePin p hwf, ?_, ?_⟩
  · cases p <;> exact hno
  · cases p <;> rfl

end Decided

/-! ### What R66 does at one lens -/

/-- What a consistent report leaves of a robot's part at its facing lens, at its target lens and elsewhere. -/
def Decided.Reconciled (d : Decided) (p : Party) (facing target : Bool) : Prop :=
  if facing then d.Holds p .occupied
  else d.Without p ∨ target = true ∧ d.Holds p .reserved

theorem Decided.Reconciled.ebbs {d d' : Decided} {p : Party} {G S : Party → Prop} {f t : Bool}
    (h : d.Reconciled p f t) (he : Ebbs G S d d') (hG : ∀ q, G q) : d'.Reconciled p f t := by
  cases f with
  | true => exact Holds.ebbs h he (hG p)
  | false => exact h.imp (·.ebbs he (hG p.other)) fun ⟨ht, hh⟩ => ⟨ht, hh.ebbs he (hG p)⟩

/-- What a consistent report does at one lens (R66). -/
def State.reconcileLens (s : State) (site : Nat) (facing target : Bool) (i : Nat) : State :=
  if facing then s.occupyFacing site i else if target then s.keepTargetLens site i else s.vacateLens site i

theorem State.applyConsistent_eq (s : State) (site : Nat) (p : Pos) : s.applyConsistent site p =
    s.forLenses fun i t =>
      t.reconcileLens site (s.facingLens site p == some i) (s.targetLensOf site == some i) i := by
  unfold State.applyConsistent State.reconcileLens
  simp only [beq_iff_eq]

/-- A record that is replaced by itself. -/
theorem State.modLens_same {s : State} {i : Nat} {l : Lens} {b : LensBody} (hl : s.lenses[i]? = some l)
    (hb : l.body = b) : (s.modLens i fun _ => b) = s := by
  have hset : s.lenses.modify i (fun l => { l with body := b }) = s.lenses := by
    rw [List.modify_eq_set_getElem?, hl, ← hb]
    obtain ⟨hi, rfl⟩ := List.getElem?_eq_some_iff.mp hl
    exact List.set_getElem_self hi
  exact congrArg (fun lenses => { s with lenses }) hset

/-- R66 at one lens replaces its record by one that is reconciled, and then tells the other side. -/
theorem State.reconcileLens_decided {s : State} {site i : Nat} {l : Lens} {d : Decided} {me : Party} (f t : Bool)
    (hl : s.lenses[i]? = some l) (hb : l.body = .decided d) (hp : l.partyOf site = some me) (hwf : d.wf = true)
    (hf : f = true → d.Faces me) : ∃ d' : Decided, d'.Reconciled me f t ∧
      ∀ E X, (s.setDecided i d').Ebbs E X (s.reconcileLens site f t i) := by
  have hsame : s.setDecided i d = s := State.modLens_same hl hb
  cases f with
  | true =>
    refine ⟨d.occupyBy me, (hf rfl).occupyBy, fun E X => ?_⟩
    have : s.reconcileLens site true t i = s.setDecided i (d.occupyBy me) := by
      simp [State.reconcileLens, State.occupyFacing, hl, hp, hb]
    exact this ▸ .refl _
  | false =>
    cases hh : d.heldBy me with
    | true =>
      obtain ⟨k, hk⟩ := Decided.heldBy_iff.mp hh
      have hholds : d.Holds me k := ⟨hwf, hk⟩
      cases t with
      | true =>
        refine ⟨d.setKind me .reserved, .inr ⟨rfl, hholds.setKind _⟩, fun E X => ?_⟩
        have : s.reconcileLens site false true i = s.setDecided i (d.setKind me .reserved) := by
          simp [State.reconcileLens, State.keepTargetLens, hl, hp, hb, hh]
        exact this ▸ .refl _
      | false =>
        refine ⟨d.release, .inl hholds.release, fun E X => ?_⟩
        have : s.reconcileLens site false false i = s.releaseDecided i l d := by
          simp [State.reconcileLens, State.vacateLens, hl, hp, hb, hh]
        exact this ▸ .told_releaseDecided s i l d
    | false =>
      refine ⟨d.removePin me, .inl (Decided.without_removePin hwf hh), fun E X => ?_⟩
      have : s.reconcileLens site false t i = s.setDecided i (d.removePin me) := by
        cases hpin : d.pinned me with
        | true => cases t <;>
            simp [State.reconcileLens, State.keepTargetLens, State.vacateLens, hl, hp, hb, hh, hpin]
        | false =>
          rw [Decided.removePin_of_unpinned hpin, hsame]
          cases t <;>
            simp [State.reconcileLens, State.keepTargetLens, State.vacateLens, hl, hp, hb, hh, hpin]
      exact this ▸ .refl _


/-- A CLIENT record stays one (R66, R69). -/
theorem State.reconcileLens_client {s : State} {site i : Nat} {l : Lens} {c : Client} {me : Party} (f t : Bool)
    (hl : s.lenses[i]? = some l) (hb : l.body = .client c) (hp : l.partyOf site = some me) :
    ∃ c', ∀ E X, (s.setClient i c').Ebbs E X (s.reconcileLens site f t i) := by
  have hkept : ∃ c', ∀ E X, (s.setClient i c').Ebbs E X s :=
    ⟨c, fun E X => by rw [State.setClient, State.modLens_same hl hb]; exact .refl s⟩
  have hsent : ∀ st m, ∃ c', ∀ E X, (s.setClient i c').Ebbs E X (s.clientTo i l c st m) :=
    fun st m => ⟨_, fun E X => .told_clientTo s i l c st m⟩
  unfold State.reconcileLens State.occupyFacing State.keepTargetLens State.vacateLens
  simp only [hl, hp, hb]
  split
  · cases c.claim
    exacts [hkept, hkept, hsent _ _, hkept, hsent _ _]
  · split
    · cases c.claim
      exacts [hkept, hkept, hkept, ⟨_, fun E X => .refl _⟩, hsent _ _]
    · cases c.claim
      exacts [hkept, hkept, hsent _ _, hsent _ _, hsent _ _]

/-- R66 at one lens is a change of that lens. -/
theorem State.Ebbs.reconcileLens {E X : Nat → Prop} (s : State) {site i : Nat} (f t : Bool) (h : X i) :
    s.Ebbs E X (s.reconcileLens site f t i) := by
  unfold State.reconcileLens
  split
  · exact .occupyFacing s h
  · split
    · exact .keepTargetLens s h
    · exact .vacateLens s h

/-- A consistent report leaves every decided record of the robot reconciled (R66). -/
theorem State.applyConsistent_reconciled {s : State} {site : Nat} {p : Pos} {i : Nat} {l : Lens} {d : Decided}
    {me : Party} (hs : s.LensesSound)
    (hface : ∀ l₀ d₀, s.facingLens site p = some i → s.lenses[i]? = some l₀ → l₀.body = .decided d₀ →
      l₀.partyOf site = some me → d₀.Faces me)
    (hl : (s.applyConsistent site p).lenses[i]? = some l) (hb : l.body = .decided d)
    (hp : l.partyOf site = some me) :
    d.Reconciled me (s.facingLens site p == some i) (s.targetLensOf site == some i) := by
  rw [State.applyConsistent_eq] at hl
  obtain ⟨l₀, hl₀, ⟨ha, hb'⟩, -⟩ := (State.Ebbs.forLenses (E := fun _ => False) (X := fun _ => True)
    (fun t j => .reconcileLens t _ _ trivial) s).lenses.get' hl
  have hp₀ : l₀.partyOf site = some me := (State.Ebbs.partyOf_congr ha hb' site).symm.trans hp
  obtain ⟨u, hu, ht⟩ := State.Ebbs.foldRange_at (E := fun _ => False) (X := (· ≠ i)) (E' := fun _ => False)
    (X' := (· ≠ i)) (act := fun j t => t.reconcileLens site (s.facingLens site p == some j)
      (s.targetLensOf site == some j) j)
    (fun j hj t => .reconcileLens t _ _ (by omega)) (fun j hj t => .reconcileLens t _ _ (by omega))
    (List.getElem?_eq_some_iff.mp hl₀).1 s
  obtain ⟨l₁, hl₁, ⟨ha₁, hb₁⟩, he₁⟩ := hu.lenses.get hl₀
  have hp₁ : l₁.partyOf site = some me := (State.Ebbs.partyOf_congr ha₁ hb₁ site).trans hp₀
  have hkeeps : ∀ (m : Lens) q, m.keeps (fun _ => False) q := fun _ _ _ => False.elim
  have he₁ := he₁ (by simp)
  cases hbody : l₀.body with
  | client c =>
    obtain ⟨c₁, hc₁, -⟩ := he₁.client c hbody
    obtain ⟨c₂, htold⟩ := State.reconcileLens_client (s.facingLens site p == some i)
      (s.targetLensOf site == some i) hl₁ hc₁ hp₁
    obtain ⟨l₂, hl₂, -, he₂⟩ := ((htold _ _).trans ht).modLens_then hl₁ (by simp)
    cases hl₂.symm.trans hl
    obtain ⟨c', hc', -⟩ := he₂.client c₂ rfl
    exact nomatch hc'.symm.trans hb
  | decided d₀ =>
    obtain ⟨d₁, hd₁, hebb₁⟩ := he₁.decided d₀ hbody
    have hwf₀ : d₀.wf = true := Acts.wf_of hs hl₀ hbody
    obtain ⟨d₂, hrec, htold⟩ := State.reconcileLens_decided (s.facingLens site p == some i)
      (s.targetLensOf site == some i) hl₁ hd₁ hp₁ (hebb₁.wf hwf₀)
      fun hf => (hface l₀ d₀ (by simpa using hf) hl₀ hbody hp₀).ebbs hebb₁ (hkeeps _ _)
    obtain ⟨l₂, hl₂, -, he₂⟩ := ((htold _ _).trans ht).modLens_then hl₁ (by simp)
    cases hl₂.symm.trans hl
    obtain ⟨d', hd', hebb₂⟩ := he₂.decided d₂ rfl
    cases hd'.symm.trans hb
    exact hrec.ebbs hebb₂ (hkeeps _)

/-! ### The reconciliation test (R65) -/

theorem Lens.heldForFacing_iff (l : Lens) (site : Nat) : l.heldForFacing site = true ↔
    (∃ c, l.body = .client c ∧ (c.claim = .heldReserved ∨ c.claim = .heldOccupied ∨ c.claim = .pinned)) ∨
      ∃ d me, l.body = .decided d ∧ l.partyOf site = some me ∧ (d.heldBy me = true ∨
        (d.pinned me = true ∧ d.pinned me.other = false ∧ d.heldBy me.other = false)) := by
  unfold Lens.heldForFacing
  cases l.body with
  | client c => simp [or_assoc]
  | decided d => cases l.partyOf site <;> simp [and_assoc]

theorem State.facingLens_eq {s : State} {site : Nat} {x : Site} (p : Pos) (hx : s.site? site = some x) :
    s.facingLens site p = if s.params.stowAngle < p.beta then s.lensToward site (x.sector p.alpha) else none := by
  simp only [State.facingLens, extended_iff, hx, Option.bind_some]

/-- A report is consistent where it has no facing lens, or its robot holds it for its facing (R65). -/
theorem State.consistent_iff (s : State) (site : Nat) (p : Pos) : s.consistent site p = true ↔
    ∀ i, s.facingLens site p = some i → ∃ l, s.lenses[i]? = some l ∧ l.heldForFacing site = true := by
  unfold State.consistent State.lensHas
  cases s.facingLens site p with
  | none => simp
  | some i => cases hl : s.lenses[i]? <;> simp [hl]

/-- A decided record that passes the test is faced. -/
theorem Lens.faces_of_heldForFacing {l : Lens} {site : Nat} {d : Decided} {me : Party}
    (h : l.heldForFacing site = true) (hb : l.body = .decided d) (hp : l.partyOf site = some me)
    (hwf : d.wf = true) : d.Faces me := by
  refine ⟨hwf, ?_⟩
  rcases (Lens.heldForFacing_iff l site).mp h with ⟨c, hc, -⟩ | ⟨e, q, he, hq, hpart⟩
  · exact nomatch hb.symm.trans hc
  · cases hb.symm.trans he
    cases hp.symm.trans hq
    rcases hpart with hheld | ⟨hpin, hother, -⟩
    · exact .inl (Decided.heldBy_iff.mp hheld)
    · refine .inr ⟨?_, hpin, hother⟩
      by_contra hne
      rw [Decided.pinned_of_held hwf hne] at hpin
      cases hpin

end Sys2Proof.Machine

open Sys2Proof Sys2Proof.Machine

/-- Settles O31: the table and the test are read off case by case; for the reconciliation, the walk over the
lenses is taken apart at the lens in question, whose record the steps before and after it leave as it is for
its robot (`State.applyConsistent_reconciled`). -/
theorem lensTableDecidesAndReconciles : Obligations.LensTableDecidesAndReconciles := by
  unfold Obligations.LensTableDecidesAndReconciles
  refine ⟨fun d remote leaving => ⟨decideClaim_free, decideClaim_pinned, ?_, ?_, ?_⟩, ?_, ?_, ?_⟩
  · rcases d with ⟨_ | ⟨p, k⟩, pa, pb, w, t⟩
    · cases pa <;> cases pb <;> simp [Decided.state]
    · rintro - rfl
      rfl
  · rcases d with ⟨_ | ⟨p, _ | _⟩, pa, pb, w, t⟩
    · cases pa <;> cases pb <;> simp [Decided.state]
    all_goals simp [Decided.state, decideClaim]
  · rcases d with ⟨_ | ⟨p, _ | _⟩, pa, pb, w, t⟩
    · cases pa <;> cases pb <;> simp [Decided.state]
    all_goals simp +contextual [Decided.state, decideClaim]
  · intro s site x p hx
    rw [State.consistent_iff, State.facingLens_eq p hx]
    split
    · next hext =>
      simp only [Lens.heldForFacing_iff, Nat.not_le.mpr hext, false_or]
      cases s.lensToward site (x.sector p.alpha) <;> simp
    · next hext => simp [Nat.not_lt.mp hext]
  · exact fun s site x p hx => State.facingLens_eq p hx
  · intro s site p i l d me hs hcons hl hb hp hpart
    have hrec := State.applyConsistent_reconciled hs (fun l₀ d₀ hf hl₀ hb₀ hp₀ => by
      obtain ⟨l₁, hl₁, hheld⟩ := (State.consistent_iff s site p).mp hcons i hf
      cases hl₁.symm.trans hl₀
      exact Lens.faces_of_heldForFacing hheld hb₀ hp₀ (Acts.wf_of hs hl₀ hb₀)) hl hb hp
    unfold Decided.Reconciled at hrec
    split at hrec
    · next hf =>
      exact .inl ⟨by simpa using hf, hrec.holder, Decided.pinned_of_held hrec.wf (by simp [hrec.holder]) me⟩
    · next hf =>
      rcases hrec with hno | ⟨htarget, hheld⟩
      · exact absurd hpart (by simp [hno.held, hno.pin])
      · exact .inr ⟨by simpa using hf, by simpa using htarget, hheld.holder,
          Decided.pinned_of_held hheld.wf (by simp [hheld.holder]) me⟩
end


section
/-! BUS_POWER on and off (R167, R168), and what a request that is answered leaves of every part but its port. -/

namespace Sys2Proof.Machine

/-- A taken request that changes the engine's parts alone leaves the state it was taken in, with those parts as
they then are. -/
theorem State.answered_engine {s : State} {r : Req} {code : Byte} {st : Status} {b : Body} {f : State → State}
    (h : s.Takes r code)
    (hf : f (s.takeRequest r.port r.tag code) =
      (s.takeRequest r.port r.tag code).engine (f (s.takeRequest r.port r.tag code))) :
    s.answered r code st b f = s.answered r code st b (·.engine (s.answered r code st b f)) := by
  simp only [answered_takes _ _ _ _ _ _ h]
  conv => lhs; rw [hf]
  cases r.port <;> rfl

/-- A loss of power is of the parts that no port shows. -/
theorem State.PowerLost.taken {s t : State} {p : PortId} {tag code : Byte} {n : Nat}
    (h : (s.takeRequest p tag code).PowerLost t n) (x : Response) : s.PowerLost (t.respond p x) n := by
  cases p <;> exact h

/-- A BUS_POWER on that is taken, at a bus of the unit (R167). -/
theorem powerOnAnswer_bus {t : State} {n : Nat} {b : Bus} (hn : n ≤ 7) (hb : t.buses[n]? = some b) :
    powerOnAnswer n t =
      if t.map.isNone then refuseWith t .noMap
      else if t.mode = .halted then refuseWith t .wrongMode
      else if b.switch = .on then okWith t (.switch .on)
      else okWith (t.modBus n fun x => x.switchOn t.now) (.switch .on) := by
  simp only [powerOnAnswer, hb, if_neg (Nat.not_lt.mpr hn)]

/-- A BUS_POWER off that is taken, at a bus of the unit (R168). -/
theorem powerOffAnswer_bus {t : State} {n : Nat} {b : Bus} (hn : n ≤ 7) (hb : t.buses[n]? = some b) :
    (b.switch = .off → powerOffAnswer n t = okWith t (.switch .off)) ∧
    (b.switch = .tripped → powerOffAnswer n t = okWith (t.modBus n Bus.clearTripped) (.switch .off)) ∧
    (b.switch = .on → powerOffAnswer n t =
      if 0 < t.concurrency n then refuseWith t .busy
      else okWith ((t.modBus n Bus.requestOff).powerLoss [n]) (.switch .off)) := by
  simp only [powerOffAnswer, hb, if_neg (Nat.not_lt.mpr hn)]
  refine ⟨fun h => ?_, fun h => ?_, fun h => ?_⟩ <;> rw [h]

/-- What a switch turned off by request leaves of its bus, and the power it takes (R168). -/
theorem State.requestOff_leaves {s : State} {n : Nat} {b : Bus} (hb : s.buses[n]? = some b) :
    (∃ b', ((s.modBus n Bus.requestOff).powerLoss [n]).buses[n]? = some b' ∧ Bus.Ebbs b.requestOff.powerDown b') ∧
    s.PowerLost ((s.modBus n Bus.requestOff).powerLoss [n]) n := by
  have hoff : (s.modBus n Bus.requestOff).buses[n]? = some b.requestOff := by simp [hb]
  obtain ⟨hbuses, -, -⟩ := (s.modBus n Bus.requestOff).powerLoss_leaves [n]
  obtain ⟨b', hb', he⟩ := hbuses n _ hoff
  rw [if_pos (by simp)] at he
  refine ⟨⟨b', hb', he⟩, State.powerLost_of (by simp) rfl rfl fun b0 hb0 => ?_⟩
  cases hb.symm.trans hb0
  exact ⟨_, hoff, rfl, rfl, rfl⟩

/-- The ends of moves latch no trip (R171, R176). -/
theorem State.Eases.busTrip {X : Prop} {O : MoveOutcome → Prop} {s t : State} (h : s.Eases X O t) :
    t.notices.busTrip = s.notices.busTrip := by
  induction h with
  | trans _ _ h1 h2 => exact h2.trans h1
  | quiet hbooks _ =>
    exact congrArg (fun b : List OutcomeRecord × Bool × FieldRecord × Timer × Notices => b.2.2.2.2.busTrip) hbooks
  | count s o _ =>
    unfold State.countFieldEnd State.endField
    split <;> rfl
  | refl | lens | record | queue => rfl

theorem State.Eases.goOffline (s : State) (site : Nat) : s.Eases True (fun _ => True) (s.goOffline site) :=
  ((modRobot s site _).trans (finishMove _ site .offline fun _ _ _ => trivial)).trans (modRobot _ site _)

theorem State.Eases.losing (s : State) (on : Nat → Bool) : s.Eases True (fun _ => True) (s.losing on) := by
  refine (forLenses (fun t i => forSites (fun u site => ?_) t) s).trans (forSites (fun u site => ?_) _)
  · split
    · exact lossLens u site i
    · exact .refl u
  · split
    · exact goOffline u site
    · exact .refl u

/-- A loss of power latches no trip. -/
theorem State.powerLoss_busTrip (s : State) (buses : List Nat) :
    (s.powerLoss buses).notices.busTrip = s.notices.busTrip := by
  obtain ⟨w, hw⟩ := s.powerLoss_eq buses
  obtain ⟨q, k, hfail, hbt⟩ := (buses.foldl (fun u b => u.modBus b Bus.powerDown) s).failInquiryPower_frame buses
  rw [hw, ((State.Eases.losing _ _).trans (.close w _ trivial)).busTrip, hfail]
  exact hbt.trans (by rw [State.powerDown_frame])

end Sys2Proof.Machine

open Sys2Proof Sys2Proof.Machine

/-- Settles O45: each switch state is a case of its own, and a switch that is ON goes OFF by the loss of its bus's
power (`State.requestOff_leaves`). -/
theorem busPowerActsByTheSwitch : Obligations.BusPowerActsByTheSwitch := by
  intro s r n b hr hn hb ends
  have hv : (s.takeRequest r.port r.tag 32).buses[n]? = some b := by simpa using hb
  have hon := powerOnAnswer_bus hn hv
  obtain ⟨hoff, htripped, hlive⟩ := powerOffAnswer_bus hn hv
  simp only [takeRequest_map, takeRequest_mode, takeRequest_now, takeRequest_concurrency] at hon hlive
  refine ⟨fun hmap => ?_, fun hmap hmode => ?_, fun hmap hmode => ⟨fun hsw => ?_, fun hsw => ?_⟩, fun hsw => ?_,
    fun hsw => ?_, fun hsw hc => ?_, fun hsw hc htakes => ?_⟩
  · exact congrArg _ (serve_refused hr (hon.trans (by simp [hmap])))
  · exact congrArg _ (serve_refused hr (hon.trans (by simp [hmap, hmode])))
  · exact congrArg _ (serve_sequencer s r 32 _ _ _ id hr (hon.trans (by simp [hmap, hmode, hsw, okWith])))
  · exact congrArg _ (serve_sequencer s r 32 _ _ _ (fun t => t.modBus n fun x => x.switchOn s.now) hr
      (hon.trans (by simp [hmap, hmode, hsw, okWith])))
  · exact congrArg _ (serve_sequencer s r 32 _ _ _ id hr (hoff hsw))
  · exact congrArg _ (serve_sequencer s r 32 _ _ _ (fun t => t.modBus n Bus.clearTripped) hr (htripped hsw))
  · exact congrArg _ (serve_refused hr ((hlive hsw).trans (by simp [hc])))
  · let off (t : State) := (t.modBus n Bus.requestOff).powerLoss [n]
    have hexec : exec (.busPowerOff r n) s = .next (s.answered r 32 .ok (.switch .off) off) :=
      congrArg _ (serve_sequencer s r 32 _ _ _ off hr ((hlive hsw).trans (by simp [hc, okWith, off])))
    obtain ⟨⟨b', hb', he⟩, hlost⟩ := State.requestOff_leaves hv
    have htrip : (off (s.takeRequest r.port r.tag 32)).notices.busTrip = s.notices.busTrip :=
      (State.powerLoss_busTrip _ _).trans (by simp)
    have hframe : s.answered r 32 .ok (.switch .off) off =
        s.answered r 32 .ok (.switch .off) (·.engine (s.answered r 32 .ok (.switch .off) off)) :=
      State.answered_engine htakes
        ((Acts.bus (s.takeRequest r.port r.tag 32) n Bus.requestOff fun _ => id).trans (Acts.powerLoss _ [n])).engine
    refine ⟨_, b', hexec, hframe, ?_⟩
    rw [answered_takes _ _ _ _ _ _ htakes]
    rw [State.respond, State.modPort_buses, State.modPort_notices]
    refine ⟨hlost.taken _, hb', ?_⟩
    rw [he]
    exact ⟨rfl, rfl, rfl, rfl, rfl, rfl, htrip⟩
end


section
/-! Border messages taken in UP (R68, R69, R135, R136): what reaches the rule of a message, and a CLAIM's. -/

namespace Sys2Proof.Machine

/-! ### A border message that is taken -/

/-- The lens that a message names on a link is one of that link's (R135). -/
theorem State.Names.link {s : State} {n i : Nat} {name : LensName} {l : Lens} (h : s.Names n name i l) :
    l.link = some n := by
  obtain ⟨hname, hl⟩ := h
  unfold State.lensNamed at hname
  split at hname
  · cases hname
  · next j hj =>
    split at hname
    · cases hname
      have hmem := (List.mem_filter.mp (List.mem_of_getElem? hj)).2
      simpa [State.lensHas, hl] using hmem
    · cases hname

/-- The link unit that has taken a frame in order is UP, with the queue it had. -/
theorem State.InOrder.taken {s : State} {h : PeerHeader} {k : Link} (ho : s.InOrder h k) :
    ∃ u, (s.frameTaken h.link).links[h.link]? = some u ∧ u.state = .up ∧ u.transmit = k.transmit := by
  obtain ⟨hk, hup, -, -⟩ := ho
  exact ⟨{ k with takenAt := s.now, recvSeq := (k.recvSeq + 1) % 256 }, by simp [State.frameTaken, hk], hup, rfl⟩

/-- A numbered frame in order acts on the state in which its unit has taken it (R135, R136, R143). -/
theorem State.takeNumbered_inOrder {s : State} {h : PeerHeader} {k : Link} (ho : s.InOrder h k)
    (act : State → State) : s.takeNumbered h true act = s.close (act (s.frameTaken h.link)) := by
  obtain ⟨hk, hup, hsender, hseq⟩ := ho
  have hgood : ¬ (h.sender ≠ s.neighbourNumber h.link ∨ true = false ∨ k.sequenceBad h.seq = true) := by
    simp [hsender, Link.sequenceBad, hseq]
  have htaken : (s.touch h.link).advanceRecv h.link = s.frameTaken h.link := by
    unfold State.touch State.advanceRecv State.frameTaken
    simp only [State.modLink, List.modify_modify_eq]
    rfl
  unfold State.takeNumbered
  simp only [hk, if_neg (show k.state ≠ .disabled by simp [hup]), if_neg hgood, if_pos hup, htaken]

/-- A message for the arbiter side in order acts on the record that it names (R68). -/
theorem State.arbiterMessage_inOrder {s : State} {h : PeerHeader} {k : Link} {name : LensName} {i : Nat} {l : Lens}
    {d : Decided} {p : Party} (ho : s.InOrder h k) (hrole : s.isArbiter h.link = true)
    (hname : s.Names h.link name i l) (hb : l.body = .decided d) (hp : l.remoteParty = some p)
    (act : State → Nat → Lens → Decided → Party → State) :
    s.arbiterMessage h name act = s.close (act (s.frameTaken h.link) i l d p) := by
  obtain ⟨hn, hl⟩ := hname
  unfold State.arbiterMessage
  rw [hrole, hn, Option.isSome_some, Bool.and_true, State.takeNumbered_inOrder ho]
  have hu : (s.frameTaken h.link).lenses[i]? = some l := hl
  simp only [hu, hp, hb]

/-- A message for the client side in order acts on the record that it names (R69). -/
theorem State.clientMessage_inOrder {s : State} {h : PeerHeader} {k : Link} {name : LensName} {i : Nat} {l : Lens}
    {c : Client} (ho : s.InOrder h k) (hrole : s.isClient h.link = true) (hname : s.Names h.link name i l)
    (hb : l.body = .client c) (act : State → Nat → Lens → Client → State) :
    s.clientMessage h name act = s.close (act (s.frameTaken h.link) i l c) := by
  obtain ⟨hn, hl⟩ := hname
  unfold State.clientMessage
  rw [hrole, hn, Option.isSome_some, Bool.and_true, State.takeNumbered_inOrder ho]
  have hu : (s.frameTaken h.link).lenses[i]? = some l := hl
  simp only [hu, hb]

/-- A message sent in answer, on the link that has taken the frame and has room. -/
theorem State.sendBorder_answer {s v : State} {h : PeerHeader} {k : Link} {name : LensName} {i : Nat} {l : Lens}
    (ho : s.InOrder h k) (hname : s.Names h.link name i l) (hroom : k.transmit.length < 64)
    (hv : v.links = (s.frameTaken h.link).links) (m : BorderMessage) :
    v.sendBorder (l.link.getD 0) i m = v.withMessage h.link i m := by
  obtain ⟨u, hu, hup, hq⟩ := ho.taken
  rw [hname.link]
  exact State.sendBorder_eq i m (hv ▸ hu) hup (hq ▸ hroom)

/-! ### CLAIM (R53, R68) -/

section
variable {t : State} {i : Nat} {l : Lens} {d : Decided} {p : Party}

theorem claimMessage_held (h : d.heldBy p = true) :
    claimMessage t i l d p = t.sendBorder (l.link.getD 0) i .grant := by
  simp only [claimMessage, if_pos h]

/-- A claim by a side with no part in the record is decided (R53). -/
theorem claimMessage_decided {r : ClaimResult} (hh : d.heldBy p = false) (hw : d.waiter ≠ some p)
    (hr : t.claimDecision i l d = r) : claimMessage t i l d p =
      match r.answer with
      | none => t.setDecided i (applyClaim d p r)
      | some m => (t.setDecided i (applyClaim d p r)).sendBorder (l.link.getD 0) i m := by
  subst hr
  exact (if_neg (by simp [hh])).trans (if_neg hw)

/-- A record that nobody holds is decided by its state alone (R53). -/
theorem State.claimDecision_unheld (a b : Bool) (h : d.holder = none) :
    t.claimDecision i l d = decideClaim d a b := by
  simp [State.claimDecision, decideClaim, h]

/-- A claim behind a local robot is decided by the kind of its holding and by its move (R53). -/
theorem State.claimDecision_local {q : Party} {kind : HoldKind} {j : Nat} {y : Robot}
    (h : d.holder = some (q, kind)) (hq : l.side q = .site j) (hy : t.robots[j]? = some y) :
    t.claimDecision i l d =
      if kind = .occupied ∧ ∃ m, y.move = some m ∧ m.targetLens ≠ some i then .queue else .deny .taken := by
  have hlink : (LensSide.site j).link = none := rfl
  cases kind <;> cases hm : y.move <;>
    simp [State.claimDecision, decideClaim, h, hlink, hq, State.holderLeaving, hy, hm]

end

/-- The state of a record that nobody holds. -/
theorem Decided.holder_of_state {d : Decided} (h : d.state = .free ∨ d.state = .pinned) : d.holder = none := by
  rcases d with ⟨_ | ⟨q, _ | _⟩, pa, pb, w, t⟩
  · rfl
  all_goals simp [Decided.state] at h

end Sys2Proof.Machine

open Sys2Proof Sys2Proof.Machine

/-- Settles O38: the frame is taken, and the claim is decided by the record; no robot's move ends in the event. -/
theorem claimMessagesAreDecided : Obligations.ClaimMessagesAreDecided := by
  intro s h k name i l d p ho hrole hname hb hp hwf hroom hquiet u
  have hexec : exec (.claim h name) s = .next (s.close (claimMessage u i l d p)) :=
    congrArg _ (State.arbiterMessage_inOrder ho hrole hname hb hp claimMessage)
  have hclose : ∀ v : State, v.robots = s.robots → v.outcomes = s.outcomes → s.close v = v := fun v hr ho =>
    State.close_quiet' (fun x hx => hquiet x (hr ▸ hx)) ho
  have hsend : ∀ (v : State) m, v.links = u.links → v.sendBorder (l.link.getD 0) i m = v.withMessage h.link i m :=
    fun v m hv => State.sendBorder_answer ho hname hroom hv m
  have hsame : u.setDecided i d = u := State.modLens_same (show u.lenses[i]? = some l from hname.2) hb
  have hunheld : d.holder = none → d.heldBy p = false ∧ d.waiter ≠ some p := fun hn =>
    ⟨Decided.Ebbs.heldBy_false hn p, by rw [Decided.waiter_none hwf hn]; nofun⟩
  refine ⟨fun hfree => ?_, fun kind hheld => ?_, fun hpin _ => ?_, fun kind j y hother hw hside hy => ?_⟩
  · have hn := Decided.holder_of_state (.inl hfree)
    rw [hexec, claimMessage_decided (hunheld hn).1 (hunheld hn).2
      ((State.claimDecision_unheld false false hn).trans (decideClaim_free hfree))]
    simp only [ClaimResult.answer]
    rw [hsend (u.setDecided i _) _ rfl]
    exact congrArg _ (hclose _ rfl rfl)
  · rw [hexec, claimMessage_held (Decided.heldBy_iff.mpr ⟨kind, hheld⟩), hsend _ _ rfl]
    exact congrArg _ (hclose _ rfl rfl)
  · have hn := Decided.holder_of_state (.inr hpin)
    rw [hexec, claimMessage_decided (hunheld hn).1 (hunheld hn).2
      ((State.claimDecision_unheld false false hn).trans (decideClaim_pinned hpin))]
    simp only [ClaimResult.answer, applyClaim]
    rw [hsame, hsend _ _ rfl]
    exact congrArg _ (hclose _ rfl rfl)
  · have hother' : d.heldBy p = false := by
      rw [Decided.heldBy_of_holder hother]
      cases p <;> rfl
    have hdecided := State.claimDecision_local (t := u) (i := i) hother hside (show u.robots[j]? = some y from hy)
    refine ⟨fun hstay => ?_, fun hkind hleaves => ?_⟩
    · rw [if_neg (by rintro ⟨rfl, m, hm, hne⟩; exact hstay.elim nofun fun h => hne (h m hm))] at hdecided
      rw [hexec, claimMessage_decided hother' (by simp [hw]) hdecided]
      simp only [ClaimResult.answer, applyClaim]
      rw [hsame, hsend _ _ rfl]
      exact congrArg _ (hclose _ rfl rfl)
    · rw [if_pos ⟨hkind, hleaves⟩] at hdecided
      rw [hexec, claimMessage_decided hother' (by simp [hw]) hdecided]
      simp only [ClaimResult.answer, applyClaim, Decided.queueFor,
        if_pos (Decided.heldBy_iff.mpr ⟨kind, hother⟩)]
      exact congrArg _ (hclose _ rfl rfl)
end


section
/-! Refutation of O39. The state holds an ARBITER and a CLIENT record on one link, which no derived map does (R3,
R4), and the statement leaves it in. -/

namespace Sys2Proof.Machine.MixedLink

/-- A QUEUED robot of site 0. -/
def robot : Robot := { FullLink.robot with state := .queued, move := some (Move.fresh .field none [] none false) }

/-- The record that site 0 holds RESERVED. -/
def mine : Decided := { Decided.empty with holder := some (.a, .reserved) }

/-- Link 0 is UP to sector 9, of which this part, sector 7, is the arbiter side. Site 0 holds lens 0 of the link,
and its claim on lens 1 of the link, a CLIENT record, waits for its answer. -/
def state : State :=
  { State.reset with
    map := some ⟨7, [9, 0, 0, 0, 0, 0], []⟩
    robots := [robot]
    lenses := [⟨.site 0, .remote 0 0, .decided mine⟩, FullLink.claiming 0]
    links := [{ Link.reset with state := .up }] }

/-- The HOLD takes the link down, the claim of lens 1 is denied, and the move of site 0 ends and releases lens 0. -/
theorem hold_answer : ∃ t, exec (.hold ⟨0, 9, 0⟩ ⟨0, 0, 0⟩) state = .next t ∧
    (t.lenses[0]?).map (·.body) = some (.decided .empty) := ⟨_, rfl, rfl⟩

end Sys2Proof.Machine.MixedLink

open Sys2Proof Sys2Proof.Machine Sys2Proof.Machine.MixedLink

/-- Refutes O39: a HOLD that meets the holding of site 0 takes the link down. The claim of site 0 on a CLIENT lens
of the same link is denied with it (R145), its move ends DENIED, and its holding is released (R61), which the
statement wants left as it is. -/
theorem not_borderMessagesChangeTheRecord : ¬ Obligations.BorderMessagesChangeTheRecord := by
  intro h
  obtain ⟨t, hexec, hlens⟩ := hold_answer
  obtain ⟨-, hlocal⟩ := h
  obtain ⟨-, hhold⟩ := hlocal state ⟨0, 9, 0⟩ _ ⟨0, 0, 0⟩ 0 0 _ mine .b robot ⟨rfl, rfl, rfl, rfl⟩ rfl ⟨rfl, rfl⟩ rfl
    rfl rfl rfl rfl (by intro r hr; cases List.mem_singleton.mp hr; rfl)
  obtain ⟨t', d', hexec', -, -, -, hlens', hholder, -⟩ := hhold rfl
  cases hexec.symm.trans hexec'
  rw [hlens'] at hlens
  cases hlens
  cases hholder
end

section
/-! Refutation of O54, by the full link of `FullLink`. -/

namespace Sys2Proof.Machine.FullLink

/-- A HOME in its FOLD, with tag 0. -/
def fold : Move :=
  { Move.fresh .home none [⟨.fold, none, none⟩, ⟨.seek, none, none⟩] none false with tag := some 0 }

/-- An enabled robot in its FOLD, polled. It has a part in each of three lenses. -/
def folding : State :=
  { polled with robots := [{ robot with state := .inLeg, move := some fold, enabled := true }] }

/-- The answer to the report that the FOLD is done: the claim of lens 0 has been denied, and the robot is LOST. -/
theorem folding_answer : ∃ t r cause, exec (.robotReplyGood 0 (.status arrived)) folding = .next t ∧
    t.robots[0]? = some r ∧ r.state = .lost cause := ⟨_, _, _, rfl, rfl, rfl⟩

end Sys2Proof.Machine.FullLink

open Sys2Proof Sys2Proof.Machine Sys2Proof.Machine.FullLink

/-- Refutes O54: a FOLD that is complete gives up the parts of the robot's three lenses, two of which send on link 0
although they are none of its border lenses. The link goes down, the claim of lens 0 is denied, and the HOME ends
DENIED where the statement wants its SEEK QUEUED. -/
theorem not_homeLegsAndHaltsComeToTheirEnds : ¬ Obligations.HomeLegsAndHaltsComeToTheirEnds := by
  intro h
  obtain ⟨t, r, cause, hexec, hr, hlost⟩ := folding_answer
  obtain ⟨t', r', hexec', -, hr', -, -, -, hhome, -⟩ := h folding 0 _ _ _ fold _ arrived rfl rfl rfl rfl rfl rfl
    (by intro r hr; cases List.mem_singleton.mp hr; rfl)
  cases hexec.symm.trans hexec'
  cases hr.symm.trans hr'
  obtain ⟨hfold, -⟩ := hhome rfl rfl rfl rfl rfl
  obtain ⟨-, hqueued, -⟩ := hfold rfl (by decide) rfl rfl rfl (.inr (roomy rfl rfl))
  cases hlost.symm.trans hqueued
end


section
/-! The records of moves that a denial ends, as their event closes (R93, R96, R97). -/

namespace Sys2Proof.Machine

/-! ### The record of an end -/

theorem State.recordEnd_outcomes {s : State} {site : Nat} {r : Robot} (kind : MoveKind) (limited : Bool)
    (o : MoveOutcome) (reason : Option DenyReason) (hr : s.robots[site]? = some r) :
    (s.recordEnd site kind limited o reason).outcomes =
      s.outcomes ++ [⟨site, kind, o, r.believed, r.epoch, limited, reason⟩] := by
  have hfield : ∀ (t : State) (o : MoveOutcome), (t.countFieldEnd o).outcomes = t.outcomes := fun t o => by
    unfold State.countFieldEnd State.endField
    split <;> rfl
  unfold State.recordEnd
  simp only [hr]
  split
  · exact hfield _ _
  · rfl

/-- What makes no record leaves the queue of records (R96). -/
theorem State.Eases.outcomes {X : Prop} {s t : State} (h : s.Eases X (fun _ => False) t) : t.outcomes = s.outcomes :=
  congrArg Prod.fst h.books

/-- A move that ends with an outcome makes one record, of its robot's epoch (R96). -/
theorem State.finishMove_outcomes {s : State} {site : Nat} {r : Robot} {m : Move} (st : RobotState) (o : MoveOutcome)
    (reason : Option DenyReason) (hr : s.robots[site]? = some r) (hm : r.move = some m) : ∃ final,
    (s.finishMove site st (some (o, reason))).outcomes =
      s.outcomes ++ [⟨site, m.kind, o, final, r.epoch, m.limited, reason⟩] := by
  have hwalk : s.Ebbs (fun _ => False) (fun _ => True) ((s.moveEndLenses site).leaveQueues site) :=
    (Ebbs.forLenses (fun t i => Ebbs.moveEndLens t (.inr trivial)) s).trans (Ebbs.leaveQueues _ site)
  have hquiet : s.Eases True (fun _ => False) ((s.moveEndLenses site).leaveQueues site) :=
    (Eases.forLenses (fun t i => Eases.moveEndLens t site i) s).trans (Eases.leaveQueues _ site)
  obtain ⟨r1, hr1, ht⟩ := hwalk.told hr id
  have hmod : (((s.moveEndLenses site).leaveQueues site).modRobot site
      fun r => { r with state := st, move := none, pollTime := none }).robots[site]? =
        some { r1 with state := st, move := none, pollTime := none } := by
    simp [hr1]
  refine ⟨r1.believed, ?_⟩
  unfold State.finishMove
  simp only [hr, Option.bind_some, hm]
  rw [recordEnd_outcomes m.kind m.limited o reason hmod, State.modRobot_outcomes, hquiet.outcomes]
  rw [show r1.epoch = r.epoch by rw [ht.rest]]
  rfl

/-- A move that ends at rest makes one record, of its robot's epoch (R93, R96). -/
theorem State.endAtRest_outcomes {s : State} {site : Nat} {r : Robot} {m : Move} (o : MoveOutcome)
    (reason : Option DenyReason) (hr : s.robots[site]? = some r) (hm : r.move = some m) : ∃ final,
    (s.endAtRest site (some (o, reason))).outcomes =
      s.outcomes ++ [⟨site, m.kind, o, final, r.epoch, m.limited, reason⟩] := by
  unfold State.endAtRest
  simp only [hr, hm]
  split
  · have hforget : (s.modRobot site fun r => { r.forget with anchor := none }).robots[site]? =
        some { r.forget with anchor := none } := by simp [hr]
    obtain ⟨r1, hr1, ht⟩ := (Ebbs.forLenses (E := fun _ => False) (X := fun _ => True)
      (fun t i => Ebbs.lossLens (site := site) t (.inr trivial)) _).told hforget id
    have hquiet : (s.modRobot site fun r => { r.forget with anchor := none }).Eases True (fun _ => False)
        ((s.modRobot site fun r => { r.forget with anchor := none }).lossConvert site) :=
      Eases.forLenses (fun t i => Eases.lossLens t site i) _
    obtain ⟨m1, hm1, hmm⟩ := ht.someMove (show ({ r.forget with anchor := none } : Robot).move = some m from hm)
    obtain ⟨final, hrec⟩ := finishMove_outcomes (.lost r.homeLostCause) o reason hr1 hm1
    refine ⟨final, ?_⟩
    unfold State.loseWith
    simp only [hr, Option.bind_some, hm]
    have hepoch : r1.epoch = r.epoch := by rw [ht.rest]; rfl
    rw [show m1.kind = m.kind by rw [hmm], show m1.limited = m.limited by rw [hmm], hepoch] at hrec
    exact hrec.trans (congrArg (· ++ _) hquiet.outcomes)
  · exact finishMove_outcomes .idle o reason hr hm

/-! ### The records of an event -/

/-- The denials of an event add records behind those that stand. -/
theorem State.settleDenials_outcomes (n : Nat) (s : State) :
    ∃ records, (s.settleDenials n).outcomes = s.outcomes ++ records := by
  induction n generalizing s with
  | zero => exact ⟨[], (List.append_nil _).symm⟩
  | succ n ih =>
    unfold State.settleDenials
    split
    · exact ⟨[], (List.append_nil _).symm⟩
    · next site hf =>
      obtain ⟨reason, hd⟩ := Option.isSome_iff_exists.mp (firstDenied_some hf)
      obtain ⟨r, hr, hdr⟩ := Option.bind_eq_some_iff.mp hd
      obtain ⟨m, hm⟩ := Option.isSome_iff_exists.mp (Robot.deniedAtRest_move hdr)
      obtain ⟨final, hrec⟩ := State.endAtRest_outcomes .denied (some reason) hr hm
      obtain ⟨records, hrest⟩ := ih (s.endDenied site)
      rw [hrest]
      unfold State.endDenied
      simp only [hd, hrec, List.append_assoc]
      exact ⟨_, rfl⟩

/-- Each record of an event joins the queue, unless the queue has become full (R97). -/
theorem closeEvent_mem {s t : State} {records : List OutcomeRecord} {o : OutcomeRecord}
    (ht : t.outcomes = s.outcomes ++ records) (ho : o ∈ records) (hroom : (s.closeEvent t).outcomes.length < 128) :
    o ∈ (s.closeEvent t).outcomes.drop s.outcomes.length := by
  have houtcomes : (s.closeEvent t).outcomes = s.outcomes ++
      (eventOrder s.departed s.links.length records).take (Config.outcomeDepth - s.outcomes.length) := by
    unfold State.closeEvent State.latchOutcomeOverflow
    simp only [ht, List.drop_left, List.take_left]
    split <;> rfl
  have hall : (eventOrder s.departed s.links.length records).length ≤ Config.outcomeDepth - s.outcomes.length := by
    rw [houtcomes, List.length_append, List.length_take] at hroom
    simp only [Config.outcomeDepth] at hroom ⊢
    omega
  rw [houtcomes, List.drop_left, List.take_of_length_le hall]
  exact (eventOrder_perm _ _ _).mem_iff.mpr ho

/-! ### The one move that an event's denial ends -/

/-- Where one robot alone is denied at rest, its move ends DENIED as the event closes, with its record (R93, R96,
R97). -/
theorem State.close_endsDenied {s t : State} {j : Nat} {r : Robot} {m : Move} {reason : DenyReason}
    (hr : t.robots[j]? = some r) (hm : r.move = some m) (hd : r.deniedAtRest = some reason)
    (honly : ∀ i y, t.robots[i]? = some y → y.deniedAtRest ≠ none → i = j) (ho : t.outcomes = s.outcomes) :
    ∃ r', (s.close t).robots[j]? = some r' ∧ r.EndedAtRest r' .denied ∧
      ((s.close t).outcomes.length < 128 → ∃ final, ⟨j, m.kind, .denied, final, r.epoch, m.limited, some reason⟩ ∈
        (s.close t).outcomes.drop s.outcomes.length) := by
  have hfirst : t.firstDenied = some j := by
    cases hf : t.firstDenied with
    | none =>
      have := (State.noDenialWaits_iff t).mpr hf r (List.mem_of_getElem? hr)
      rw [hd] at this
      cases this
    | some i =>
      obtain ⟨why, hwhy⟩ := Option.isSome_iff_exists.mp (firstDenied_some hf)
      obtain ⟨y, hy, hdy⟩ := Option.bind_eq_some_iff.mp hwhy
      rw [honly i y hy (by simp [hdy])]
  have hend : t.endDenied j = t.endAtRest j (some (.denied, some reason)) := by
    simp [State.endDenied, hr, hd]
  obtain ⟨n, hn⟩ : ∃ n, t.robots.length = n + 1 :=
    Nat.exists_eq_succ_of_ne_zero (by have := (List.getElem?_eq_some_iff.mp hr).1; omega)
  have hsettle : t.settle = (t.endAtRest j (some (.denied, some reason))).settleDenials n := by
    unfold State.settle
    rw [hn, State.settleDenials, hfirst]
    simp only [hend]
  obtain ⟨r1, hr1, hended, -, hrest⟩ := State.endAtRest_ended .denied (some reason) hr hm
  obtain ⟨final, hrec⟩ := State.endAtRest_outcomes .denied (some reason) hr hm
  obtain ⟨records, hmore⟩ := State.settleDenials_outcomes n (t.endAtRest j (some (.denied, some reason)))
  obtain ⟨E, he, hE⟩ := State.settleDenials_ebbs n (t.endAtRest j (some (.denied, some reason)))
  have hnot : ¬ E j := fun hj => by
    obtain ⟨⟨y, hy, hyr⟩, -⟩ := hE j hj
    cases hr1.symm.trans hy
    obtain ⟨hq, hw⟩ : r1.state ≠ .queued ∧ r1.state ≠ .waitLens := by
      refine ⟨?_, ?_⟩ <;> intro h <;> simp [h, RobotState.moves] at hrest
    simp [Robot.atRest, hq, hw] at hyr
  obtain ⟨r2, hr2, ht2⟩ := he.told hr1 hnot
  cases Robot.Told.resting ht2 hrest
  have houtcomes : t.settle.outcomes =
      s.outcomes ++ (⟨j, m.kind, .denied, final, r.epoch, m.limited, some reason⟩ :: records) := by
    rw [hsettle, hmore, hrec, ho, List.append_assoc]
    rfl
  refine ⟨r1, ?_, hended, fun hroom => ⟨final, closeEvent_mem houtcomes List.mem_cons_self hroom⟩⟩
  obtain ⟨_, _, _, hclose, -⟩ := s.closeEvent_rest t.settle
  rw [State.close, hclose]
  exact (congrArg (fun u : State => u.robots[j]?) hsettle).trans hr2

end Sys2Proof.Machine
end


section
/-! A CLIENT record in NONE as moves end: no end of a move and no departure touches it (R61, R62, R145). -/

namespace Sys2Proof.Machine

/-- The CLIENT records in NONE stay as they are. -/
def State.KeepsUnclaimed (s t : State) : Prop :=
  ∀ (i : Nat) (l : Lens) (c : Client), s.lenses[i]? = some l → l.body = .client c → c.claim = .none → t.lenses[i]? = some l

namespace State.KeepsUnclaimed

theorem refl (s : State) : s.KeepsUnclaimed s := fun _ _ _ hl _ _ => hl

theorem trans {s t u : State} (h1 : s.KeepsUnclaimed t) (h2 : t.KeepsUnclaimed u) : s.KeepsUnclaimed u :=
  fun i l c hl hb hc => h2 i l c (h1 i l c hl hb hc) hb hc

theorem quiet {s t : State} (h : t.lenses = s.lenses) : s.KeepsUnclaimed t := fun _ _ _ hl _ _ => by rw [h, hl]

/-- A record of another kind, or in another claim state, is changed. -/
theorem modLens {s : State} {i : Nat} {l : Lens} {f : LensBody → LensBody} (hl : s.lenses[i]? = some l)
    (h : ∀ c, l.body = .client c → c.claim ≠ .none) : s.KeepsUnclaimed (s.modLens i f) := fun j l' c hl' hb hc => by
  have hij : i ≠ j := fun hij => by
    subst hij
    cases hl.symm.trans hl'
    exact h c hb hc
  rw [State.modLens_lenses, List.getElem?_modify, hl']
  simp [hij]

theorem setDecided {s : State} {i : Nat} {l : Lens} {d : Decided} (hl : s.lenses[i]? = some l)
    (hb : l.body = .decided d) (d' : Decided) : s.KeepsUnclaimed (s.setDecided i d') :=
  modLens hl fun _ hc => nomatch hb.symm.trans hc

theorem setClient {s : State} {i : Nat} {l : Lens} {c : Client} (hl : s.lenses[i]? = some l)
    (hb : l.body = .client c) (hc : c.claim ≠ .none) (c' : Client) : s.KeepsUnclaimed (s.setClient i c') :=
  modLens hl fun e he => by
    cases hb.symm.trans he
    exact hc

theorem foldl {α : Type} {f : State → α → State} (h : ∀ (s : State) x, s.KeepsUnclaimed (f s x)) (l : List α) (s : State) :
    s.KeepsUnclaimed (l.foldl f s) := by
  induction l generalizing s with
  | nil => exact refl s
  | cons x l ih => exact (h s x).trans (ih (f s x))

theorem forLenses {f : Nat → State → State} (h : ∀ (s : State) i, s.KeepsUnclaimed (f i s)) (s : State) :
    s.KeepsUnclaimed (s.forLenses f) := foldl (fun s i => h s i) _ s

theorem modRobot (s : State) (i : Nat) (f : Robot → Robot) : s.KeepsUnclaimed (s.modRobot i f) := quiet rfl

theorem leaveQueues (s : State) (site : Nat) : s.KeepsUnclaimed (s.leaveQueues site) := by
  unfold State.leaveQueues
  split <;> exact quiet rfl

theorem denyRobot (s : State) (site : Nat) (reason : DenyReason) : s.KeepsUnclaimed (s.denyRobot site reason) := by
  unfold State.denyRobot
  split
  · exact refl s
  · split <;> exact quiet rfl

theorem joinQueue (s : State) (site : Nat) : s.KeepsUnclaimed (s.joinQueue site) := by
  unfold State.joinQueue
  split
  · exact refl s
  · split
    · exact refl s
    · split <;> exact quiet rfl

theorem grantRobot (s : State) (site : Nat) : s.KeepsUnclaimed (s.grantRobot site) := by
  unfold State.grantRobot
  split
  · exact refl s
  · split
    · exact (modRobot s site _).trans (joinQueue _ site)
    · exact refl s

/-! ### Links that go down -/

theorem departLens (s : State) (n i : Nat) : s.KeepsUnclaimed (s.departLens n i) := by
  unfold State.departLens
  split
  · exact refl s
  · next l hl =>
    split
    · split
      · next d hb =>
        split
        · exact setDecided hl hb _
        · exact refl s
      · next c hb =>
        split
        · next hc => exact trans (setClient hl hb (by simp [hc]) _) (denyRobot _ _ _)
        · exact refl s
    · exact refl s

theorem takeDown (s : State) (n : Nat) : s.KeepsUnclaimed (s.takeDown n) := by
  have hprobing : ∀ t : State, t.KeepsUnclaimed (t.enterProbing n) := fun t => quiet (by rw [State.enterProbing_eq])
  unfold State.takeDown
  split
  · exact refl s
  · split
    · exact (trans (t := s.modLink n Link.departed) (quiet rfl)
        (forLenses (fun t i => departLens t n i) _)).trans (hprobing _)
    · exact hprobing s

theorem sendBorder (s : State) (n i : Nat) (m : BorderMessage) : s.KeepsUnclaimed (s.sendBorder n i m) := by
  unfold State.sendBorder State.sendNumbered
  split
  · exact refl s
  · split
    · split
      · exact refl s
      · split
        · exact quiet rfl
        · exact takeDown s n
    · exact refl s

theorem tellGrant (s : State) (i : Nat) (x : LensSide) : s.KeepsUnclaimed (s.tellGrant i x) := by
  cases x with
  | site j => exact grantRobot s j
  | remote n _ => exact sendBorder s n i _

theorem tellDeny (s : State) (i : Nat) (r : RefuseReason) (x : LensSide) : s.KeepsUnclaimed (s.tellDeny i r x) := by
  cases x with
  | site j => exact denyRobot s j _
  | remote n _ => exact sendBorder s n i _

/-! ### One lens -/

section
variable {s : State} {i : Nat} {l : Lens} {d : Decided} {c : Client}

theorem releaseDecided (hl : s.lenses[i]? = some l) (hb : l.body = .decided d) :
    s.KeepsUnclaimed (s.releaseDecided i l d) := by
  unfold State.releaseDecided
  simp only
  split
  · exact (setDecided hl hb _).trans (tellGrant _ _ _)
  · exact setDecided hl hb _

theorem denyWaiter (r : RefuseReason) (hl : s.lenses[i]? = some l) (hb : l.body = .decided d) :
    s.KeepsUnclaimed (s.denyWaiter i l d r) := by
  unfold State.denyWaiter
  split
  · exact refl s
  · exact (setDecided hl hb _).trans (tellDeny _ _ _ _)

theorem holdingToPin (p : Party) (hl : s.lenses[i]? = some l) (hb : l.body = .decided d) :
    s.KeepsUnclaimed (s.holdingToPin i l d p) := by
  unfold State.holdingToPin
  simp only
  split
  · exact setDecided hl hb _
  · exact (setDecided hl hb _).trans (tellDeny _ _ _ _)

theorem clientTo (st : ClaimState) (m : BorderMessage) (hl : s.lenses[i]? = some l) (hb : l.body = .client c)
    (hc : c.claim ≠ .none) : s.KeepsUnclaimed (s.clientTo i l c st m) :=
  (setClient hl hb hc _).trans (sendBorder _ _ i m)

end

theorem moveEndLens (s : State) (site i : Nat) : s.KeepsUnclaimed (s.moveEndLens site i) := by
  unfold State.moveEndLens
  split
  · exact refl s
  · next l hl =>
    split
    · exact refl s
    · split
      · next d hb =>
        split
        · exact releaseDecided hl hb
        · split
          · exact denyWaiter _ hl hb
          · split
            · exact setDecided hl hb _
            · exact refl s
      · next c hb =>
        split
        · next hc => exact clientTo _ _ hl hb (by simp [hc])
        · next hc => exact clientTo _ _ hl hb (by simp [hc])
        all_goals exact refl s

theorem lossLens (s : State) (site i : Nat) : s.KeepsUnclaimed (s.lossLens site i) := by
  unfold State.lossLens
  split
  · exact refl s
  · next l hl =>
    split
    · exact refl s
    · split
      · next d hb =>
        split
        · exact holdingToPin _ hl hb
        · split
          · exact releaseDecided hl hb
          · exact refl s
      · next c hb =>
        split
        · next hc => exact clientTo _ _ hl hb (by simp [hc])
        · next hc => exact clientTo _ _ hl hb (by simp [hc])
        all_goals exact refl s

/-! ### The ends of moves -/

theorem recordEnd (s : State) (site : Nat) (kind : MoveKind) (limited : Bool) (o : MoveOutcome)
    (reason : Option DenyReason) : s.KeepsUnclaimed (s.recordEnd site kind limited o reason) := by
  have hfield : ∀ (t : State) (o : MoveOutcome), (t.countFieldEnd o).lenses = t.lenses := fun t o => by
    unfold State.countFieldEnd State.endField
    split <;> rfl
  unfold State.recordEnd
  split
  · exact refl s
  · simp only
    split
    · exact quiet (hfield _ _)
    · exact quiet rfl

theorem finishMove (s : State) (site : Nat) (st : RobotState) (out : Option (MoveOutcome × Option DenyReason)) :
    s.KeepsUnclaimed (s.finishMove site st out) := by
  unfold State.finishMove
  split
  · exact refl s
  · have ht := (forLenses (fun t i => moveEndLens t site i) s).trans (leaveQueues _ site)
    simp only
    split
    · exact ht
    · exact trans (t := State.modRobot _ _ _) ht (recordEnd _ _ _ _ _ _)

theorem endAtRest (s : State) (site : Nat) (out : Option (MoveOutcome × Option DenyReason)) :
    s.KeepsUnclaimed (s.endAtRest site out) := by
  unfold State.endAtRest
  split
  · exact refl s
  · split
    · exact refl s
    · split
      · have ht : s.KeepsUnclaimed ((s.modRobot site fun r => { r.forget with anchor := none }).lossConvert site) :=
          (modRobot s site _).trans (forLenses (fun t i => lossLens t site i) _)
        unfold State.loseWith
        simp only
        split
        · exact ht
        · exact ht.trans (finishMove _ _ _ _)
      · exact finishMove s _ _ _

theorem settle (s : State) : s.KeepsUnclaimed s.settle := by
  have hends : ∀ (n : Nat) (s : State), s.KeepsUnclaimed (s.settleDenials n) := by
    intro n
    induction n with
    | zero => exact fun s => refl s
    | succ n ih =>
      intro s
      unfold State.settleDenials
      split
      · exact refl s
      · refine trans ?_ (ih _)
        unfold State.endDenied
        split
        · exact refl s
        · exact endAtRest s _ _
  exact hends _ s

theorem close (s t : State) : t.KeepsUnclaimed (s.close t) := by
  obtain ⟨_, _, _, hclose, -⟩ := s.closeEvent_rest t.settle
  rw [State.close, hclose]
  exact settle t

end State.KeepsUnclaimed

end Sys2Proof.Machine
end


section
/-! GRANT and REFUSE taken by the client side (R57, R69, R81, R93, R144). -/

namespace Sys2Proof.Machine

/-! ### What a robot is told -/

section
variable {s : State} {j : Nat} {y : Robot} {m : Move}

/-- A robot in WAIT_LENS that is granted its lens is QUEUED (R81). -/
theorem State.grantRobot_waiting (hy : s.robots[j]? = some y) (hst : y.state = .waitLens) (hm : y.move = some m) :
    s.grantRobot j = s.queuedAgain j y.bus m := by
  have hq : (s.modRobot j fun x => { x with state := .queued }).robots[j]? = some { y with state := .queued } := by
    simp [hy]
  unfold State.grantRobot State.joinQueue State.queuedAgain
  simp only [hy, if_pos hst, hq, hm]
  split <;> rfl

/-- A robot in another state that is granted its lens holds it and nothing else changes (R81). -/
theorem State.grantRobot_same (hy : s.robots[j]? = some y) (hst : y.state ≠ .waitLens) : s.grantRobot j = s := by
  simp only [State.grantRobot, hy, if_neg hst]

/-- The denial of a claim is noted in the move of a robot that is QUEUED, waits, or is in a leg (R93). -/
theorem State.denyRobot_noted {reason : DenyReason} (hy : s.robots[j]? = some y) (hm : y.move = some m)
    (hst : y.state = .queued ∨ y.state = .waitLens ∨ y.state = .inLeg) : s.denyRobot j reason =
      s.modRobot j fun x => { x with move := some { m with pendingDenial := some reason } } := by
  simp only [State.denyRobot, hy, if_pos hst, State.modMove]
  exact State.modRobot_congr hy (by simp [hm])

/-- A robot in any other state is not affected by a denial (R93). -/
theorem State.denyRobot_same {reason : DenyReason} (hy : s.robots[j]? = some y)
    (hst : ¬ (y.state = .queued ∨ y.state = .waitLens ∨ y.state = .inLeg)) : s.denyRobot j reason = s := by
  simp only [State.denyRobot, hy, if_neg hst]

/-- A robot that waits has no denial in its move where none waits to be settled. -/
theorem State.NoDenialWaits.pending (h : s.NoDenialWaits) (hy : s.robots[j]? = some y) (hst : y.state = .waitLens)
    (hm : y.move = some m) : m.pendingDenial = none := by
  have := h y (List.mem_of_getElem? hy)
  simpa [Robot.deniedAtRest, hst, hm] using this

/-- A robot that is QUEUED again has no denial. -/
theorem State.NoDenialWaits.queuedAgain (h : s.NoDenialWaits) (hy : s.robots[j]? = some y)
    (hst : y.state = .waitLens) (hm : y.move = some m) : (s.queuedAgain j y.bus m).NoDenialWaits := by
  have hrobots : (s.modRobot j fun x => { x with state := .queued }).NoDenialWaits :=
    h.modRobot fun x hx => by
      cases hy.symm.trans hx
      simp [Robot.deniedAtRest, hm, h.pending hy hst hm]
  exact hrobots

/-- A robot at rest that is told a denial ends its move with it as the event closes (R93, R96, R97). -/
theorem State.close_denied {s t : State} {j : Nat} {y : Robot} {m : Move} (reason : DenyReason)
    (hquiet : t.NoDenialWaits) (hy : t.robots[j]? = some y) (hm : y.move = some m) (hst : y.atRest = true)
    (ho : t.outcomes = s.outcomes) : ∃ y', (s.close (t.denyRobot j reason)).robots[j]? = some y' ∧
      y.EndedAtRest y' .denied ∧ ((s.close (t.denyRobot j reason)).outcomes.length < 128 → ∃ final,
        ⟨j, m.kind, .denied, final, y.epoch, m.limited, some reason⟩ ∈
          (s.close (t.denyRobot j reason)).outcomes.drop s.outcomes.length) := by
  have hrest : y.state = .queued ∨ y.state = .waitLens := by simpa [Robot.atRest] using hst
  rw [State.denyRobot_noted hy hm (hrest.imp_right .inl)]
  have hy1 : (t.modRobot j fun x => { x with move := some { m with pendingDenial := some reason } }).robots[j]? =
      some { y with move := some { m with pendingDenial := some reason } } := by simp [hy]
  have honly : ∀ (k : Nat) (x : Robot), (t.modRobot j fun x =>
      { x with move := some { m with pendingDenial := some reason } }).robots[k]? = some x →
        x.deniedAtRest ≠ none → k = j := fun k x hx hd => by
    by_contra hk
    have hx' : t.robots[k]? = some x := by simpa [Ne.symm hk] using hx
    exact hd (hquiet x (List.mem_of_getElem? hx'))
  obtain ⟨y', hy', hended, hrec⟩ := State.close_endsDenied (s := s) (reason := reason) hy1 rfl
    (by simp [Robot.deniedAtRest, hrest]) honly ho
  exact ⟨y', hy', hended.congr (by simp [hm, Move.undenied]), hrec⟩

end

end Sys2Proof.Machine

open Sys2Proof Sys2Proof.Machine

/-- Settles O40: the frame is taken and the record changed by its claim state; the robot is told, and a move that a
refusal ends comes to its end as the event closes (`State.close_denied`). -/
theorem grantsAndRefusalsReachTheClient : Obligations.GrantsAndRefusalsReachTheClient := by
  intro s h k name i j l c y reason ho hrole hname hb hside hy hquiet u held refused
  have hgrant : exec (.grant h name) s = .next (s.close (grantMessage u i l c)) :=
    congrArg _ (State.clientMessage_inOrder ho hrole hname hb grantMessage)
  have hrefuse : exec (.refuse h name reason) s = .next (s.close (refuseMessage reason u i l c)) :=
    congrArg _ (State.clientMessage_inOrder ho hrole hname hb (refuseMessage reason))
  have hclose : ∀ v : State, v.NoDenialWaits → v.outcomes = s.outcomes → s.close v = v := fun v hv hq =>
    State.close_quiet' hv hq
  have hyh : held.robots[j]? = some y := hy
  have hyr : refused.robots[j]? = some y := hy
  have hheld : c.claim = .claiming → grantMessage u i l c = held.grantRobot j := fun hc => by
    simp only [grantMessage, hc, hside]
    rfl
  have hrefused : c.claim = .claiming → refuseMessage reason u i l c = refused.denyRobot j .refused := fun hc => by
    simp only [refuseMessage, if_pos hc, hside]
    rfl
  refine ⟨fun hc hst => ?_, fun m hc hst hm => ?_, fun hc hroom => ?_, fun h1 h2 => ?_, fun hc => ?_,
    fun m hc hst hm => ?_, fun hc hst => ?_, fun m hc hst hm => ?_⟩
  · rw [hgrant, hheld hc, State.grantRobot_same hyh hst, hclose held hquiet rfl]
  · have hq : held.NoDenialWaits := hquiet
    rw [hgrant, hheld hc, State.grantRobot_waiting hyh hst hm, hclose _ (hq.queuedAgain hyh hst hm) rfl]
  · have hsent : grantMessage u i l c = u.withMessage h.link i .release := by
      simp only [grantMessage, hc]
      exact State.sendBorder_answer ho hname hroom rfl .release
    rw [hgrant, hsent, hclose (u.withMessage h.link i .release) hquiet rfl]
  · have hsame : grantMessage u i l c = u := by
      unfold grantMessage
      split
      · contradiction
      · contradiction
      all_goals rfl
    rw [hgrant, hsame, hclose u hquiet rfl]
  · rw [hrefuse, refuseMessage, if_neg hc, hclose u hquiet rfl]
  · have hq : refused.NoDenialWaits := hquiet
    rw [hrefuse, hrefused hc, State.denyRobot_noted hyr hm (.inr (.inr hst)), hclose _ (hq.modRobot fun x hx => ?_) rfl]
    cases hyr.symm.trans hx
    simp [Robot.deniedAtRest, hst]
  · rw [hrefuse, hrefused hc, State.denyRobot_same hyr (by simpa using hst), hclose refused hquiet rfl]
  · obtain ⟨y', hy', hended, hrec⟩ := State.close_denied (s := s) (t := refused) .refused hquiet hyr hm hst rfl
    have hacts : Acts s (s.close (refused.denyRobot j .refused)) := by
      rw [← hrefused hc, ← State.clientMessage_inOrder ho hrole hname hb (refuseMessage reason)]
      exact .clientMessage s h name (.refuseMessage reason)
    have hexec : exec (.refuse h name reason) s = .next (s.close (refused.denyRobot j .refused)) := by
      rw [hrefuse, hrefused hc]
    refine ⟨_, y', hexec, hacts.engine, hy', hended, ?_, hrec⟩
    have hl : refused.lenses[i]? = some { l with
        body := .client { claim := .none, deadline := none, lastRefusal := some reason } } := by
      have hu : u.lenses[i]? = some l := hname.2
      simp [refused, hu]
    exact ((State.KeepsUnclaimed.denyRobot refused j .refused).trans (.close s _)) i _ _ hl rfl rfl
end


section
/-! Admission of one move (R77): its claim (R53, R55, R79), and what its robot, its queue and its target lens come to
(R81). -/

namespace Sys2Proof.Machine

/-! ### The robot and its queue -/

/-- A robot with its new move, QUEUED or in WAIT_LENS. -/
def Robot.withMove (r : Robot) (st : RobotState) (m : Move) : Robot :=
  { r with state := st, pollTime := none, move := some m }

/-- A site at the tail of a bus's queue of a class. -/
def Bus.joined (b : Bus) (classA : Bool) (site : Nat) : Bus :=
  if classA then { b with queueA := b.queueA ++ [site] } else { b with queueB := b.queueB ++ [site] }

/-- A robot is QUEUED with its new move on its bus. -/
def State.enqueued (s : State) (site bus : Nat) (m : Move) : State :=
  (s.modRobot site fun r => r.withMove .queued m).modBus bus fun b => b.joined m.kind.classA site

/-- A robot in WAIT_LENS with its new move. -/
def State.awaiting (s : State) (site : Nat) (m : Move) : State := s.modRobot site fun r => r.withMove .waitLens m

section
variable {s : State} {site i : Nat} {r : Robot} {m : Move} {l : Lens}

/-- A first leg that need not wait is queued (R77, R81). -/
theorem State.startMove_queued (hr : s.robots[site]? = some r) (h : s.mustWait site m = none) :
    s.startMove site m = s.enqueued site r.bus m := by
  have hm : (s.modRobot site fun r => { r with move := some m }).robots[site]? = some { r with move := some m } := by
    simp [hr]
  have hready : ((s.modRobot site fun r => { r with move := some m }).modRobot site
      fun r => { r with state := .queued, pollTime := none }) = s.modRobot site fun r => r.withMove .queued m :=
    State.modRobot_modRobot ..
  have hq : (s.modRobot site fun r => r.withMove .queued m).robots[site]? = some (r.withMove .queued m) := by
    simp [hr]
  have hwait : (s.modRobot site fun r => { r with move := some m }).mustWait site m = none := h
  unfold State.startMove State.readyLeg
  simp only [hm, Option.bind_some, hwait, hready]
  unfold State.joinQueue State.enqueued
  simp only [hq]
  cases hA : m.kind.classA <;> simp [Robot.withMove, Bus.joined, hA]

/-- A DEPLOY that comes first and whose lens is not RESERVED waits with a deadline (R56, R81). -/
theorem State.startMove_waits (hr : s.robots[site]? = some r) (h : s.mustWait site m = some i) :
    s.startMove site m = (s.awaiting site m).setWaitDeadline site i := by
  have hm : (s.modRobot site fun r => { r with move := some m }).robots[site]? = some { r with move := some m } := by
    simp [hr]
  have hwait : (s.modRobot site fun r => { r with move := some m }).mustWait site m = some i := h
  unfold State.startMove State.readyLeg
  simp only [hm, Option.bind_some, hwait]
  rw [State.modRobot_modRobot]
  rfl

/-! ### Whether the first leg must wait -/

variable {kind : MoveKind} {q : Pos} {legs : List Leg} {limited : Bool}

/-- The plan begins with its DEPLOY. -/
def deploysFirst (legs : List Leg) : Prop := (legs.head?).map (·.kind) = some .deploy

theorem Move.fresh_leg (lens : Option Nat) : (Move.fresh kind (some q) legs lens limited).leg = legs.head? :=
  List.head?_eq_getElem?.symm

theorem State.mustWait_noLens : s.mustWait site (Move.fresh kind (some q) legs none limited) = none := by
  unfold State.mustWait
  rw [Move.fresh_leg]
  cases legs.head? with
  | none => rfl
  | some leg => simp [Move.fresh]

theorem State.mustWait_later {lens : Option Nat} (h : ¬ deploysFirst legs) :
    s.mustWait site (Move.fresh kind (some q) legs lens limited) = none := by
  unfold State.mustWait
  rw [Move.fresh_leg]
  unfold deploysFirst at h
  cases hl : legs.head? with
  | none => rfl
  | some leg =>
    have hne : leg.kind ≠ .deploy := by simpa [hl] using h
    simp only [if_neg hne]

theorem State.mustWait_reserved (hl : s.lenses[i]? = some l) (h : l.reservedBy site = true) :
    s.mustWait site (Move.fresh kind (some q) legs (some i) limited) = none := by
  unfold State.mustWait
  rw [Move.fresh_leg]
  cases legs.head? with
  | none => rfl
  | some leg => simp [Move.fresh, State.lensHas, hl, h]

theorem State.mustWait_deploy (hl : s.lenses[i]? = some l) (h : l.reservedBy site = false) (hd : deploysFirst legs) :
    s.mustWait site (Move.fresh kind (some q) legs (some i) limited) = some i := by
  unfold State.mustWait
  rw [Move.fresh_leg]
  unfold deploysFirst at hd
  cases hh : legs.head? with
  | none => simp [hh] at hd
  | some leg =>
    have hk : leg.kind = .deploy := by simpa [hh] using hd
    simp [Move.fresh, State.lensHas, hl, h, hk]

end

/-! ### The claim of an admission (R53, R55, R79) -/

section
variable {s : State} {site i n : Nat} {l : Lens} {d : Decided} {c : Client} {k : Link} {me : Party}

/-- A lens that the robot does not hold OCCUPIED is claimed (R79). -/
theorem State.admissionClaim_claims (hl : s.lenses[i]? = some l) (h : l.occupiedBy site = false) :
    s.admissionClaim site (some i) = s.claimFor site i := by
  have hne : s.occupiedLens site ≠ some i := fun ho => by
    have := List.find?_some ho
    simp [State.lensHas, hl, h] at this
  simp only [State.admissionClaim, if_neg hne]

/-- A claim on a decided record (R53). -/
theorem State.admissionClaim_decided {r : ClaimResult} (hl : s.lenses[i]? = some l) (hb : l.body = .decided d)
    (hp : l.partyOf site = some me) (hno : d.holder ≠ some (me, .occupied)) (hr : s.claimDecision i l d = r) :
    s.admissionClaim site (some i) = (s.setDecided i (applyClaim d me r), r) := by
  rw [State.admissionClaim_claims hl (by simp [Lens.occupiedBy, hp, hb, hno])]
  simp only [State.claimFor, hl, hb, hp, hr]

theorem Lens.occupiedBy_client (hb : l.body = .client c) (hc : c.claim ≠ .heldOccupied) :
    l.occupiedBy site = false := by
  unfold Lens.occupiedBy
  split
  · rfl
  · simp [hb, hc]

/-- A claim on a CLIENT lens whose link is not UP is denied (R55). -/
theorem State.admissionClaim_linkDown (hl : s.lenses[i]? = some l) (hb : l.body = .client c)
    (hc : c.claim ≠ .heldOccupied) (hn : l.link = some n) (hk : s.links[n]? = some k) (hdown : k.state ≠ .up) :
    s.admissionClaim site (some i) = (s, .deny .linkDown) := by
  rw [State.admissionClaim_claims hl (Lens.occupiedBy_client hb hc)]
  simp only [State.claimFor, hl, hb, hn, Option.bind_some, hk, if_pos hdown]

/-- A claim on a CLIENT lens that is PINNED is denied (R55). -/
theorem State.admissionClaim_clientPinned (hl : s.lenses[i]? = some l) (hb : l.body = .client c)
    (hc : c.claim = .pinned) (hn : l.link = some n) (hk : s.links[n]? = some k) (hup : k.state = .up) :
    s.admissionClaim site (some i) = (s, .deny .pinned) := by
  rw [State.admissionClaim_claims hl (Lens.occupiedBy_client hb (by simp [hc]))]
  simp [State.claimFor, hl, hb, hn, hk, hup, hc]

/-- A claim on a CLIENT lens in NONE sends CLAIM (R55). -/
theorem State.admissionClaim_client (hl : s.lenses[i]? = some l) (hb : l.body = .client c)
    (hc : c.claim = .none) (hn : l.link = some n) (hk : s.links[n]? = some k) (hup : k.state = .up)
    (hroom : k.transmit.length < 64) : s.admissionClaim site (some i) =
      ((s.modLens i fun _ => .client { c with claim := .claiming, deadline := none }).withMessage n i .claim,
        .queue) := by
  have hroom' : k.transmit.length < Config.transmitDepth := hroom
  have hsent : s.clientTo i l c .claiming .claim =
      (s.modLens i fun _ => .client { c with claim := .claiming, deadline := none }).withMessage n i .claim := by
    rw [State.clientTo, hn]
    exact State.sendBorder_eq (s := s.setClient i _) i .claim hk hup hroom
  rw [State.admissionClaim_claims hl (Lens.occupiedBy_client hb (by simp [hc]))]
  simp [State.claimFor, hl, hb, hn, hk, hup, hc, hroom', hsent]

/-- Whether a side's robot holds a record RESERVED. -/
theorem Lens.reservedBy_decided (hp : l.partyOf site = some me) :
    ({ l with body := .decided d } : Lens).reservedBy site = (d.holder == some (me, HoldKind.reserved)) := by
  change (match l.partyOf site with | none => false | some p => d.holder == some (p, HoldKind.reserved)) = _
  rw [hp]

/-- A record that is replaced twice. -/
theorem State.modLens_modLens (s : State) (i : Nat) (b b' : LensBody) :
    (s.modLens i fun _ => b).modLens i (fun _ => b') = s.modLens i fun _ => b' := by
  simp only [State.modLens, List.modify_modify_eq]
  rfl

/-- A message's name of a lens is read from the lenses' sides alone (R135). -/
theorem State.withMessage_modLens (s : State) (i n j : Nat) (m : BorderMessage) (b : LensBody) :
    (s.modLens i fun _ => b).withMessage n j m = (s.withMessage n j m).modLens i fun _ => b := by
  have hsides : s.SameSides (s.modLens i fun _ => b) := Acts.map_modify _ _ _ _ fun _ => rfl
  unfold State.withMessage
  simp only [hsides.lensName]
  rfl

/-- The wait deadline of a side that waits (R56). -/
theorem State.setWaitDeadline_decided (hl : s.lenses[i]? = some l) (hp : l.partyOf site = some me)
    (hw : d.waiter = some me) : (s.modLens i fun _ => .decided d).setWaitDeadline site i =
      s.modLens i fun _ => .decided { d with deadline := some (s.now + 1000 * s.params.lensWaitLimit) } := by
  have hi : (s.modLens i fun _ => .decided d).lenses[i]? = some { l with body := .decided d } := by simp [hl]
  have hp' : ({ l with body := .decided d } : Lens).partyOf site = some me := hp
  have hset : d.setDeadline me (s.now + 1000 * s.params.lensWaitLimit) =
      { d with deadline := some (s.now + 1000 * s.params.lensWaitLimit) } := if_pos hw
  simp only [State.setWaitDeadline, hi, hp', State.modLens_now, State.modLens_params, hset]
  exact State.modLens_modLens ..

/-- The wait deadline of a claim under way (R56). -/
theorem State.setWaitDeadline_client (hl : s.lenses[i]? = some l) (hc : c.claim = .claiming) :
    (s.modLens i fun _ => .client c).setWaitDeadline site i =
      s.modLens i fun _ => .client { c with deadline := some (s.now + 1000 * s.params.lensWaitLimit) } := by
  have hi : (s.modLens i fun _ => .client c).lenses[i]? = some { l with body := .client c } := by simp [hl]
  simp only [State.setWaitDeadline, hi, State.modLens_now, State.modLens_params, if_pos hc]
  exact State.modLens_modLens ..

end

/-- With no denial waiting there is none to settle. -/
theorem State.settle_quiet {s : State} (h : s.NoDenialWaits) : s.settle = s := by
  unfold State.settle
  cases s.robots.length with
  | zero => rfl
  | succ n => simp [State.settleDenials, (State.noDenialWaits_iff s).mp h]

/-! ### The admission (R77) -/

/-- A robot without a move, and a move of its own to elsewhere: its plan, and its target lens. -/
structure State.Admits (s : State) (site : Nat) (x : Site) (rob : Robot) (p q : Pos) (legs : List Leg)
    (lens : Option Nat) : Prop where
  robot : s.robots[site]? = some rob
  quiet : s.NoDenialWaits
  ne : q ≠ p
  plan : planLegs s.params.stowAngle x p q = legs
  target : s.planTarget site x legs q = lens

namespace State.Admits

variable {s : State} {site i n : Nat} {x : Site} {rob : Robot} {p q : Pos} {legs : List Leg} {lens : Option Nat}
  {kind : MoveKind} {limited : Bool} {l : Lens} {d : Decided} {c : Client} {k : Link} {me : Party}

/-- A claim that is not denied starts the move. -/
theorem starts (h : s.Admits site x rob p q legs lens) {u v : State} {r : ClaimResult} {st : RobotState}
    (hc : s.admissionClaim site lens = (u, r)) (hr : ∀ reason, r ≠ .deny reason)
    (hstart : u.startMove site (Move.fresh kind (some q) legs lens limited) = v)
    (hrobots : v.robots = (s.modRobot site fun r => r.withMove st (Move.fresh kind (some q) legs lens limited)).robots)
    (ho : v.outcomes = s.outcomes) : s.admitMove site kind x p q limited = (v, .legs legs.length) := by
  have htry : s.tryMove site kind x p q limited = (v, .legs legs.length) := by
    unfold State.tryMove
    simp only [if_neg h.ne, h.plan, h.target, hc]
    cases r with
    | deny reason => exact absurd rfl (hr reason)
    | grant => rw [hstart]
    | queue => rw [hstart]
  have hquiet : v.NoDenialWaits := by
    have hmod := h.quiet.modRobot (i := site) (f := fun r => r.withMove st (Move.fresh kind (some q) legs lens limited))
      fun _ _ => by
        unfold Robot.deniedAtRest
        split <;> rfl
    exact fun y hy => hmod y (hrobots ▸ hy)
  simp only [State.admitMove, htry, State.close_quiet' hquiet ho]

/-- A claim that is denied ends the move at once, with its record (R77, R97). -/
theorem denied (h : s.Admits site x rob p q legs lens) {reason : DenyReason}
    (hc : s.admissionClaim site lens = (s, .deny reason)) (hkind : kind ≠ .field) (hbel : rob.believed = some p)
    (hroom : s.outcomes.length < 128) : s.admitMove site kind x p q limited =
      ({ s.modRobot site fun y => { y with lastOutcome := some .denied } with
          outcomes := s.outcomes ++ [⟨site, kind, .denied, some p, rob.epoch, limited, some reason⟩] },
        .denied reason) := by
  let v : State := { s.modRobot site fun y => { y with lastOutcome := some .denied } with
    outcomes := s.outcomes ++ [⟨site, kind, .denied, some p, rob.epoch, limited, some reason⟩] }
  have htry : s.tryMove site kind x p q limited = (v, .denied reason) := by
    unfold State.tryMove
    simp only [if_neg h.ne, h.plan, h.target, hc, State.settle_quiet h.quiet]
    simp [State.recordEnd, h.robot, hkind, hbel]
    rfl
  have hquiet : v.NoDenialWaits := h.quiet.modRobot (i := site) fun y hy => by
    have := h.quiet y (List.mem_of_getElem? hy)
    exact this
  have hclose : s.close v = v := by
    rw [State.close, State.settle_quiet hquiet, closeEvent_one _ rfl]
    exact if_pos hroom
  simp only [State.admitMove, htry, hclose, v]

/-- With no target lens, or with one that is held OCCUPIED already, the move is QUEUED (R79). -/
theorem queued (h : s.Admits site x rob p q legs lens)
    (hl : lens = none ∨ (s.occupiedLens site = lens ∧ ¬ deploysFirst legs)) :
    s.admitMove site kind x p q limited =
      (s.enqueued site rob.bus (Move.fresh kind (some q) legs lens limited), .legs legs.length) := by
  have hclaim : s.admissionClaim site lens = (s, .grant) := by
    cases lens with
    | none => rfl
    | some i =>
      obtain ⟨hocc, -⟩ := hl.resolve_left nofun
      simp [State.admissionClaim, hocc]
  refine h.starts hclaim (fun _ => nofun) (State.startMove_queued h.robot ?_) rfl rfl
  rcases hl with rfl | ⟨-, hd⟩
  · exact State.mustWait_noLens
  · exact State.mustWait_later hd

/-- A FREE lens is granted (R53). -/
theorem free (h : s.Admits site x rob p q legs (some i)) (hl : s.lenses[i]? = some l) (hb : l.body = .decided d)
    (hp : l.partyOf site = some me) (hd : d.state = .free) : s.admitMove site kind x p q limited =
      ((s.enqueued site rob.bus (Move.fresh kind (some q) legs (some i) limited)).modLens i fun _ =>
        .decided { Decided.empty with holder := some (me, .reserved) }, .legs legs.length) := by
  have hn := Decided.holder_of_state (.inl hd)
  have hclaim := State.admissionClaim_decided (site := site) hl hb hp (by simp [hn])
    ((State.claimDecision_unheld false false hn).trans (decideClaim_free hd))
  have hi : (s.setDecided i (d.grantTo me)).lenses[i]? = some { l with body := .decided (d.grantTo me) } := by
    simp [State.setDecided, hl]
  have hheld : ({ l with body := .decided (d.grantTo me) } : Lens).reservedBy site = true := by
    rw [Lens.reservedBy_decided hp]
    exact beq_self_eq_true _
  exact h.starts hclaim (fun _ => nofun)
    (State.startMove_queued (s := s.setDecided i _) h.robot (State.mustWait_reserved hi hheld)) rfl rfl

/-- The claim behind another side's holding (R53, R56). -/
theorem claim_behind {hold : HoldKind} (hl : s.lenses[i]? = some l) (hb : l.body = .decided d)
    (hp : l.partyOf site = some me) (hd : d.holder = some (me.other, hold))
    (hq : s.claimDecision i l d = .queue) : s.admissionClaim site (some i) =
      (s.modLens i fun _ => .decided { d with waiter := some me, deadline := none }, .queue) := by
  have hclaim := State.admissionClaim_decided (site := site) hl hb hp
    (by rw [hd]; cases me <;> simp [Party.other]) hq
  have hqueue : d.queueFor me = { d with waiter := some me, deadline := none } :=
    if_pos (Decided.heldBy_iff.mpr ⟨hold, hd⟩)
  rw [hclaim, applyClaim, hqueue]
  rfl

/-- Behind another side's holding the robot's side waits; a DEPLOY that comes later is QUEUED. -/
theorem behind (h : s.Admits site x rob p q legs (some i)) {hold : HoldKind} (hl : s.lenses[i]? = some l)
    (hb : l.body = .decided d) (hp : l.partyOf site = some me) (hd : d.holder = some (me.other, hold))
    (hq : s.claimDecision i l d = .queue) (hlater : ¬ deploysFirst legs) : s.admitMove site kind x p q limited =
      ((s.enqueued site rob.bus (Move.fresh kind (some q) legs (some i) limited)).modLens i fun _ =>
        .decided { d with waiter := some me, deadline := none }, .legs legs.length) :=
  h.starts (claim_behind hl hb hp hd hq) (fun _ => nofun)
    (State.startMove_queued (s := s.modLens i _) h.robot (State.mustWait_later hlater)) rfl rfl

/-- A DEPLOY that comes first waits with a deadline (R56, R81). -/
theorem behindFirst (h : s.Admits site x rob p q legs (some i)) {hold : HoldKind} (hl : s.lenses[i]? = some l)
    (hb : l.body = .decided d) (hp : l.partyOf site = some me) (hd : d.holder = some (me.other, hold))
    (hq : s.claimDecision i l d = .queue) (hfirst : deploysFirst legs) : s.admitMove site kind x p q limited =
      ((s.awaiting site (Move.fresh kind (some q) legs (some i) limited)).modLens i fun _ =>
        .decided { d with waiter := some me, deadline := some (s.now + 1000 * s.params.lensWaitLimit) },
        .legs legs.length) := by
  let d' : Decided := { d with waiter := some me, deadline := none }
  have hi : (s.modLens i fun _ => .decided d').lenses[i]? = some { l with body := .decided d' } := by simp [hl]
  have hno : ({ l with body := .decided d' } : Lens).reservedBy site = false := by
    rw [Lens.reservedBy_decided hp]
    cases me <;> simp [d', hd, Party.other]
  refine h.starts (st := .waitLens) (claim_behind hl hb hp hd hq) (fun _ => nofun)
    ((State.startMove_waits (s := s.modLens i _) h.robot (State.mustWait_deploy hi hno hfirst)).trans ?_) rfl rfl
  exact State.setWaitDeadline_decided (s := s.awaiting site _) (d := d') hl hp rfl

/-- A CLIENT lens in NONE is claimed by CLAIM; a DEPLOY that comes later is QUEUED (R55). -/
theorem client (h : s.Admits site x rob p q legs (some i)) (hl : s.lenses[i]? = some l) (hb : l.body = .client c)
    (hc : c.claim = .none) (hn : l.link = some n) (hk : s.links[n]? = some k) (hup : k.state = .up)
    (hroom : k.transmit.length < 64) (hlater : ¬ deploysFirst legs) : s.admitMove site kind x p q limited =
      (((s.enqueued site rob.bus (Move.fresh kind (some q) legs (some i) limited)).modLens i fun _ =>
        .client { c with claim := .claiming, deadline := none }).withMessage n i .claim, .legs legs.length) :=
  h.starts (State.admissionClaim_client hl hb hc hn hk hup hroom) (fun _ => nofun)
    (State.startMove_queued (s := (s.modLens i _).withMessage n i .claim) h.robot (State.mustWait_later hlater)) rfl rfl

/-- A DEPLOY that comes first waits for its CLIENT lens with a deadline (R55, R56). -/
theorem clientFirst (h : s.Admits site x rob p q legs (some i)) (hl : s.lenses[i]? = some l) (hb : l.body = .client c)
    (hc : c.claim = .none) (hn : l.link = some n) (hk : s.links[n]? = some k) (hup : k.state = .up)
    (hroom : k.transmit.length < 64) (hfirst : deploysFirst legs) : s.admitMove site kind x p q limited =
      (((s.awaiting site (Move.fresh kind (some q) legs (some i) limited)).modLens i fun _ =>
        .client { c with claim := .claiming, deadline := some (s.now + 1000 * s.params.lensWaitLimit) }).withMessage
          n i .claim, .legs legs.length) := by
  let c' : Client := { c with claim := .claiming, deadline := none }
  have hi : ((s.modLens i fun _ => .client c').withMessage n i .claim).lenses[i]? =
      some { l with body := .client c' } := by
    simp [State.withMessage, hl]
  have hno : ({ l with body := .client c' } : Lens).reservedBy site = false := by
    unfold Lens.reservedBy
    split <;> rfl
  refine h.starts (st := .waitLens) (State.admissionClaim_client hl hb hc hn hk hup hroom) (fun _ => nofun)
    ((State.startMove_waits (s := (s.modLens i _).withMessage n i .claim) h.robot
      (State.mustWait_deploy hi hno hfirst)).trans ?_) rfl rfl
  have hwaits := State.setWaitDeadline_client
    (s := (s.awaiting site (Move.fresh kind (some q) legs (some i) limited)).withMessage n i .claim) (site := site)
    (c := c') (show _ = some l from hl) rfl
  rw [← State.withMessage_modLens, ← State.withMessage_modLens] at hwaits
  exact hwaits

end State.Admits

end Sys2Proof.Machine
end


section
/-! MOVE_TO with a target lens (R53, R55, R56, R74, R77, R79, R81, R97). -/

namespace Sys2Proof.Machine

/-- The admission of a move does not depend on the request that asks for it. -/
theorem State.Admits.taken {s : State} {site : Nat} {x : Site} {rob : Robot} {p q : Pos} {legs : List Leg}
    {lens : Option Nat} (h : s.Admits site x rob p q legs lens) (port : PortId) (tag code : Byte) :
    (s.takeRequest port tag code).Admits site x rob p q legs lens where
  robot := by simpa using h.robot
  quiet := by simpa [State.NoDenialWaits] using h.quiet
  ne := h.ne
  plan := by simpa using h.plan
  target := by
    rw [← h.target]
    cases port <;> rfl

/-- A MOVE_TO of an enabled IDLE robot to a place within its site's limits is answered by its admission (R74). -/
theorem exec_moveTo_admitted {s : State} {r : Req} {site : Nat} {x : Site} {rob : Robot} {p q : Pos} {a : Admission}
    (f : State → State) (hr : sentTo .sequencer r) (hx : s.Holds site x rob) (hmode : s.mode = .opened)
    (hen : rob.enabled = true) (hst : rob.state = .idle) (hm : rob.move = none) (hbel : rob.believed = some p)
    (hq : x.allows q.alpha q.beta = true)
    (h : (s.takeRequest r.port r.tag 10).admitMove site .moveTo x p q false = (f (s.takeRequest r.port r.tag 10), a)) :
    exec (.moveTo r site q.alpha q.beta) s = .next (s.answered r 10 .ok a.body f) := by
  refine congrArg _ (serve_sequencer s r 10 _ _ _ f hr ?_)
  have hbar : moveBar (s.takeRequest r.port r.tag 10) rob = none := by
    simp [moveBar, hmode, Mode.moveBar, hen, hm, hst]
  have hpos : rob.position = p := by simp [Robot.position, hbel]
  rw [atSite_holds (by simpa using hx)]
  simp only [moveToAnswer, hq, hbar, hpos, admitAnswer, h, okWith, if_neg (Bool.noConfusion : ¬ true = false)]

/-- A message with its frame written out (R135). -/
theorem State.withMessage_eq {t : State} {n i : Nat} {m : BorderMessage} {sector : Nat} {name : LensName}
    (hs : t.sectorNumber = sector) (hn : t.lensName n i = name) : t.withMessage n i m = t.modLink n fun u =>
      { u with transmit := u.transmit ++ [⟨sector, u.sendSeq, .border m name⟩], sendSeq := (u.sendSeq + 1) % 256 } := by
  subst hs hn
  rfl

/-- A remote holder, or a local one whose move leaves the lens, has a claim queued behind it (R53). -/
theorem State.claimDecision_leaves {s : State} {i : Nat} {l : Lens} {d : Decided} {p : Party} {kind : HoldKind}
    (hd : d.holder = some (p, kind)) (h : (l.side p).link.isSome = true ∨ (kind = .occupied ∧ ∃ j y m,
      l.side p = .site j ∧ s.robots[j]? = some y ∧ y.move = some m ∧ m.targetLens ≠ some i)) :
    s.claimDecision i l d = .queue := by
  rcases h with hremote | ⟨hkind, j, y, m, hside, hy, hm, hne⟩
  · simp [State.claimDecision, decideClaim, hd, hremote]
  · rw [State.claimDecision_local hd hside hy, if_pos ⟨hkind, m, hm, hne⟩]

end Sys2Proof.Machine

open Sys2Proof Sys2Proof.Machine

/-- Settles O19: the request reaches the admission of its move, which is given case by case by `State.Admits`. -/
theorem moveToClaimsItsTargetLens : Obligations.MoveToClaimsItsTargetLens := by
  refine ⟨fun s r site x rob p q i l d me hr hx hmode hen hst hm hbel hq hquiet hne htarget hl hb hp => ?_,
    fun s r site x rob p q i n l c k hr hx hmode hen hst hm hbel hq hquiet hne htarget hl hb hc hn hk hup hroom
      hlater => ?_⟩
  · have hadmits : (s.takeRequest r.port r.tag 10).Admits site x rob p q _ (some i) :=
      State.Admits.taken ⟨hx.2, hquiet, hne, rfl, htarget⟩ _ _ _
    have hl' : (s.takeRequest r.port r.tag 10).lenses[i]? = some l := by simpa using hl
    intro legs move queued
    have hexec : ∀ f : State → State, (s.takeRequest r.port r.tag 10).admitMove site .moveTo x p q false =
        (f (s.takeRequest r.port r.tag 10), .legs legs.length) → exec (.moveTo r site q.alpha q.beta) s =
          .next (s.answered r 10 .ok (.admitted legs.length) f) := fun f =>
      exec_moveTo_admitted f hr hx hmode hen hst hm hbel hq
    refine ⟨fun hd => ?_, fun hocc hlater => ?_, fun kind hd hleaves => ?_⟩
    · exact hexec _ (hadmits.free hl' hb hp hd)
    · have hocc' : (s.takeRequest r.port r.tag 10).occupiedLens site = some i := by
        simpa [State.occupiedLens, State.lensHas] using hocc
      exact hexec _ (hadmits.queued (.inr ⟨hocc', hlater⟩))
    · have hqueue : (s.takeRequest r.port r.tag 10).claimDecision i l d = .queue :=
        State.claimDecision_leaves hd (by simpa using hleaves)
      refine ⟨fun hlater => hexec _ (hadmits.behind hl' hb hp hd hqueue hlater), fun hfirst => hexec _ ?_⟩
      have h := hadmits.behindFirst (kind := .moveTo) (limited := false) hl' hb hp hd hqueue hfirst
      simp only [takeRequest_now, takeRequest_params] at h
      exact h
  · have hadmits : (s.takeRequest r.port r.tag 10).Admits site x rob p q _ (some i) :=
      State.Admits.taken ⟨hx.2, hquiet, hne, rfl, htarget⟩ _ _ _
    intro legs
    have h := hadmits.client (kind := .moveTo) (limited := false) (by simpa using hl) hb hc hn (by simpa using hk) hup
      hroom hlater
    let w : State := ((s.takeRequest r.port r.tag 10).enqueued site rob.bus
      (Move.fresh .moveTo (some q) legs (some i) false)).modLens i fun _ =>
        .client { c with claim := .claiming, deadline := none }
    have hsides : s.SameSides w := by
      have hmod : (s.takeRequest r.port r.tag 10).SameSides w := Acts.map_modify _ _ _ _ fun _ => rfl
      rwa [State.SameSides, takeRequest_lenses] at hmod
    have hsector : w.sectorNumber = s.sectorNumber :=
      (show w.sectorNumber = (s.takeRequest r.port r.tag 10).sectorNumber from rfl).trans (takeRequest_sectorNumber ..)
    have hsent : w.withMessage n i .claim = _ := State.withMessage_eq hsector (hsides.lensName n i)
    exact exec_moveTo_admitted (a := .legs legs.length) _ hr hx hmode hen hst hm hbel hq
      (h.trans (congrArg (·, Admission.legs legs.length) hsent))
end


section
/-! MOVE_TO whose claim is denied (R52, R53, R55, R97). -/

namespace Sys2Proof.Machine

/-- A claim that a decided record denies leaves the record (R53). -/
theorem State.admissionClaim_denied {s : State} {site i : Nat} {l : Lens} {d : Decided} {me : Party}
    {reason : DenyReason} (hl : s.lenses[i]? = some l) (hb : l.body = .decided d) (hp : l.partyOf site = some me)
    (hno : d.holder ≠ some (me, .occupied)) (hr : s.claimDecision i l d = .deny reason) :
    s.admissionClaim site (some i) = (s, .deny reason) := by
  rw [State.admissionClaim_decided hl hb hp hno hr]
  exact congrArg (·, _) (State.modLens_same hl hb)

/-- A PINNED record denies a claim PINNED (R53). -/
theorem State.admissionClaim_pinned {s : State} {site i : Nat} {l : Lens} {d : Decided} {me : Party}
    (hl : s.lenses[i]? = some l) (hb : l.body = .decided d) (hp : l.partyOf site = some me) (hd : d.state = .pinned) :
    s.admissionClaim site (some i) = (s, .deny .pinned) := by
  have hn := Decided.holder_of_state (.inr hd)
  exact State.admissionClaim_denied hl hb hp (by simp [hn])
    ((State.claimDecision_unheld false false hn).trans (decideClaim_pinned hd))

/-- A local robot's holding that it does not leave denies a claim TAKEN (R53). -/
theorem State.admissionClaim_taken {s : State} {site i j : Nat} {l : Lens} {d : Decided} {me : Party} {y : Robot}
    {kind : HoldKind} (hl : s.lenses[i]? = some l) (hb : l.body = .decided d) (hp : l.partyOf site = some me)
    (hd : d.holder = some (me.other, kind)) (hside : l.side me.other = .site j) (hy : s.robots[j]? = some y)
    (h : kind = .reserved ∨ ∀ m, y.move = some m → m.targetLens = some i) :
    s.admissionClaim site (some i) = (s, .deny .taken) := by
  refine State.admissionClaim_denied hl hb hp (by rw [hd]; cases me <;> simp [Party.other]) ?_
  rw [State.claimDecision_local hd hside hy, if_neg]
  rintro ⟨rfl, m, hm, hne⟩
  exact h.elim nofun fun h => hne (h m hm)

end Sys2Proof.Machine

open Sys2Proof Sys2Proof.Machine

/-- Settles O20: each of the three claims is denied, and the admission ends with its record. -/
theorem moveToIsDeniedAHeldLens : Obligations.MoveToIsDeniedAHeldLens := by
  intro s r site x rob p q i l reason hr hx hmode hen hst hm hbel hq hquiet hne htarget hl hparty hroom hcases
  let v : State := s.takeRequest r.port r.tag 10
  have hadmits : v.Admits site x rob p q _ (some i) := State.Admits.taken ⟨hx.2, hquiet, hne, rfl, htarget⟩ _ _ _
  have hl' : v.lenses[i]? = some l := by simpa [v] using hl
  have hclaim : v.admissionClaim site (some i) = (v, .deny reason) := by
    rcases hcases with ⟨d, hb, hd, rfl⟩ | ⟨d, kind, j, y, me, hb, hp, hd, hside, hy, hstay, rfl⟩ |
      ⟨c, n, k, hb, hc, hn, hk, hdown, rfl⟩
    · obtain ⟨me, hp⟩ := Option.ne_none_iff_exists'.mp hparty
      exact State.admissionClaim_pinned hl' hb hp hd
    · exact State.admissionClaim_taken hl' hb hp hd hside (by simpa [v] using hy) hstay
    · exact State.admissionClaim_linkDown hl' hb hc hn (by simpa [v] using hk) hdown
  have hdenied := hadmits.denied (kind := .moveTo) (limited := false) hclaim nofun hbel (by simpa [v] using hroom)
  exact exec_moveTo_admitted (a := .denied reason) _ hr hx hmode hen hst hm hbel hq hdenied
end


section
/-! CORRECT (R120 to R127): its checks, its stages, and the admission of its move. -/

namespace Sys2Proof.Machine

/-! ### The results of a request (R120, R124) -/

theorem admitReport_site (s : State) (c : CorrectionReport) (x : Site) (p q : Pos) (limited : Bool) :
    (admitReport s c x p q limited).2.site = c.site := by
  unfold admitReport
  simp only
  split <;> rfl

theorem takeReport_site (s : State) (c : CorrectionReport) : (takeReport s c).2.site = c.site := by
  unfold takeReport stageReport
  split
  · rfl
  · split
    · split
      · rfl
      · split
        · rfl
        · split
          · rfl
          · exact admitReport_site _ _ _ _ _ _
    · rfl

/-- One result per report, in order. -/
theorem takeReports_sites (reports : List CorrectionReport) (s : State) :
    (takeReports s reports).2.map (·.site) = reports.map (·.site) := by
  induction reports generalizing s with
  | nil => rfl
  | cons c rest ih => simp only [takeReports, List.map_cons, takeReport_site, ih]

/-- Each result is counted once. -/
theorem outcomeCounts_sum (results : List ReportResult) : (outcomeCounts results).sum = results.length := by
  induction results with
  | nil => rfl
  | cons a rest ih =>
    simp only [outcomeCounts, reportOutcomes, List.map_cons, List.map_nil, List.countP_cons, List.sum_cons,
      List.sum_nil, List.length_cons] at ih ⊢
    cases a.outcome <;> simp <;> omega

/-! ### The checks (R121) -/

theorem offsetGood_iff (d : Int) : offsetGood d = true ↔ -2048 ≤ d ∧ d ≤ 2047 := by simp [offsetGood]

@[simp] theorem takeRequest_reportBar (s : State) (p : PortId) (tag code : Byte) (c : CorrectionReport) :
    reportBar (s.takeRequest p tag code) c = reportBar s c := by
  simp only [reportBar, takeRequest_robots, takeRequest_mode]

/-- A report that its figures bar (R120, R121). -/
theorem reportBar_badArg {s : State} {c : CorrectionReport} (h : s.robots.length ≤ c.site ∨ 60000 < c.residual ∨
    c.dAlpha < -2048 ∨ 2047 < c.dAlpha ∨ c.dBeta < -2048 ∨ 2047 < c.dBeta) : reportBar s c = some .badArg := by
  unfold reportBar
  cases hr : s.robots[c.site]? with
  | none => rfl
  | some r =>
    have hlt := (List.getElem?_eq_some_iff.mp hr).1
    refine if_pos ?_
    rw [← Bool.not_eq_true, ← Bool.not_eq_true, offsetGood_iff, offsetGood_iff]
    omega

/-- The checks of a report whose figures are in range (R121). -/
theorem reportBar_inRange {s : State} {c : CorrectionReport} {r : Robot} (hr : s.robots[c.site]? = some r)
    (hres : c.residual ≤ 60000) (ha : offsetGood c.dAlpha = true) (hb : offsetGood c.dBeta = true) :
    reportBar s c = if s.mode ≠ .opened then some .frozen
      else if r.enabled = false ∨ (r.move = none ∧ r.state ≠ .idle) then some .notReady
      else if r.move ≠ none then some .busy
      else if c.epochSeen ≠ r.epoch then some .stale
      else none := by
  simp only [reportBar, hr]
  exact if_neg (by simp [ha, hb, hres])

/-! ### A request of one report (R120) -/

section
variable {s : State} {r : Req} {c : CorrectionReport} {x : Site} {rob : Robot} {p q : Pos}

/-- A request of no report, or of more than 32 (R120). -/
theorem exec_correct_badArg {reports : List CorrectionReport} (hr : sentTo .metrology r) (hmap : s.map ≠ none)
    (h : reports = [] ∨ 32 < reports.length) :
    exec (.correct r reports) s = .next (s.answered r 26 .badArg .none id) := by
  refine congrArg _ (serve_metrology s r 26 _ _ _ id hr ?_)
  have hm : (s.takeRequest r.port r.tag 26).map.isNone = false :=
    Option.isNone_eq_false_iff.mpr (Option.isSome_iff_ne_none.mpr (by simpa using hmap))
  have hlist : reports.isEmpty = true ∨ 32 < reports.length := by simpa using h
  simp only [correctAnswer, hm, Bool.false_eq_true, if_false, if_pos hlist]
  rfl

/-- A request that its rule takes (R120, R124). -/
theorem exec_correct_taken {reports : List CorrectionReport} {results : List ReportResult} (f : State → State)
    (hr : sentTo .metrology r) (hmap : s.map ≠ none) (hne : reports ≠ []) (hlen : reports.length ≤ 32)
    (h : takeReports (s.takeRequest r.port r.tag 26) reports = (f (s.takeRequest r.port r.tag 26), results)) :
    exec (.correct r reports) s =
      .next (s.answered r 26 .ok (.corrected results (outcomeCounts results)) f) := by
  refine congrArg _ (serve_metrology s r 26 _ _ _ f hr ?_)
  have hm : (s.takeRequest r.port r.tag 26).map.isNone = false :=
    Option.isNone_eq_false_iff.mpr (Option.isSome_iff_ne_none.mpr (by simpa using hmap))
  have hlist : ¬ (reports.isEmpty = true ∨ 32 < reports.length) := by simp [hne, hlen]
  simp only [correctAnswer, hm, Bool.false_eq_true, if_false, if_neg hlist, h, okWith]

theorem takeReports_one {u : State} {res : ReportResult} (h : takeReport s c = (u, res)) :
    takeReports s [c] = (u, [res]) := by
  simp only [takeReports, h]

/-- A report that fails a check changes nothing (R121). -/
theorem takeReport_barred {o : ReportOutcome} (h : reportBar s c = some o) :
    takeReport s c = (s, ⟨c.site, o, false, none, none, none, none⟩) := by
  simp only [takeReport, h]

/-- A report that passes them goes through the stages (R122). -/
theorem takeReport_staged (h : reportBar s c = none) (hx : s.Holds c.site x rob) :
    takeReport s c = stageReport s c x rob := by
  simp only [takeReport, h, hx.1, hx.2]

theorem State.iterationsOf_eq (hr : s.robots[c.site]? = some rob) : s.iterationsOf c.site = some rob.iterations := by
  simp [State.iterationsOf, hr]

/-! ### The admission of a correction (R123, R125) -/

/-- A robot with its new move, an iteration spent on it. -/
def Robot.correcting (r : Robot) (st : RobotState) (m : Move) (spent : Nat) : Robot :=
  { r with state := st, pollTime := none, iterations := spent, converged := false, move := some m }

/-- A report whose move is admitted spends an iteration. `F` is what the admission does beside the robot. -/
theorem admitReport_admitted (hr : s.robots[c.site]? = some rob) {limited : Bool} {st : RobotState} {m : Move} {k : Nat}
    (F : State → State) (hF : ∀ (t : State) g, (F t).modRobot c.site g = F (t.modRobot c.site g))
    (hFr : ∀ t : State, (F t).robots = t.robots)
    (h : s.admitMove c.site .correction x p q limited = (F (s.modRobot c.site fun y => y.withMove st m), .legs k)) :
    admitReport s c x p q limited =
      (F (s.modRobot c.site fun y => y.correcting st m (satInc Config.iterationTop rob.iterations)),
        ⟨c.site, .admitted, limited, none, some q, some k, some (satInc Config.iterationTop rob.iterations)⟩) := by
  have hmod : (F (s.modRobot c.site fun y => y.withMove st m)).modRobot c.site Robot.iterate =
      F (s.modRobot c.site fun y => y.correcting st m (satInc Config.iterationTop rob.iterations)) := by
    rw [hF, State.modRobot_modRobot]
    exact congrArg F (State.modRobot_congr hr rfl)
  have hrob : (F (s.modRobot c.site fun y =>
      y.correcting st m (satInc Config.iterationTop rob.iterations))).robots[c.site]? =
      some (rob.correcting st m (satInc Config.iterationTop rob.iterations)) := by
    simp [hFr, hr]
  simp only [admitReport, h, hmod, State.iterationsOf_eq hrob]
  rfl

/-- A report whose claim is denied spends nothing (R123). -/
theorem admitReport_denied {lens : Option Nat} {legs : List Leg} {limited : Bool} {reason : DenyReason}
    (h : s.Admits c.site x rob p q legs lens) (hc : s.admissionClaim c.site lens = (s, .deny reason))
    (hbel : rob.believed = some p) (hroom : s.outcomes.length < 128) : admitReport s c x p q limited =
      ({ s.modRobot c.site fun y => { y with lastOutcome := some .denied } with
          outcomes := s.outcomes ++ [⟨c.site, .correction, .denied, some p, rob.epoch, limited, some reason⟩] },
        ⟨c.site, .denied, limited, some reason, some q, none, some rob.iterations⟩) := by
  have hrob : ({ s.modRobot c.site fun y => { y with lastOutcome := some .denied } with
      outcomes := s.outcomes ++
        [⟨c.site, .correction, .denied, some p, rob.epoch, limited, some reason⟩] } : State).robots[c.site]? =
      some { rob with lastOutcome := some .denied } := by
    simp [h.robot]
  simp only [admitReport, h.denied (kind := .correction) (limited := limited) hc nofun hbel hroom,
    State.iterationsOf_eq hrob]

/-! ### The stages (R122) -/

theorem stageReport_converged (hr : s.robots[c.site]? = some rob) (h : c.residual ≤ s.params.tolerance) :
    stageReport s c x rob = (s.modRobot c.site fun y => { y with converged := true },
      ⟨c.site, .converged, false, none, none, none, some rob.iterations⟩) := by
  have hrob : (s.modRobot c.site Robot.converge).robots[c.site]? = some rob.converge := by simp [hr]
  simp only [stageReport, if_pos h, State.iterationsOf_eq hrob]
  rfl

theorem stageReport_limit (hr : s.robots[c.site]? = some rob) (h : s.params.tolerance < c.residual)
    (hl : s.params.iterationLimit ≤ rob.iterations) :
    stageReport s c x rob = (s.modRobot c.site fun y => { y with notConverged := true },
      ⟨c.site, .limit, false, none, none, none, some rob.iterations⟩) := by
  have hrob : (s.modRobot c.site Robot.failConverge).robots[c.site]? = some rob.failConverge := by simp [hr]
  simp only [stageReport, if_neg (Nat.not_le.mpr h), if_pos hl, State.iterationsOf_eq hrob]
  rfl

/-- The stages of a report of a robot below its limit. -/
theorem stageReport_staged (hbel : rob.believed = some p) (h : s.params.tolerance < c.residual)
    (hl : rob.iterations < s.params.iterationLimit) : stageReport s c x rob =
      match correctionStages s.params x p rob.dirAlpha rob.dirBeta c.dAlpha c.dBeta with
      | .null limited => (s.modRobot c.site Robot.iterate, ⟨c.site, .null, limited, none, none, none,
          (s.modRobot c.site Robot.iterate).iterationsOf c.site⟩)
      | .target q limited => admitReport s c x p q limited := by
  have hpos : rob.position = p := by simp [Robot.position, hbel]
  subst hpos
  exact (if_neg (Nat.not_le.mpr h)).trans (if_neg (Nat.not_le.mpr hl))

/-- Stages that come to nothing spend an iteration. -/
theorem stageReport_null (hr : s.robots[c.site]? = some rob) (hbel : rob.believed = some p)
    (h : s.params.tolerance < c.residual) (hl : rob.iterations < s.params.iterationLimit) {limited : Bool}
    (hs : correctionStages s.params x p rob.dirAlpha rob.dirBeta c.dAlpha c.dBeta = .null limited) :
    stageReport s c x rob =
      (s.modRobot c.site fun y =>
          { y with iterations := satInc Config.iterationTop rob.iterations, converged := false },
        ⟨c.site, .null, limited, none, none, none, some (satInc Config.iterationTop rob.iterations)⟩) := by
  have hmod : s.modRobot c.site Robot.iterate = s.modRobot c.site fun y =>
      { y with iterations := satInc Config.iterationTop rob.iterations, converged := false } :=
    State.modRobot_congr hr rfl
  have hrob : (s.modRobot c.site Robot.iterate).robots[c.site]? = some rob.iterate := by simp [hr]
  simp only [stageReport_staged hbel h hl, hs, State.iterationsOf_eq hrob]
  rw [hmod]
  rfl

/-- Stages that come to a target go to the move engine. -/
theorem stageReport_target (hbel : rob.believed = some p) (h : s.params.tolerance < c.residual)
    (hl : rob.iterations < s.params.iterationLimit) {limited : Bool}
    (hs : correctionStages s.params x p rob.dirAlpha rob.dirBeta c.dAlpha c.dBeta = .target q limited) :
    stageReport s c x rob = admitReport s c x p q limited := by
  simp only [stageReport_staged hbel h hl, hs]

end

end Sys2Proof.Machine

open Sys2Proof Sys2Proof.Machine

/-- Settles O32: the results and counts by induction over the reports, the checks of R121 in their order, and a report
that passes them by its stages and by the admission of its move (`State.Admits`). -/
theorem correctionReportsComeToTheirOutcome : Obligations.CorrectionReportsComeToTheirOutcome := by
  refine ⟨fun s r reports hr hmap => ⟨fun hbad => ?_, fun hne hlen htakes => ?_, fun c o hone hbar => ?_⟩,
    fun s c => ⟨reportBar_badArg, fun x hx hres ha1 ha2 hb1 hb2 => ?_⟩,
    fun s r c x rob p hr hx hbar hbel hquiet => ?_⟩
  · exact exec_correct_badArg hr hmap hbad
  · let f (t : State) : State := (takeReports t reports).1
    have hexec := exec_correct_taken (s := s) f hr hmap hne hlen rfl
    refine ⟨_, _, _, hexec, State.answered_engine htakes (Acts.takeReports reports _).engine,
      takeReports_sites reports _, rfl, ?_⟩
    rw [outcomeCounts_sum, ← List.length_map (f := ReportResult.site), takeReports_sites, List.length_map]
  · subst hone
    exact ⟨_, exec_correct_taken id hr hmap (List.cons_ne_nil _ _) (by simp)
      (takeReports_one (takeReport_barred ((takeRequest_reportBar ..).trans hbar)))⟩
  · have hbars := reportBar_inRange hx hres ((offsetGood_iff _).mpr ⟨ha1, ha2⟩) ((offsetGood_iff _).mpr ⟨hb1, hb2⟩)
    refine ⟨fun hm => hbars.trans (by simp [hm]), fun hm h => hbars.trans (by simp [hm, h]),
      fun hm hen hmove => hbars.trans (by simp [hm, hen, hmove]), fun hm hen hmove hst => ⟨fun he => ?_, fun he => ?_⟩⟩
    · exact hbars.trans (by simp [hm, hen, hmove, hst, he])
    · exact hbars.trans (by simp [hm, hen, hmove, hst, he])
  · intro spent stages comesTo denied
    let v : State := s.takeRequest r.port r.tag 26
    have hmap : s.map ≠ none := fun hn => by
      have := hx.1
      simp [State.site?, hn] at this
    have hv : v.robots[c.site]? = some rob := by simpa [v] using hx.2
    have hbar' : reportBar v c = none := (takeRequest_reportBar ..).trans hbar
    have hexec : ∀ (f : State → State) res, stageReport v c x rob = (f v, res) → exec (.correct r [c]) s =
        .next (s.answered r 26 .ok (.corrected [res] (outcomeCounts [res])) f) := fun f res h =>
      exec_correct_taken f hr hmap (List.cons_ne_nil _ _) (by simp)
        (takeReports_one ((takeReport_staged hbar' (by simpa [v] using hx)).trans h))
    have hparams : v.params = s.params := takeRequest_params ..
    refine ⟨fun htol => ⟨_, hexec _ _ (stageReport_converged hv (hparams ▸ htol))⟩,
      fun htol hlim => ⟨_, hexec _ _ (stageReport_limit hv (hparams ▸ htol) (hparams ▸ hlim))⟩,
      fun htol hlim => ⟨fun limited hs => ⟨_, hexec _ _ (stageReport_null hv hbel (hparams ▸ htol) (hparams ▸ hlim)
        (by rw [hparams]; exact hs))⟩, fun q limited hs hne => ?_⟩⟩
    have htarget := stageReport_target (q := q) hbel (hparams ▸ htol) (hparams ▸ hlim)
      (by rw [hparams]; exact hs)
    intro legs moving queued admitted deploys
    have hadmits : ∀ lens, s.planTarget c.site x legs q = lens → v.Admits c.site x rob p q legs lens := fun lens hl =>
      State.Admits.taken ⟨hx.2, hquiet, hne, rfl, hl⟩ _ _ _
    have hadmitted : ∀ (F : State → State) st lens,
        (∀ (t : State) g, (F t).modRobot c.site g = F (t.modRobot c.site g)) → (∀ t : State, (F t).robots = t.robots) →
        v.admitMove c.site .correction x p q limited = (F (v.modRobot c.site fun y =>
          y.withMove st (Move.fresh .correction (some q) legs lens limited)), .legs legs.length) →
        admitted fun t => F (moving st lens t) := fun F st lens hF hFr h =>
      ⟨_, hexec _ _ (htarget.trans (admitReport_admitted hv F hF hFr h))⟩
    have hdenied : ∀ {lens reason}, s.planTarget c.site x legs q = lens →
        v.admissionClaim c.site lens = (v, .deny reason) → s.outcomes.length < 128 → denied limited q reason :=
      fun hl hc hroom =>
        ⟨_, hexec _ _ (htarget.trans (admitReport_denied (hadmits _ hl) hc hbel (by simpa [v] using hroom)))⟩
    refine ⟨fun hlens => ?_, fun i l me hlens hl hp => ⟨fun hocc hlater => ?_,
      fun d hb => ⟨fun hd => ?_, fun hd hroom => ?_, fun kind hd => ?_⟩,
      fun u n k hb hu hn hk => ⟨fun hdown hroom => ?_, fun hup hpin hroom => ?_, fun hup hc hroom => ?_⟩⟩⟩
    · exact hadmitted (fun t => t.modBus rob.bus fun b => b.joined false c.site) .queued none (fun _ _ => rfl)
        (fun _ => rfl) ((hadmits _ hlens).queued (.inl rfl))
    · have hocc' : v.occupiedLens c.site = some i := by simpa [v, State.occupiedLens, State.lensHas] using hocc
      exact hadmitted (fun t => t.modBus rob.bus fun b => b.joined false c.site) .queued (some i) (fun _ _ => rfl)
        (fun _ => rfl) ((hadmits _ hlens).queued (.inr ⟨hocc', hlater⟩))
    · exact hadmitted (fun t => (t.modBus rob.bus fun b => b.joined false c.site).modLens i fun _ =>
        .decided { Decided.empty with holder := some (me, .reserved) }) .queued (some i) (fun _ _ => rfl)
        (fun _ => rfl) ((hadmits _ hlens).free (by simpa [v] using hl) hb hp hd)
    · exact hdenied hlens (State.admissionClaim_pinned (by simpa [v] using hl) hb hp hd) hroom
    · intro leaves
      have hl' : v.lenses[i]? = some l := by simpa [v] using hl
      have hqueue (hleaves : leaves) : v.claimDecision i l d = .queue :=
        State.claimDecision_leaves hd (by simpa [v, leaves] using hleaves)
      refine ⟨fun hleaves hlater => ?_, fun hleaves hfirst => ?_, fun hstay ⟨j, y, hside, hy⟩ hroom => ?_⟩
      · exact hadmitted (fun t => (t.modBus rob.bus fun b => b.joined false c.site).modLens i fun _ =>
          .decided { d with waiter := some me, deadline := none }) .queued (some i) (fun _ _ => rfl)
          (fun _ => rfl) ((hadmits _ hlens).behind hl' hb hp hd (hqueue hleaves) hlater)
      · have h := (hadmits _ hlens).behindFirst (kind := .correction) (limited := limited) hl' hb hp hd
          (hqueue hleaves) hfirst
        simp only [v, takeRequest_now, takeRequest_params] at h
        exact hadmitted (fun t => t.modLens i fun _ => .decided { d with
          waiter := some me, deadline := some (s.now + 1000 * s.params.lensWaitLimit) }) .waitLens (some i)
          (fun _ _ => rfl) (fun _ => rfl) h
      · have hkept : kind = .reserved ∨ ∀ m, y.move = some m → m.targetLens = some i := by
          cases kind with
          | reserved => exact .inl rfl
          | occupied => exact .inr fun m hm => by_contra fun hne => hstay (.inr ⟨rfl, j, y, m, hside, hy, hm, hne⟩)
        exact hdenied hlens (State.admissionClaim_taken hl' hb hp hd hside (by simpa [v] using hy) hkept) hroom
    · exact hdenied hlens
        (State.admissionClaim_linkDown (by simpa [v] using hl) hb hu hn (by simpa [v] using hk) hdown) hroom
    · exact hdenied hlens
        (State.admissionClaim_clientPinned (by simpa [v] using hl) hb hpin hn (by simpa [v] using hk) hup) hroom
    · intro claims
      have hl' : v.lenses[i]? = some l := by simpa [v] using hl
      have hk' : v.links[n]? = some k := by simpa [v] using hk
      refine ⟨fun hlater => ?_, fun hfirst => ?_⟩
      · exact hadmitted (fun t => ((t.modBus rob.bus fun b => b.joined false c.site).modLens i fun _ =>
          .client { u with claim := .claiming, deadline := none }).withMessage n i .claim) .queued (some i)
          (fun _ _ => rfl) (fun _ => rfl) ((hadmits _ hlens).client hl' hb hc hn hk' hup hroom hlater)
      · have h := (hadmits _ hlens).clientFirst (kind := .correction) (limited := limited) hl' hb hc hn hk' hup hroom
          hfirst
        simp only [v, takeRequest_now, takeRequest_params] at h
        exact hadmitted (fun t => (t.modLens i fun _ => .client { u with
          claim := .claiming, deadline := some (s.now + 1000 * s.params.lensWaitLimit) }).withMessage n i .claim)
          .waitLens (some i) (fun _ _ => rfl) (fun _ => rfl) h
end


section
/-! READ_OUTCOMES (R98). -/

namespace Sys2Proof.Machine

variable {t : State} {count : Nat}

/-- A count that R98 does not allow. -/
theorem readOutcomes_badArg (h : count = 0 ∨ 16 < count) : readOutcomes count t = refuseWith t .badArg :=
  if_pos h

/-- A count in range goes to the queue (R98). -/
theorem readOutcomes_inRange (h1 : 1 ≤ count) (h2 : count ≤ 16) : readOutcomes count t =
    if t.outcomes.isEmpty then ⟨t.clearOverflow, .empty, .outcomes [] 0 t.overflow⟩
    else okWith
      (if (t.outcomes.drop count).isEmpty then { t with outcomes := t.outcomes.drop count }.clearOverflow
        else { t with outcomes := t.outcomes.drop count })
      (.outcomes (t.outcomes.take count) (t.outcomes.drop count).length t.overflow) :=
  if_neg (by omega)

/-- An empty queue has nothing to answer (R98). -/
theorem readOutcomes_empty (h1 : 1 ≤ count) (h2 : count ≤ 16) (h : t.outcomes = []) :
    readOutcomes count t = ⟨t.clearOverflow, .empty, .outcomes [] 0 t.overflow⟩ := by
  rw [readOutcomes_inRange h1 h2, h]
  rfl

/-- A count of no less than the queue holds empties it (R98). -/
theorem readOutcomes_all (h1 : 1 ≤ count) (h2 : count ≤ 16) (hne : t.outcomes ≠ []) (h : t.outcomes.length ≤ count) :
    readOutcomes count t =
      okWith { t with outcomes := [] }.clearOverflow (.outcomes t.outcomes 0 t.overflow) := by
  have hsome : ¬ t.outcomes.isEmpty = true := by simpa using hne
  rw [readOutcomes_inRange h1 h2, if_neg hsome, List.drop_of_length_le h, List.take_of_length_le h]
  rfl

/-- A smaller count takes that many from the head (R98). -/
theorem readOutcomes_some (h1 : 1 ≤ count) (h2 : count ≤ 16) (h : count < t.outcomes.length) :
    readOutcomes count t = okWith { t with outcomes := t.outcomes.drop count }
      (.outcomes (t.outcomes.take count) (t.outcomes.length - count) t.overflow) := by
  have hsome : ¬ t.outcomes.isEmpty = true := by
    rw [List.isEmpty_iff_length_eq_zero]
    omega
  have hleft : ¬ (t.outcomes.drop count).isEmpty = true := by
    rw [List.isEmpty_iff_length_eq_zero, List.length_drop]
    omega
  rw [readOutcomes_inRange h1 h2, if_neg hsome, if_neg hleft, List.length_drop]

end Sys2Proof.Machine

open Sys2Proof Sys2Proof.Machine

/-- Settles O24: the count's range, and in it the queue empty, emptied or left with records. -/
theorem readOutcomesDrainsTheQueue : Obligations.ReadOutcomesDrainsTheQueue := by
  intro s r count hr clear
  refine ⟨fun h => congrArg _ (serve_refused hr (readOutcomes_badArg h)), fun h1 h2 =>
    ⟨fun h => congrArg _ (serve_sequencer s r 15 _ _ _ clear hr ?_), fun hne h =>
      congrArg _ (serve_sequencer s r 15 _ _ _ (fun t => clear { t with outcomes := [] }) hr ?_), fun h =>
      congrArg _ (serve_sequencer s r 15 _ _ _ (fun t => { t with outcomes := t.outcomes.drop count }) hr ?_)⟩⟩
  · rw [readOutcomes_empty h1 h2 (by simpa using h), takeRequest_overflow]
    rfl
  · rw [readOutcomes_all h1 h2 (by simpa using hne) (by simpa using h), takeRequest_overflow, takeRequest_outcomes]
    rfl
  · rw [readOutcomes_some h1 h2 (by simpa using h), takeRequest_overflow, takeRequest_outcomes]
    rfl
end


section
/-! Which status refuses a MOVE_TO, a PARK, a HOME or a CONFIGURE (R74 to R76, R113). -/

namespace Sys2Proof.Machine

@[simp] theorem takeRequest_moveBar (s : State) (p : PortId) (tag code : Byte) (rob : Robot) :
    moveBar (s.takeRequest p tag code) rob = moveBar s rob := by
  simp only [moveBar, takeRequest_mode]

@[simp] theorem takeRequest_homeBar (s : State) (p : PortId) (tag code : Byte) (rob : Robot) :
    homeBar (s.takeRequest p tag code) rob = homeBar s rob := by
  simp only [homeBar, takeRequest_mode]

section
variable {s : State} {rob : Robot} {st : Status}

/-- A mode that bars moves bars a MOVE_TO or a PARK before the robot does (R74). -/
theorem moveBar_mode (h : s.mode.moveBar = some st) : moveBar s rob = some st := by
  simp only [moveBar, h]

/-- The robot's part in refusing a MOVE_TO or a PARK, in OPEN (R74). -/
theorem moveBar_opened (h : s.mode = .opened) : moveBar s rob =
    if rob.enabled = false ∨ (rob.move = none ∧ rob.state ≠ .idle) then some .notReady
    else if rob.move ≠ none then some .busy
    else none := by
  simp only [moveBar, h, Mode.moveBar]

/-- An enabled IDLE robot with no move may move in OPEN (R74). -/
theorem moveBar_none (h : s.mode = .opened) (hen : rob.enabled = true) (hm : rob.move = none)
    (hst : rob.state = .idle) : moveBar s rob = none := by
  simp [moveBar_opened h, hen, hm, hst]

/-- A mode that bars moves bars a HOME before the robot does (R76). -/
theorem homeBar_mode (h : s.mode.moveBar = some st) : homeBar s rob = some st := by
  simp only [homeBar, h]

/-- The robot's part in refusing a HOME, in OPEN (R76). -/
theorem homeBar_opened (h : s.mode = .opened) : homeBar s rob =
    if rob.enabled = false then some .notReady
    else if rob.move ≠ none then some .busy
    else if rob.state = .idle ∨ rob.state = .faulted ∨ rob.state = .lost .power then none
    else some .notReady := by
  simp only [homeBar, h, Mode.moveBar]

end

section
variable {s : State} {r : Req} {site : Nat} {x : Site} {rob : Robot} {st : Status}
  (hr : sentTo .sequencer r) (hx : s.Holds site x rob)
include hr hx

theorem exec_moveTo_refused {q : Pos} (hq : x.allows q.alpha q.beta = true) (h : moveBar s rob = some st) :
    exec (.moveTo r site q.alpha q.beta) s = .next (s.answered r 10 st .none id) := by
  refine congrArg _ (serve_refused hr ((atSite_holds (by simpa using hx) _).trans ?_))
  simp only [moveToAnswer, hq, takeRequest_moveBar, h, if_neg (Bool.noConfusion : ¬ true = false)]

theorem exec_park_refused (h : moveBar s rob = some st) :
    exec (.park r site) s = .next (s.answered r 11 st .none id) := by
  refine congrArg _ (serve_refused hr ((atSite_holds (by simpa using hx) _).trans ?_))
  simp only [parkAnswer, takeRequest_moveBar, h]

theorem exec_home_refused (h : homeBar s rob = some st) :
    exec (.home r site) s = .next (s.answered r 12 st .none id) := by
  refine congrArg _ (serve_refused hr ((atSite_holds (by simpa using hx) _).trans ?_))
  simp only [homeAnswer, takeRequest_homeBar, h]

end

theorem exec_configure_refused {s : State} {r : Req} {number : Nat} {st : Status} (hr : sentTo .sequencer r)
    (hn : 1 ≤ number) (h : s.mode.moveBar = some st) :
    exec (.configure r number) s = .next (s.answered r 23 st .none id) := by
  refine congrArg _ (serve_refused hr ?_)
  simp only [configureAnswer, if_neg (Nat.ne_of_gt hn), takeRequest_mode, h]

end Sys2Proof.Machine

open Sys2Proof Sys2Proof.Machine

/-- Settles O22: the mode bars each of the four requests with its status, and in OPEN the robot bars a MOVE_TO or a
PARK. -/
theorem movesAreRefusedByModeAndRobot : Obligations.MovesAreRefusedByModeAndRobot := by
  intro s r site number x rob q c code hr hx hq hn
  have hmode : ∀ st, s.mode.moveBar = some st →
      (c, code) ∈ [(.moveTo r site q.alpha q.beta, 10), (.park r site, 11), (.home r site, 12),
        (.configure r number, (23 : Byte))] → exec c s = .next (s.answered r code st .none id) := by
    intro st hbar hc
    simp only [List.mem_cons, Prod.mk.injEq, List.not_mem_nil, or_false] at hc
    rcases hc with ⟨rfl, rfl⟩ | ⟨rfl, rfl⟩ | ⟨rfl, rfl⟩ | ⟨rfl, rfl⟩
    · exact exec_moveTo_refused hr hx hq (moveBar_mode hbar)
    · exact exec_park_refused hr hx (moveBar_mode hbar)
    · exact exec_home_refused hr hx (homeBar_mode hbar)
    · exact exec_configure_refused hr hn hbar
  have hrobot : ∀ st, moveBar s rob = some st →
      (c, code) ∈ [(.moveTo r site q.alpha q.beta, 10), (.park r site, (11 : Byte))] →
        exec c s = .next (s.answered r code st .none id) := by
    intro st hbar hc
    simp only [List.mem_cons, Prod.mk.injEq, List.not_mem_nil, or_false] at hc
    rcases hc with ⟨rfl, rfl⟩ | ⟨rfl, rfl⟩
    · exact exec_moveTo_refused hr hx hq hbar
    · exact exec_park_refused hr hx hbar
  refine ⟨fun hc => ⟨fun cause h => hmode _ (by rw [h]; rfl) hc, fun h => hmode _ ?_ hc⟩,
    fun hc hopen => ⟨fun h => hrobot _ ?_ hc, fun hen hm => hrobot _ ?_ hc⟩⟩
  · rcases h with h | h <;> rw [h] <;> rfl
  · rw [moveBar_opened hopen, if_pos h]
  · rw [moveBar_opened hopen, if_neg (by simp [hen, hm]), if_pos hm]
end

section
/-! MOVE_TO with no target lens (R74, R77, R81, R97, R125). -/

namespace Sys2Proof.Machine

section
variable {s : State} {site : Nat} {x : Site} {rob : Robot} {p : Pos} {kind : MoveKind} {limited : Bool}

/-- A move of no field that ends has its record made, and its robot's last outcome written (R96). -/
theorem State.recordEnd_eq {o : MoveOutcome} {reason : Option DenyReason} (hr : s.robots[site]? = some rob)
    (hkind : kind ≠ .field) : s.recordEnd site kind limited o reason =
      { s.modRobot site fun y => y.recorded kind o with
        outcomes := s.outcomes ++ [⟨site, kind, o, rob.believed, rob.epoch, limited, reason⟩] } := by
  unfold State.recordEnd
  simp only [hr, if_neg hkind]
  rfl

/-- An event that makes one record and after which no denial waits: the record joins the queue, or is lost with the
overflow latch set (R97). -/
theorem State.close_one {t : State} {o : OutcomeRecord} (hquiet : t.NoDenialWaits)
    (ho : t.outcomes = s.outcomes ++ [o]) : (s.outcomes.length < 128 → s.close t = t) ∧
      (128 ≤ s.outcomes.length → s.close t = { t with
        outcomes := s.outcomes
        overflow := true
        notices := { t.notices with outcomeOverflow := t.notices.outcomeOverflow || !t.overflow } }) := by
  rw [State.close, State.settle_quiet hquiet, closeEvent_one o ho]
  refine ⟨fun hroom => if_pos hroom, fun hfull => ?_⟩
  refine (if_neg (Nat.not_lt.mpr hfull)).trans ?_
  by_cases hlatch : t.overflow = true
  · rw [if_pos hlatch, hlatch, Bool.not_true, Bool.or_false, ← hlatch]
  · rw [if_neg hlatch, Bool.eq_false_of_not_eq_true hlatch, Bool.not_false, Bool.or_true]
    rfl

/-- What an end writes of its outcome denies nothing. -/
theorem Robot.recorded_deniedAtRest (r : Robot) (kind : MoveKind) (o : MoveOutcome) :
    (r.recorded kind o).deniedAtRest = r.deniedAtRest := by
  unfold Robot.recorded
  simp only
  split <;> rfl

/-- A move to where its robot is ends DONE at once (R77). -/
theorem State.admitMove_done (hr : s.robots[site]? = some rob) (hquiet : s.NoDenialWaits) (hbel : rob.believed = some p)
    (hkind : kind ≠ .field) :
    (s.outcomes.length < 128 → s.admitMove site kind x p p limited =
      ({ s.modRobot site fun y => y.recorded kind .done with
          outcomes := s.outcomes ++ [⟨site, kind, .done, some p, rob.epoch, limited, none⟩] }, .done)) ∧
    (128 ≤ s.outcomes.length → s.admitMove site kind x p p limited =
      ({ s.modRobot site fun y => y.recorded kind .done with
          overflow := true
          notices := { s.notices with outcomeOverflow := s.notices.outcomeOverflow || !s.overflow } }, .done)) := by
  let v : State := { s.modRobot site fun y => y.recorded kind .done with
    outcomes := s.outcomes ++ [⟨site, kind, .done, some p, rob.epoch, limited, none⟩] }
  have htry : s.tryMove site kind x p p limited = (v, .done) := by
    rw [State.tryMove, if_pos rfl, State.recordEnd_eq hr hkind, hbel]
  have hquiet' : v.NoDenialWaits := hquiet.modRobot (i := site) fun y hy =>
    (y.recorded_deniedAtRest kind .done).trans (hquiet y (List.mem_of_getElem? hy))
  obtain ⟨hroom, hfull⟩ := State.close_one (s := s) hquiet' rfl
  simp only [State.admitMove, htry]
  exact ⟨fun h => by rw [hroom h], fun h => by rw [hfull h]; rfl⟩

end

end Sys2Proof.Machine

open Sys2Proof Sys2Proof.Machine

/-- Settles O18: at its target the move ends DONE at its admission (`State.admitMove_done`), and with no target lens it
is QUEUED (`State.Admits.queued`). -/
theorem moveToEndsDoneOrIsQueued : Obligations.MoveToEndsDoneOrIsQueued := by
  intro s r site x rob p q hr hx hmode hen hst hm hbel hq hquiet legs
  have hdone := State.admitMove_done (s := s.takeRequest r.port r.tag 10) (x := x) (kind := .moveTo) (limited := false)
    (by simpa using hx.2) (by simpa [State.NoDenialWaits] using hquiet) hbel nofun
  refine ⟨?_, ?_, fun hne htarget => ?_⟩
  · rintro rfl hroom
    exact exec_moveTo_admitted (a := .done) _ hr hx hmode hen hst hm hbel hq (hdone.1 (by simpa using hroom))
  · rintro rfl hfull
    exact exec_moveTo_admitted (a := .done) _ hr hx hmode hen hst hm hbel hq (hdone.2 (by simpa using hfull))
  · have hadmits : (s.takeRequest r.port r.tag 10).Admits site x rob p q legs none :=
      State.Admits.taken ⟨hx.2, hquiet, hne, rfl, htarget⟩ _ _ _
    exact exec_moveTo_admitted (a := .legs legs.length) _ hr hx hmode hen hst hm hbel hq (hadmits.queued (.inl rfl))
end

section
/-! PARK and HOME (R75, R76, R78). -/

namespace Sys2Proof.Machine

/-! ### PARK (R75) -/

/-- A park beta is stowed (R75). -/
theorem State.parkBetaAt_stowed (s : State) (x : Site) : extended s.params.stowAngle (s.parkBetaAt x) = false := by
  rw [← Bool.not_eq_true, extended_iff, State.parkBetaAt]
  omega

/-- A plan that stows beta and keeps alpha is one STOW (R78). -/
theorem planLegs_stow {stow : Nat} {x : Site} {p : Pos} {beta : Nat} (hstow : extended stow beta = false)
    (hne : beta ≠ p.beta) : planLegs stow x p ⟨p.alpha, beta⟩ = [⟨.stow, none, some beta⟩] := by
  have htrim : trimCondition stow x p ⟨p.alpha, beta⟩ = false := by simp [trimCondition, hstow]
  simp [planLegs, htrim, stowLeg, slewLeg, deployLeg, hstow, hne]

section
variable {s : State} {r : Req} {site : Nat} {x : Site} {rob : Robot} {p : Pos}

/-- A PARK of an enabled IDLE robot is answered by its admission (R75). -/
theorem exec_park_admitted {a : Admission} (f : State → State) (hr : sentTo .sequencer r) (hx : s.Holds site x rob)
    (hmode : s.mode = .opened) (hen : rob.enabled = true) (hst : rob.state = .idle) (hm : rob.move = none)
    (hbel : rob.believed = some p) (h : (s.takeRequest r.port r.tag 11).admitMove site .park x p
      ⟨p.alpha, s.parkBetaAt x⟩ false = (f (s.takeRequest r.port r.tag 11), a)) :
    exec (.park r site) s = .next (s.answered r 11 .ok a.body f) := by
  have hpark : (s.takeRequest r.port r.tag 11).parkBetaAt x = s.parkBetaAt x := by simp [State.parkBetaAt]
  have hpos : rob.position = p := by simp [Robot.position, hbel]
  refine congrArg _ (serve_sequencer s r 11 _ _ _ f hr ((atSite_holds (by simpa using hx) _).trans ?_))
  simp only [parkAnswer, takeRequest_moveBar, moveBar_none hmode hen hm hst, hpos, hpark, admitAnswer, h, okWith]

end

/-! ### HOME (R76) -/

/-- A HOME that is taken forgets what its robot was at and queues its FOLD (R76, R78, R81). -/
theorem State.startHome_eq {s : State} {site : Nat} {rob : Robot} (hr : s.robots[site]? = some rob) :
    s.startHome site = (s.modRobot site fun y =>
      { y with alpha := none, beta := none, fault := none, state := .queued, pollTime := none,
               move := some (Move.fresh .home none [⟨.fold, none, none⟩, ⟨.seek, none, none⟩] none
                 false) }).modBus rob.bus fun b => { b with queueA := b.queueA ++ [site] } := by
  have hforget : (s.modRobot site fun r => { r.forget with fault := none }).robots[site]? =
      some { rob.forget with fault := none } := by simp [hr]
  rw [State.startHome, State.startMove_queued hforget rfl, State.enqueued, State.modRobot_modRobot]
  rfl

/-- A HOME that nothing bars is answered with its two legs (R76). -/
theorem exec_home_taken {s : State} {r : Req} {site : Nat} {x : Site} {rob : Robot} (f : State → State)
    (hr : sentTo .sequencer r) (hx : s.Holds site x rob) (hbar : homeBar s rob = none)
    (h : (s.takeRequest r.port r.tag 12).startHome site = f (s.takeRequest r.port r.tag 12)) :
    exec (.home r site) s = .next (s.answered r 12 .ok (.admitted 2) f) := by
  refine congrArg _ (serve_sequencer s r 12 _ _ _ f hr ((atSite_holds (by simpa using hx) _).trans ?_))
  simp only [homeAnswer, takeRequest_homeBar, hbar, h]
  rfl

end Sys2Proof.Machine

open Sys2Proof Sys2Proof.Machine

/-- Settles O21: a PARK's plan is one STOW or it ends DONE at its admission, and a HOME is barred by its robot or
queues its FOLD. -/
theorem parkAndHomeMoveFromTheirStates : Obligations.ParkAndHomeMoveFromTheirStates := by
  refine ⟨fun s r site x rob p hr hx hmode hen hst hm hbel hquiet => ?_, fun s r site x rob hr hx hmode => ?_⟩
  · intro beta
    have hstowed : extended s.params.stowAngle beta = false := s.parkBetaAt_stowed x
    refine ⟨hstowed, fun hne => ?_, fun heq hroom => ?_⟩
    · have htarget : s.planTarget site x [⟨.stow, none, some beta⟩] ⟨p.alpha, beta⟩ = none := rfl
      have hadmits : (s.takeRequest r.port r.tag 11).Admits site x rob p ⟨p.alpha, beta⟩ _ none :=
        State.Admits.taken ⟨hx.2, hquiet, fun h => hne (congrArg Pos.beta h), planLegs_stow hstowed hne, htarget⟩ _ _ _
      exact exec_park_admitted (a := .legs 1) _ hr hx hmode hen hst hm hbel (hadmits.queued (.inl rfl))
    · have hdone := (State.admitMove_done (s := s.takeRequest r.port r.tag 11) (x := x) (kind := .park)
        (limited := false) (by simpa using hx.2) (by simpa [State.NoDenialWaits] using hquiet) hbel nofun).1
          (by simpa using hroom)
      have hhere : (⟨p.alpha, s.parkBetaAt x⟩ : Pos) = p := by rw [show s.parkBetaAt x = p.beta from heq]
      exact exec_park_admitted (a := .done) _ hr hx hmode hen hst hm hbel (by rw [hhere]; exact hdone)
  · have hbar := homeBar_opened (rob := rob) hmode
    refine ⟨fun hen hm hst => ?_, fun hen => exec_home_refused hr hx (hbar.trans (if_pos hen)),
      fun hen hm => exec_home_refused hr hx (hbar.trans ?_),
      fun hen hm hi hf hl => exec_home_refused hr hx (hbar.trans ?_)⟩
    · exact exec_home_taken _ hr hx (hbar.trans (by simp [hen, hm, hst])) (State.startHome_eq (by simpa using hx.2))
    · rw [if_neg (by simp [hen]), if_pos hm]
    · simp [hen, hm, hi, hf, hl]
end

section
/-! The shutter opening in OPEN (R89, R93, R106, R107), and what it and the aborts make of a robot. -/

namespace Sys2Proof.Machine

/-! ### Moves that end or halt -/

/-- The robot is neither at rest with its move nor in a leg. -/
def Robot.calm (r : Robot) : Prop := r.atRest = false ∧ r.state ≠ .inLeg

/-- A robot that is calm is told nothing. -/
theorem Robot.Told.calm {r r' : Robot} (h : r.Told r') (hr : r.calm) : r' = r := by
  obtain ⟨hrest, hleg⟩ := hr
  refine h.same (fun hst => ?_) (fun hst => ?_) hleg <;> simp [Robot.atRest, hst] at hrest

theorem Robot.calm_of_moves {r : Robot} (h : r.state.moves = false) : r.calm :=
  ⟨Robot.atRest_of_moves h, fun hst => by simp [hst, RobotState.moves] at h⟩

theorem Robot.calm_of_halting {r : Robot} (h : r.state = .halting) : r.calm := by
  simp [Robot.calm, Robot.atRest, h]

/-- The close of an event leaves a calm robot as it is. -/
theorem State.close_calm {s t : State} {i : Nat} {r : Robot} (hr : t.robots[i]? = some r) (h : r.calm) :
    (s.close t).robots[i]? = some r := by
  obtain ⟨r', hr', ht⟩ := State.close_told (s := s) hr h.1
  rw [hr', ht.calm h]

/-- The move of `x` has been stopped: at rest it has ended with outcome `o`, in a leg it is being halted with this
cause, and a robot that was calm is as it was (R89, R93). -/
structure Robot.Stopped (cause : HaltCause) (o : MoveOutcome) (now : Nat) (x x' : Robot) : Prop where
  calm : x'.calm
  ended : x.atRest = true → x.EndedAtRest x' o
  halted : x.state = .inLeg → x.HaltedFrom x' cause now
  same : x.calm → x' = x

/-- A robot that enters HALTING with a cause (R89). -/
def Robot.haltFor (r : Robot) (cause : HaltCause) (now : Nat) : Robot :=
  { r with
    state := .halting
    move := r.move.map fun m => { m with haltCause := some cause, haltTime := some now, dispatch := none } }

theorem State.enterHalting_eq (s : State) (i : Nat) (cause : HaltCause) :
    s.enterHalting i cause = s.modRobot i fun r => r.haltFor cause s.now := rfl

namespace Robot.Told

variable {x x1 x' : Robot} {cause : HaltCause} {o : MoveOutcome} {now : Nat}

theorem stopped_atRest (ht : x.Told x1) (hrest : x.atRest = true) (h : x1.EndedAtRest x' o)
    (hmoves : x'.state.moves = false) : x.Stopped cause o now x' where
  calm := Robot.calm_of_moves hmoves
  ended _ := h.congr ht.move.symm
  halted hst := by simp [Robot.atRest, hst] at hrest
  same hc := by simp [hc.1] at hrest

theorem stopped_inLeg (ht : x.Told x1) (hst : x.state = .inLeg) : x.Stopped cause o now (x1.haltFor cause now) where
  calm := Robot.calm_of_halting rfl
  ended h := by simp [Robot.atRest, hst] at h
  halted _ := by
    refine ⟨rfl, by rw [ht.rest]; rfl, by rw [ht.rest]; rfl, fun m hm => ?_⟩
    obtain ⟨m1, hm1, heq⟩ := ht.someMove hm
    refine ⟨_, congrArg (Option.map _) hm1, rfl, rfl, rfl, ?_, ?_⟩ <;> rw [heq]
  same hc := (hc.2 hst).elim

theorem stopped_calm (hc : x.calm) : x.Stopped cause o now x where
  calm := hc
  ended h := by simp [hc.1] at h
  halted hst := (hc.2 hst).elim
  same _ := rfl

end Robot.Told

theorem Robot.atRest_or_inLeg_or_calm (x : Robot) : x.atRest = true ∨ x.state = .inLeg ∨ x.calm := by
  by_cases hrest : x.atRest = true
  · exact .inl hrest
  · exact .inr ((em _).imp_right fun hleg => ⟨Bool.eq_false_of_not_eq_true hrest, hleg⟩)

/-- A robot at rest has a move (R18, R72). -/
theorem State.MovesSound.atRest {s : State} (hs : s.MovesSound) {i : Nat} {x : Robot} (hx : s.robots[i]? = some x)
    (h : x.atRest = true) : ∃ m, x.move = some m :=
  Option.isSome_iff_exists.mp ((hs.at hx).trans (Robot.atRest_moves h))

/-! ### The walk over the sites (R107) -/

theorem State.haltSite_calm {s : State} {i : Nat} {r : Robot} {cause : HaltCause} (hr : s.robots[i]? = some r)
    (out : Option (MoveOutcome × Option DenyReason)) (hc : cause ≠ .restart) (h : r.calm) :
    s.haltSite cause out i = s := by
  rcases RobotState.moves_cases r with hst | hst | hst | hst
  · simp [h.1] at hst
  · exact (h.2 hst).elim
  · simp only [State.haltSite, hr, hst, if_neg hc]
  · exact State.haltSite_resting hr cause out hst

/-- A robot after the walk of an event that halts the moves, other than RESTART. -/
theorem State.halting_sites {s : State} {i : Nat} {x : Robot} {cause : HaltCause} (o : MoveOutcome)
    (hc : cause ≠ .restart) (hs : s.MovesSound) (hx : s.robots[i]? = some x) :
    ∃ x', (s.forSites (State.haltSite cause (some (o, none)))).robots[i]? = some x' ∧ x.Stopped cause o s.now x' := by
  obtain ⟨u, x1, hu, hx1, ht1, hafter⟩ :=
    Ebbs.forSites_robot (fun t j => State.haltSite_ebbs cause (some (o, none)) j t) hx
  rcases x.atRest_or_inLeg_or_calm with hrest | hst | hcalm
  · obtain ⟨m, hm⟩ := hs.atRest hx hrest
    obtain ⟨m1, hm1, -⟩ := ht1.someMove hm
    obtain ⟨x2, hx2, hend, -, hmoves⟩ := State.endAtRest_ended o none hx1 hm1
    obtain ⟨x3, hx3, ht3⟩ := hafter x2 (by rw [haltSite_atRest hx1 _ _ (ht1.atRest.trans hrest)]; exact hx2)
    cases ht3.resting hmoves
    exact ⟨x2, hx3, ht1.stopped_atRest hrest hend hmoves⟩
  · have hst1 : x1.state = .inLeg := (ht1.keepsState (by simp [hst])).trans hst
    obtain ⟨x3, hx3, ht3⟩ := hafter (x1.haltFor cause u.now)
      (by rw [haltSite_inLeg hx1 _ _ hst1, enterHalting_eq]; simp [hx1])
    have hnow : u.now = s.now := by rw [hu.frame]
    cases ht3.halting rfl
    exact ⟨_, hx3, hnow ▸ ht1.stopped_inLeg hst⟩
  · cases ht1.calm hcalm
    obtain ⟨x3, hx3, ht3⟩ := hafter x (by rw [haltSite_calm hx1 _ hc hcalm]; exact hx1)
    cases ht3.calm hcalm
    exact ⟨x, hx3, Robot.Told.stopped_calm hcalm⟩

/-! ### The whole event -/

/-- The ends of moves leave the notice MODE_CHANGE. -/
theorem State.Eases.modeChange {X : Prop} {O : MoveOutcome → Prop} {s t : State} (h : s.Eases X O t) :
    t.notices.modeChange = s.notices.modeChange := by
  induction h with
  | trans _ _ h1 h2 => exact h2.trans h1
  | quiet hbooks _ =>
    exact congrArg (fun b : List OutcomeRecord × Bool × FieldRecord × Timer × Notices => b.2.2.2.2.modeChange) hbooks
  | count s o _ =>
    unfold State.countFieldEnd State.endField
    split <;> rfl
  | refl | lens | record | queue => rfl

theorem State.Eases.haltSite {X : Prop} {O : MoveOutcome → Prop} (cause : HaltCause)
    {out : Option (MoveOutcome × Option DenyReason)} (h : OutIn O out) (i : Nat) (s : State) :
    s.Eases X O (s.haltSite cause out i) := by
  unfold State.haltSite
  split
  · exact .refl s
  · split
    · exact .endAtRest s i h
    · exact .endAtRest s i h
    · exact .modRobot s i _
    · split
      · exact .modRobot s i _
      · exact .refl s
    all_goals exact .refl s

theorem State.haltMoves_modeChange (s : State) (cause : HaltCause) (out : Option (MoveOutcome × Option DenyReason)) :
    (s.haltMoves cause out).notices.modeChange = s.notices.modeChange := by
  have hwalk : s.broadcastHalts.Eases False (fun _ => True) (s.haltMoves cause out) :=
    (Eases.forSites (fun t i => .haltSite cause (fun _ _ _ => trivial) i t) _).trans (.close _ _ trivial)
  rw [hwalk.modeChange, s.broadcastHalts_frame]

/-- A robot after an event that halts the moves, other than RESTART. -/
theorem State.haltMoves_robot {s : State} {i : Nat} {x : Robot} {cause : HaltCause} (o : MoveOutcome)
    (hc : cause ≠ .restart) (hs : s.MovesSound) (hx : s.robots[i]? = some x) :
    ∃ x', (s.haltMoves cause (some (o, none))).robots[i]? = some x' ∧ x.Stopped cause o s.now x' := by
  have hframe := s.broadcastHalts_frame
  obtain ⟨x', hx', h⟩ := State.halting_sites (s := s.broadcastHalts) (x := x) (i := i) o hc
    (by rw [hframe]; exact hs) (by rw [hframe]; exact hx)
  have hnow : s.broadcastHalts.now = s.now := by rw [hframe]
  exact ⟨x', State.close_calm hx' h.calm, hnow ▸ h⟩

/-- A bus with a robot in a leg has a broadcast HALT after such an event (R89). -/
theorem State.haltMoves_bus {s : State} {n : Nat} {b : Bus} (cause : HaltCause)
    (out : Option (MoveOutcome × Option DenyReason)) (hb : s.buses[n]? = some b)
    (h : ∃ x ∈ s.robots, x.bus = n ∧ x.state = .inLeg) :
    ∃ b', (s.haltMoves cause out).buses[n]? = some b' ∧ b'.haltBroadcast = true := by
  obtain ⟨v, hv, hset⟩ := State.broadcastHalts_bus hb
  have hwalk : s.broadcastHalts.Ebbs (fun _ => True) (fun _ => False)
      (s.broadcastHalts.forSites (State.haltSite cause out)) :=
    .forSites (fun t i => (State.haltSite_ebbs cause out i t).mono (fun _ _ => trivial) fun _ => id) _
  obtain ⟨E, hclose, -⟩ := s.broadcastHalts.close_ebbs (s.broadcastHalts.forSites (State.haltSite cause out))
  obtain ⟨b1, hb1, he1⟩ := hwalk.buses.get hv
  obtain ⟨b2, hb2, he2⟩ := hclose.buses.get hb1
  refine ⟨b2, hb2, ?_⟩
  rw [he2, he1]
  exact hset h

/-- The state in which the shutter's opening in OPEN finds the moves. -/
def State.shutterFrozen (s : State) : State := { s with inputs := s.inputs.openShutter }.enterMode (.frozen .shutter)

theorem exec_shutterOpened {s : State} (hmode : s.mode = .opened) (h : s.inputs.shutterOpen = false) :
    exec .shutterOpened s = .next (s.shutterFrozen.haltMoves .shutter (some (.halted, none))) := by
  refine (if_neg (by simp [h])).trans ?_
  exact if_pos hmode

theorem exec_shutterOpened_latched {s : State} (hmode : s.mode ≠ .opened) (h : s.inputs.shutterOpen = false) :
    exec .shutterOpened s = .next { s with inputs := s.inputs.openShutter } := by
  refine (if_neg (by simp [h])).trans ?_
  exact if_neg hmode

end Sys2Proof.Machine

open Sys2Proof Sys2Proof.Machine

/-- Settles O4: three changes are latched alone, and the shutter's opening in OPEN is a walk that leaves every robot
calm, so that the close of its event changes none. -/
theorem inputChangesActByTheMode : Obligations.InputChangesActByTheMode := by
  refine ⟨fun s => ⟨fun h => if_pos h, fun h => if_pos h, fun h hmode => exec_shutterOpened_latched hmode h⟩,
    fun s hmode h hs => ?_⟩
  have hengine := (Acts.haltMoves s.shutterFrozen .shutter (some (.halted, none))).engine
  have hnotice : s.shutterFrozen.notices.modeChange = true := by
    simp [State.shutterFrozen, State.enterMode, hmode, Mode.same]
  refine ⟨_, exec_shutterOpened hmode h, hengine, (State.haltMoves_modeChange _ _ _).trans hnotice, fun i r hr => ?_⟩
  obtain ⟨r', hr', hstop⟩ := State.haltMoves_robot (s := s.shutterFrozen) (cause := .shutter) .halted nofun hs hr
  exact ⟨r', hr', hstop.ended, fun hst => ⟨hstop.halted hst, fun b hb =>
    State.haltMoves_bus _ _ hb ⟨r, List.mem_of_getElem? hr, rfl, hst⟩⟩, fun hrest hleg => hstop.same ⟨hrest, hleg⟩⟩
end

section
/-! ABORT (R89, R91, R93, R96). -/

namespace Sys2Proof.Machine

/-! ### ABORT by the robot's state (R91) -/

section
variable {s : State} {site : Nat} {r : Robot} (hr : s.robots[site]? = some r)
include hr

theorem State.abortRobot_atRest (h : r.atRest = true) :
    s.abortRobot site = s.endAtRest site (some (.aborted, none)) := by
  have hst : r.state = .queued ∨ r.state = .waitLens := by simpa [Robot.atRest] using h
  unfold State.abortRobot
  simp only [hr, if_pos hst]

theorem State.abortRobot_inLeg (h : r.state = .inLeg) :
    s.abortRobot site = (s.queueHalt site).enterHalting site .abort := by
  unfold State.abortRobot
  simp [hr, h]

theorem State.abortRobot_calm (h : r.calm) : s.abortRobot site = s := by
  obtain ⟨hrest, hleg⟩ := h
  have hst : ¬ (r.state = .queued ∨ r.state = .waitLens) := by simpa [Robot.atRest] using hrest
  unfold State.abortRobot
  simp only [hr, if_neg hst, if_neg hleg]

end

/-! ### A robot with no part in a lens -/

/-- At a lens that a robot has no part in its move's end and its loss change nothing (R61, R62). -/
theorem State.Partless.lens {s : State} {site : Nat} (h : s.Partless site) (i : Nat) :
    s.moveEndLens site i = s ∧ s.lossLens site i = s := by
  unfold State.moveEndLens State.lossLens
  cases hl : s.lenses[i]? with
  | none => exact ⟨rfl, rfl⟩
  | some l => simp [h l (List.mem_of_getElem? hl)]

theorem State.Partless.moveEndLenses {s : State} {site : Nat} (h : s.Partless site) : s.moveEndLenses site = s :=
  List.foldl_fixed' (fun i => (h.lens i).1) _

theorem State.Partless.lossConvert {s : State} {site : Nat} (h : s.Partless site) : s.lossConvert site = s :=
  List.foldl_fixed' (fun i => (h.lens i).2) _

theorem State.leaveQueues_robots (s : State) (site : Nat) : (s.leaveQueues site).robots = s.robots := by
  unfold State.leaveQueues
  split <;> rfl

theorem State.countFieldEnd_robots (s : State) (o : MoveOutcome) : (s.countFieldEnd o).robots = s.robots := by
  unfold State.countFieldEnd State.endField
  split <;> rfl

/-- The record of an end denies nothing. -/
theorem State.NoDenialWaits.recordEnd {s : State} (h : s.NoDenialWaits) (site : Nat) (kind : MoveKind) (limited : Bool)
    (o : MoveOutcome) (reason : Option DenyReason) : (s.recordEnd site kind limited o reason).NoDenialWaits := by
  unfold State.recordEnd
  split
  · exact h
  · next r _ =>
    have hmod : ((s.appendOutcome ⟨site, kind, o, r.believed, r.epoch, limited, reason⟩).modRobot site
        fun x => x.recorded kind o).NoDenialWaits := NoDenialWaits.modRobot (s := s.appendOutcome _) h fun x hx =>
      (x.recorded_deniedAtRest kind o).trans (h x (List.mem_of_getElem? hx))
    simp only
    split
    · exact fun x hx => hmod x (State.countFieldEnd_robots _ o ▸ hx)
    · exact hmod

/-- The end of a move denies nobody where its robot has no part in a lens (R61). -/
theorem State.NoDenialWaits.finishMove {s : State} (h : s.NoDenialWaits) {site : Nat} (hp : s.Partless site)
    (st : RobotState) (out : Option (MoveOutcome × Option DenyReason)) : (s.finishMove site st out).NoDenialWaits := by
  have hleft : (s.leaveQueues site).NoDenialWaits := fun x hx => h x (s.leaveQueues_robots site ▸ hx)
  have hmod : ((s.leaveQueues site).modRobot site
      fun r => { r with state := st, move := none, pollTime := none }).NoDenialWaits :=
    hleft.modRobot fun _ _ => Robot.deniedAtRest_none rfl
  unfold State.finishMove
  rw [hp.moveEndLenses]
  split
  · exact h
  · simp only
    split
    · exact hmod
    · exact hmod.recordEnd _ _ _ _ _

theorem State.NoDenialWaits.endAtRest {s : State} (h : s.NoDenialWaits) {site : Nat} (hp : s.Partless site)
    (out : Option (MoveOutcome × Option DenyReason)) : (s.endAtRest site out).NoDenialWaits := by
  have hforget : (s.modRobot site fun r => { r.forget with anchor := none }).NoDenialWaits :=
    h.modRobot fun x hx => h x (List.mem_of_getElem? hx)
  have hp' : (s.modRobot site fun r => { r.forget with anchor := none }).Partless site := hp
  unfold State.endAtRest
  split
  · exact h
  · next r hr =>
    split
    · exact h
    · next m hm =>
      split
      · simp only [State.loseWith, hr, Option.bind_some, hm, hp'.lossConvert]
        exact hforget.finishMove hp' _ _
      · exact h.finishMove hp _ _

/-! ### A move that ABORT ends at rest -/

/-- What an ABORT of a move at rest comes to, with the records of its event (R91, R93, R96, R97). -/
theorem State.aborting_atRest {s : State} {site : Nat} {rob : Robot} {m : Move} (hr : s.robots[site]? = some rob)
    (hm : rob.move = some m) (hrest : rob.atRest = true) (hquiet : s.NoDenialWaits) :
    (∃ y, (s.close (s.abortRobot site)).robots[site]? = some y ∧ rob.EndedAtRest y .aborted) ∧
    ((s.close (s.abortRobot site)).outcomes.length < 128 → ∃ final,
      ⟨site, m.kind, .aborted, final, rob.epoch, m.limited, none⟩ ∈
        (s.close (s.abortRobot site)).outcomes.drop s.outcomes.length) ∧
    (s.outcomes.length < 128 → s.Partless site → ∃ final, (s.close (s.abortRobot site)).outcomes =
      s.outcomes ++ [⟨site, m.kind, .aborted, final, rob.epoch, m.limited, none⟩]) := by
  obtain ⟨y, hy, hend, -, hmoves⟩ := State.endAtRest_ended .aborted none hr hm
  obtain ⟨final, hrec⟩ := State.endAtRest_outcomes .aborted none hr hm
  rw [State.abortRobot_atRest hr hrest]
  generalize ht : s.endAtRest site (some (.aborted, none)) = t at *
  refine ⟨⟨y, State.close_same hy hmoves, hend⟩, fun hroom => ⟨final, ?_⟩, fun hroom hp => ⟨final, ?_⟩⟩
  · obtain ⟨records, hmore⟩ := State.settleDenials_outcomes t.robots.length t
    rw [hrec, List.append_assoc] at hmore
    exact closeEvent_mem hmore List.mem_cons_self hroom
  · rw [(State.close_one (ht ▸ hquiet.endAtRest hp _) hrec).1 hroom, hrec]

/-! ### The request -/

section
variable (s : State) (p : PortId) (x : Response)

@[simp] theorem State.respond_robots : (s.respond p x).robots = s.robots := State.modPort_robots _ _ _

@[simp] theorem State.respond_buses : (s.respond p x).buses = s.buses := State.modPort_buses _ _ _

@[simp] theorem State.respond_outcomes : (s.respond p x).outcomes = s.outcomes := State.modPort_outcomes _ _ _

end

section
variable {s : State} {r : Req} {site : Nat} {x : Site} {rob : Robot} (hr : sentTo .sequencer r)
  (hx : s.Holds site x rob)
include hr hx

theorem exec_abort_noMove (h : rob.move = none) : exec (.abort r site) s = .next (s.answered r 13 .noMove .none id) :=
  congrArg _ (serve_refused hr ((atSite_holds (by simpa using hx) _).trans (if_pos h)))

/-- An ABORT of a robot with a move is an event of its own (R91, R96). -/
theorem exec_abort_taken (f : State → State) (h : rob.move ≠ none)
    (hf : (s.takeRequest r.port r.tag 13).close ((s.takeRequest r.port r.tag 13).abortRobot site) =
      f (s.takeRequest r.port r.tag 13)) : exec (.abort r site) s = .next (s.answered r 13 .ok .none f) := by
  refine congrArg _ (serve_sequencer s r 13 _ _ _ f hr ((atSite_holds (by simpa using hx) _).trans ?_))
  simp only [if_neg h, hf, okWith]

end

/-- ABORT of a robot in its leg halts it and queues its HALT (R89, R91). -/
theorem State.aborting_inLeg {s : State} {site : Nat} {rob : Robot} {m : Move} (hr : s.robots[site]? = some rob)
    (hm : rob.move = some m) (hst : rob.state = .inLeg) (hquiet : s.NoDenialWaits) :
    s.close (s.abortRobot site) = (s.modBus rob.bus fun b =>
      if b.haltAddressed.contains site then b
      else { b with haltAddressed := b.haltAddressed ++ [site] }).modRobot site fun y =>
        { y with
          state := .halting
          move := some { m with haltCause := some .abort, haltTime := some s.now, dispatch := none } } := by
  have hhalting : ((s.queueHalt site).enterHalting site .abort).NoDenialWaits :=
    NoDenialWaits.modRobot (s := s.queueHalt site) hquiet fun _ _ => rfl
  rw [State.abortRobot_inLeg hr hst, State.close_quiet' (s := s) hhalting rfl, State.queueHalt,
    State.busOf_eq hr]
  refine State.modRobot_congr (s := s.modBus rob.bus _) hr ?_
  rw [hm]
  rfl

end Sys2Proof.Machine
end


section
/-! ABORT_FIELD (R92), and both aborts together. -/

namespace Sys2Proof.Machine

/-! ### Steps of the walk -/

/-- `t` comes from `s` as moves end or halt: the robots of `E` may give up what they have, and addressed HALTs are
queued. -/
structure State.Stops (E : Nat → Prop) (s t : State) : Prop where
  now : t.now = s.now
  robots : Matched (fun i => Robot.Ebbs (E i)) s.robots t.robots
  halts : Matched (fun _ b b' => ∀ i ∈ b.haltAddressed, i ∈ b'.haltAddressed) s.buses t.buses

theorem State.Ebbs.stops {E X : Nat → Prop} {s t : State} (h : s.Ebbs E X t) : s.Stops E t where
  now := by rw [h.frame]
  robots := h.robots
  halts := h.buses.mono fun _ b b' hb i hi => by rw [hb]; exact hi

namespace State.Stops

variable {E E' : Nat → Prop} {s t u : State}

theorem refl (s : State) : s.Stops E s := (Ebbs.refl (X := fun _ => False) s).stops

theorem trans (h1 : s.Stops E t) (h2 : t.Stops E u) : s.Stops E u where
  now := h2.now.trans h1.now
  robots := h1.robots.trans
    (fun _ _ _ _ a b => ⟨fun he => (a.told he).trans (b.told he), fun h => a.noNew (b.noNew h)⟩) h2.robots
  halts := h1.halts.trans (fun _ _ _ _ a b i hi => b i (a i hi)) h2.halts

theorem mono (hE : ∀ j, E j → E' j) (h : s.Stops E t) : s.Stops E' t :=
  { h with robots := h.robots.mono fun i _ _ hr => ⟨fun he => hr.told fun h => he (hE i h), hr.noNew⟩ }

theorem told (h : s.Stops E t) {i : Nat} {r : Robot} (hr : s.robots[i]? = some r) (hi : ¬ E i) :
    ∃ r', t.robots[i]? = some r' ∧ r.Told r' := by
  obtain ⟨r', hr', he⟩ := h.robots.get hr
  exact ⟨r', hr', he.told hi⟩

theorem foldl_mem {f : State → Nat → State} {l : List Nat} (h : ∀ j ∈ l, ∀ s : State, s.Stops E (f s j)) (s : State) :
    s.Stops E (l.foldl f s) := by
  induction l generalizing s with
  | nil => exact refl s
  | cons j l ih =>
    exact (h j List.mem_cons_self s).trans (ih (fun k hk => h k (List.mem_cons_of_mem _ hk)) (f s j))

/-- A walk over the sites in which each gives up at most what is its own, taken apart at one of them. -/
theorem forSites_at {act : Nat → State → State} (h : ∀ (u : State) j, u.Stops (fun k => k = j) (act j u)) {i : Nat}
    (hi : i < s.robots.length) :
    ∃ u, s.Stops (fun j => j < i) u ∧ (act i u).Stops (fun j => i < j) (s.forSites act) := by
  refine ⟨(List.range i).foldl (fun t j => act j t) s, foldl_mem (fun j hj u => ?_) s, ?_⟩
  · exact (h u j).mono fun k (hk : k = j) => hk.trans_lt (List.mem_range.mp hj)
  · rw [State.forSites, range_split hi, List.foldl_append, List.foldl_cons]
    exact foldl_mem (fun j hj u => (h u j).mono fun k (hk : k = j) =>
      hk ▸ Nat.lt_of_succ_le (List.mem_range'_1.mp hj).1) _

/-- An addressed HALT is queued (R155). -/
theorem queueHalt (s : State) (site : Nat) : s.Stops E (s.queueHalt site) where
  now := rfl
  robots := (refl s).robots
  halts := .modify (fun _ _ _ => id) fun b _ i hi => by
    split
    · exact hi
    · exact List.mem_append_left _ hi

theorem enterHalting (s : State) {site : Nat} (cause : HaltCause) (h : E site) :
    s.Stops E (s.enterHalting site cause) :=
  (Ebbs.robot (X := fun _ => False) s fun r _ => ⟨fun hn => absurd h hn, fun hm => by simpa using hm⟩).stops

theorem abortRobot (s : State) {site : Nat} (h : E site) : s.Stops E (s.abortRobot site) := by
  unfold State.abortRobot
  split
  · exact refl s
  · split
    · exact (Ebbs.endAtRest (X := fun _ => False) s _ h).stops
    · split
      · exact (queueHalt s site).trans (enterHalting _ _ h)
      · exact refl s

end State.Stops

/-! ### One site (R92) -/

/-- What ABORT_FIELD does to a site, by the moves it found. -/
def State.abortFieldSite (before : State) (i : Nat) (u : State) : State :=
  if before.robots[i]?.any Robot.inField then u.abortRobot i else u

/-- ABORT_FIELD as an event. -/
def State.abortingField (s : State) : State := s.sweep s.abortFieldSite

theorem State.abortFieldSite_stops (before : State) (i : Nat) (u : State) :
    u.Stops (fun k => k = i) (before.abortFieldSite i u) := by
  unfold State.abortFieldSite
  split
  · exact .abortRobot u rfl
  · exact .refl u

theorem State.abortFieldSite_of {s : State} {i : Nat} {x : Robot} (hx : s.robots[i]? = some x) (u : State) :
    s.abortFieldSite i u = if x.inField = true then u.abortRobot i else u := by
  simp [State.abortFieldSite, hx]

/-- An addressed HALT of the site waits at the bus. -/
def State.HaltQueued (t : State) (bus i : Nat) : Prop := ∀ b, t.buses[bus]? = some b → i ∈ b.haltAddressed

theorem State.queueHalt_queued {s : State} {i : Nat} {r : Robot} (hr : s.robots[i]? = some r) :
    (s.queueHalt i).HaltQueued r.bus i := by
  intro b hb
  rw [State.queueHalt_eq hr, State.modBus_buses, List.getElem?_modify_eq] at hb
  obtain ⟨b0, -, rfl⟩ := Option.map_eq_some_iff.mp hb
  by_cases h : i ∈ b0.haltAddressed <;> simp [h]

theorem State.HaltQueued.stops {E : Nat → Prop} {s t : State} {bus i : Nat} (h : s.HaltQueued bus i)
    (ht : s.Stops E t) : t.HaltQueued bus i := by
  intro b hb
  obtain ⟨b0, hb0, hsub⟩ := ht.halts.get' hb
  exact hsub i (h b0 hb0)

/-- A robot after the walk of ABORT_FIELD: one with a FIELD move is stopped, with its HALT queued where it was in a
leg, and any other is told at most (R91, R92). -/
theorem State.abortingField_sites {s : State} {i : Nat} {x : Robot} (hs : s.MovesSound) (hx : s.robots[i]? = some x) :
    ∃ x', (s.forSites s.abortFieldSite).robots[i]? = some x' ∧
      (x.inField = true → x.Stopped .abort .aborted s.now x') ∧
      (x.inField = true → x.state = .inLeg → (s.forSites s.abortFieldSite).HaltQueued x.bus i) ∧
      (x.inField = false → x.Told x') := by
  obtain ⟨u, hu, hafter⟩ := Stops.forSites_at (fun t j => s.abortFieldSite_stops j t)
    (List.getElem?_eq_some_iff.mp hx).1
  obtain ⟨x1, hx1, ht1⟩ := hu.told hx (lt_irrefl i)
  rw [State.abortFieldSite_of hx] at hafter
  by_cases hf : x.inField = true
  · rw [if_pos hf] at hafter
    simp only [hf, forall_const, Bool.true_eq_false, false_implies, and_true]
    rcases x.atRest_or_inLeg_or_calm with hrest | hst | hcalm
    · obtain ⟨m, hm⟩ := hs.atRest hx hrest
      obtain ⟨m1, hm1, -⟩ := ht1.someMove hm
      obtain ⟨x2, hx2, hend, -, hmoves⟩ := State.endAtRest_ended .aborted none hx1 hm1
      rw [State.abortRobot_atRest hx1 (ht1.atRest.trans hrest)] at hafter
      obtain ⟨x3, hx3, ht3⟩ := hafter.told hx2 (lt_irrefl i)
      cases ht3.resting hmoves
      exact ⟨x2, hx3, ht1.stopped_atRest hrest hend hmoves, fun hst => by simp [Robot.atRest, hst] at hrest⟩
    · rw [State.abortRobot_inLeg hx1 ((ht1.keepsState (by simp [hst])).trans hst), State.enterHalting_eq] at hafter
      have hx2 : ((u.queueHalt i).modRobot i fun r => r.haltFor .abort u.now).robots[i]? =
          some (x1.haltFor .abort u.now) := by simp [State.queueHalt, hx1]
      obtain ⟨x3, hx3, ht3⟩ := hafter.told hx2 (lt_irrefl i)
      cases ht3.halting rfl
      have hbus : x1.bus = x.bus := by rw [ht1.rest]
      have hqueued : ((u.queueHalt i).modRobot i fun r => r.haltFor .abort u.now).HaltQueued x.bus i :=
        hbus ▸ State.queueHalt_queued hx1
      exact ⟨_, hx3, hu.now ▸ ht1.stopped_inLeg hst, fun _ => hqueued.stops hafter⟩
    · cases ht1.calm hcalm
      rw [State.abortRobot_calm hx1 hcalm] at hafter
      obtain ⟨x3, hx3, ht3⟩ := hafter.told hx1 (lt_irrefl i)
      cases ht3.calm hcalm
      exact ⟨x, hx3, Robot.Told.stopped_calm hcalm, fun hst => (hcalm.2 hst).elim⟩
  · rw [if_neg hf] at hafter
    obtain ⟨x3, hx3, ht3⟩ := hafter.told hx1 (lt_irrefl i)
    exact ⟨x3, hx3, fun h => (hf h).elim, fun h => (hf h).elim, fun _ => ht1.trans ht3⟩

/-! ### The whole event -/

/-- A robot after ABORT_FIELD. -/
theorem State.abortingField_robot {s : State} {i : Nat} {x : Robot} (hs : s.MovesSound) (hx : s.robots[i]? = some x) :
    ∃ x', s.abortingField.robots[i]? = some x' ∧
      (x.inField = true → x.Stopped .abort .aborted s.now x') ∧
      (x.inField = true → x.state = .inLeg → s.abortingField.HaltQueued x.bus i) ∧
      (x.inField = false → x.atRest = false → x.Told x') := by
  obtain ⟨x1, hx1, hstop, hqueued, htold⟩ := State.abortingField_sites hs hx
  obtain ⟨E, hclose, -⟩ := s.close_ebbs (s.forSites s.abortFieldSite)
  by_cases hf : x.inField = true
  · exact ⟨x1, State.close_calm hx1 (hstop hf).calm, hstop, fun _ hst => (hqueued hf hst).stops hclose.stops,
      fun h => by simp [hf] at h⟩
  · have ht1 := htold (Bool.eq_false_of_not_eq_true hf)
    by_cases hrest : x.atRest = true
    · obtain ⟨x2, hx2, -⟩ := hclose.robots.get hx1
      exact ⟨x2, hx2, fun h => (hf h).elim, fun h => (hf h).elim, fun _ h => by simp [hrest] at h⟩
    · obtain ⟨x2, hx2, ht2⟩ := State.close_told (s := s) hx1 (ht1.atRest.trans (Bool.eq_false_of_not_eq_true hrest))
      exact ⟨x2, hx2, fun h => (hf h).elim, fun h => (hf h).elim, fun _ _ => ht1.trans ht2⟩

/-- ABORT_FIELD as one step, in which the HALTs that wait stay queued. -/
theorem State.abortingField_stops (s : State) : s.Stops (fun _ => True) s.abortingField := by
  obtain ⟨E, hclose, -⟩ := s.close_ebbs (s.forSites s.abortFieldSite)
  exact (Stops.foldl_mem (fun i _ u => (s.abortFieldSite_stops i u).mono fun _ _ => trivial) s).trans
    (hclose.stops.mono fun _ _ => trivial)

theorem Acts.abortingField (s : State) : Acts s s.abortingField :=
  .sweep s _ fun i u => by
    unfold State.abortFieldSite
    split
    · exact .abortRobot u i
    · exact .refl u

/-! ### The request -/

@[simp] theorem takeRequest_fieldCount (s : State) (p : PortId) (tag code : Byte) (f : RobotState → Bool) :
    (s.takeRequest p tag code).fieldCount f = s.fieldCount f := by
  simp only [State.fieldCount, takeRequest_robots]

section
variable {s : State} {r : Req} (hr : sentTo .sequencer r)
include hr

theorem exec_abortField_noMove (h : ∀ x ∈ s.robots, x.inField = false) :
    exec (.abortField r) s = .next (s.answered r 14 .noMove .none id) := by
  refine congrArg _ (serve_refused hr (if_neg ?_))
  simpa using h

theorem exec_abortField_taken (h : ∃ x ∈ s.robots, x.inField = true) : exec (.abortField r) s =
    .next (s.answered r 14 .ok (.stopped (s.robots.countP fun x => x.inField && x.atRest)
      (s.robots.countP fun x => x.inField && x.state == .inLeg)) State.abortingField) := by
  refine congrArg _ (serve_sequencer s r 14 _ _ _ State.abortingField hr ((if_pos ?_).trans ?_))
  · simpa using h
  · rw [takeRequest_fieldCount, takeRequest_fieldCount]
    rfl

end

end Sys2Proof.Machine

open Sys2Proof Sys2Proof.Machine

/-- Settles O23: ABORT by the robot's state, each an event of its own; ABORT_FIELD as a walk in which each site with a
FIELD move gives up at most its own. -/
theorem abortsActByTheRobotsState : Obligations.AbortsActByTheRobotsState := by
  refine ⟨fun s r site x rob hr hx hquiet => ⟨exec_abort_noMove hr hx, fun m hm => ?_⟩,
    fun s r hr hs hquiet => ⟨exec_abortField_noMove hr, fun hany htakes => ?_⟩⟩
  · let v := s.takeRequest r.port r.tag 13
    have hv : v.robots[site]? = some rob := by simpa [v] using hx.2
    have hquiet' : v.NoDenialWaits := by simpa [v, State.NoDenialWaits] using hquiet
    have hsome : rob.move ≠ none := by simp [hm]
    refine ⟨fun hst => ?_, fun hst => ?_, fun hrest htakes => ?_⟩
    · refine exec_abort_taken hr hx id hsome ?_
      rw [State.abortRobot_calm hv (Robot.calm_of_halting hst)]
      exact State.close_quiet' hquiet' rfl
    · refine exec_abort_taken hr hx _ hsome ((State.aborting_inLeg hv hm hst hquiet').trans ?_)
      rw [takeRequest_now]
    · obtain ⟨hrobot, hrecord, honly⟩ := State.aborting_atRest hv hm hrest hquiet'
      refine ⟨_, exec_abort_taken hr hx (fun t => t.close (t.abortRobot site)) hsome rfl,
        State.answered_engine htakes (Acts.close (.abortRobot v site)).engine, ?_⟩
      simp only [answered_takes _ _ _ _ _ _ htakes, State.respond_robots, State.respond_outcomes]
      simp only [v, takeRequest_outcomes] at hrecord honly
      exact ⟨hrobot, hrecord, fun hroom hp => honly hroom (by simpa [State.Partless] using hp)⟩
  · let v := s.takeRequest r.port r.tag 14
    have hs' : v.MovesSound := by simpa [v, State.MovesSound] using hs
    refine ⟨_, exec_abortField_taken hr hany, State.answered_engine htakes (Acts.abortingField v).engine,
      fun i x hx => ?_⟩
    obtain ⟨x', hx', hstop, hqueued, htold⟩ := State.abortingField_robot (s := v) hs' (i := i) (x := x)
      (by simpa [v] using hx)
    have hnow : v.now = s.now := takeRequest_now ..
    simp only [answered_takes _ _ _ _ _ _ htakes, State.respond_robots, State.respond_buses]
    refine ⟨x', hx', fun hf => (hstop hf).ended, fun hf hst => ⟨hnow ▸ (hstop hf).halted hst, fun b hb => ?_⟩,
      fun hst => ?_, fun hf hst => ?_⟩
    · obtain ⟨b', hb', -⟩ := v.abortingField_stops.halts.get (i := x.bus) (x := b) (by simpa [v] using hb)
      exact ⟨b', hb', hqueued hf hst b' hb'⟩
    · have hcalm : x.calm := hst.elim Robot.calm_of_halting fun hm =>
        Robot.calm_of_moves (by rw [← hs.at hx, hm]; rfl)
      by_cases hf : x.inField = true
      · exact (hstop hf).same hcalm
      · exact (htold (Bool.eq_false_of_not_eq_true hf) hcalm.1).calm hcalm
    · rw [(htold hf (by simp [Robot.atRest, hst])).keepsState (by simp [hst]), hst]
end

section
/-! LOAD_TARGETS (R109, R110, R125). -/

namespace Sys2Proof.Machine

/-! ### One entry -/

/-- An entry is good where its site is on the map and its target lies within the site's limits (R110). -/
theorem State.targetGood_iff (s : State) (e : TargetArg) :
    s.targetGood e = true ↔ ∃ x, s.site? e.site = some x ∧ x.allows e.alpha e.beta = true := by
  cases h : s.site? e.site <;> simp [State.targetGood, h]

@[simp] theorem takeRequest_targetGood (s : State) (p : PortId) (tag code : Byte) (e : TargetArg) :
    (s.takeRequest p tag code).targetGood e = s.targetGood e := by
  simp only [State.targetGood, takeRequest_site]

section
variable {s : State} {e : TargetArg}

theorem State.writeTarget_bad (h : ¬ s.targetGood e = true) : s.writeTarget e = s := if_neg h

theorem State.writeTarget_good (h : s.targetGood e = true) : s.writeTarget e =
    { s.modRobot e.site Robot.resetIterations with
      targets := s.targets.set e.site (some ⟨e.alpha, e.beta⟩) } := if_pos h

/-- An entry changes the target table and the robots alone. -/
theorem State.writeTarget_frame (s : State) (e : TargetArg) :
    ∃ targets robots, s.writeTarget e = { s with targets := targets, robots := robots } := by
  by_cases h : s.targetGood e = true
  · exact ⟨_, _, State.writeTarget_good h⟩
  · exact ⟨_, _, State.writeTarget_bad h⟩

/-- Which entries are good does not depend on one written before. -/
theorem State.writeTarget_targetGood (s : State) (e x : TargetArg) :
    (s.writeTarget e).targetGood x = s.targetGood x := by
  obtain ⟨targets, robots, h⟩ := s.writeTarget_frame e
  rw [h]
  rfl

/-- An entry leaves the sites that it does not write. -/
theorem State.writeTarget_other {i : Nat} (h : e.site = i → ¬ s.targetGood e = true) :
    (s.writeTarget e).targets[i]? = s.targets[i]? ∧ (s.writeTarget e).robots[i]? = s.robots[i]? := by
  by_cases hg : s.targetGood e = true
  · have hi : e.site ≠ i := fun hi => h hi hg
    simp [State.writeTarget_good hg, hi]
  · rw [State.writeTarget_bad hg]
    exact ⟨rfl, rfl⟩

end

/-! ### The entries in order -/

/-- The entries change the target table and the robots alone. -/
theorem State.writeTargets_frame (entries : List TargetArg) (s : State) :
    ∃ targets robots, entries.foldl State.writeTarget s = { s with targets := targets, robots := robots } := by
  induction entries generalizing s with
  | nil => exact ⟨_, _, rfl⟩
  | cons e rest ih =>
    obtain ⟨targets, robots, h⟩ := s.writeTarget_frame e
    rw [List.foldl_cons, h]
    exact ih _

theorem State.writeTargets_targetGood (entries : List TargetArg) (s : State) (x : TargetArg) :
    (entries.foldl State.writeTarget s).targetGood x = s.targetGood x := by
  obtain ⟨targets, robots, h⟩ := State.writeTargets_frame entries s
  rw [h]
  rfl

theorem State.writeTargets_length (entries : List TargetArg) (s : State) :
    (entries.foldl State.writeTarget s).targets.length = s.targets.length := by
  induction entries generalizing s with
  | nil => rfl
  | cons e rest ih =>
    rw [List.foldl_cons, ih]
    by_cases h : s.targetGood e = true
    · rw [State.writeTarget_good h]
      exact List.length_set
    · rw [State.writeTarget_bad h]

/-- A site that no good entry names is left as it was. -/
theorem State.writeTargets_other {entries : List TargetArg} {s : State} {i : Nat}
    (h : ∀ e ∈ entries, e.site = i → ¬ s.targetGood e = true) :
    (entries.foldl State.writeTarget s).targets[i]? = s.targets[i]? ∧
      (entries.foldl State.writeTarget s).robots[i]? = s.robots[i]? := by
  induction entries generalizing s with
  | nil => exact ⟨rfl, rfl⟩
  | cons e rest ih =>
    obtain ⟨htarget, hrobot⟩ := State.writeTarget_other (h e List.mem_cons_self)
    obtain ⟨htargets, hrobots⟩ := ih (s := s.writeTarget e) fun x hx hi => by
      rw [State.writeTarget_targetGood]
      exact h x (List.mem_cons_of_mem _ hx) hi
    exact ⟨htargets.trans htarget, hrobots.trans hrobot⟩

/-- The entries change of a robot at most what a reset of its iteration count sets (R125). -/
theorem State.writeTargets_resets (entries : List TargetArg) (s : State) (i : Nat) :
    ((entries.foldl State.writeTarget s).robots[i]?).map Robot.resetIterations =
      (s.robots[i]?).map Robot.resetIterations := by
  induction entries generalizing s with
  | nil => rfl
  | cons e rest ih =>
    rw [List.foldl_cons, ih]
    by_cases h : e.site = i ∧ s.targetGood e = true
    · obtain ⟨rfl, hg⟩ := h
      rw [State.writeTarget_good hg, State.modRobot_robots, List.getElem?_modify_eq]
      exact Option.map_map ..
    · rw [(State.writeTarget_other fun hi hg => h ⟨hi, hg⟩).2]

/-- The last good entry for a site stands (R110). -/
theorem State.writeTargets_last {earlier later : List TargetArg} {s : State} {e : TargetArg}
    (hlen : e.site < s.targets.length) (hgood : s.targetGood e = true)
    (hlast : ∀ x ∈ later, x.site = e.site → ¬ s.targetGood x = true) :
    ((earlier ++ e :: later).foldl State.writeTarget s).targets[e.site]? = some (some ⟨e.alpha, e.beta⟩) ∧
      ((earlier ++ e :: later).foldl State.writeTarget s).robots[e.site]? =
        (s.robots[e.site]?).map Robot.resetIterations := by
  let u := earlier.foldl State.writeTarget s
  have hwritten := State.writeTarget_good ((State.writeTargets_targetGood earlier s e).trans hgood)
  obtain ⟨htargets, hrobots⟩ := State.writeTargets_other (s := u.writeTarget e) (entries := later) (i := e.site)
    fun x hx hi => by
      rw [State.writeTarget_targetGood, State.writeTargets_targetGood]
      exact hlast x hx hi
  rw [List.foldl_append, List.foldl_cons]
  refine ⟨htargets.trans ?_, hrobots.trans ?_⟩
  · rw [hwritten]
    exact List.getElem?_set_self ((State.writeTargets_length earlier s).symm ▸ hlen)
  · rw [hwritten, State.modRobot_robots, List.getElem?_modify_eq]
    exact State.writeTargets_resets earlier s e.site

/-! ### The answer and the request -/

section
variable {s : State} {e : TargetArg}

theorem State.targetStatus_good (h : s.targetGood e = true) : s.targetStatus e = .ok := if_pos h

theorem State.targetStatus_bad (h : ¬ s.targetGood e = true) : s.targetStatus e = .badArg := if_neg h

end

/-- The number written is that of the entries answered OK (R110). -/
theorem State.targetStatus_countP (s : State) (entries : List TargetArg) :
    (entries.map s.targetStatus).countP (· == .ok) = entries.countP s.targetGood := by
  rw [List.countP_map]
  refine congrArg (List.countP · entries) (funext fun e => ?_)
  cases h : s.targetGood e <;> simp [State.targetStatus, h]

@[simp] theorem takeRequest_targetStatus (s : State) (p : PortId) (tag code : Byte) :
    (s.takeRequest p tag code).targetStatus = s.targetStatus :=
  funext fun e => by simp only [State.targetStatus, takeRequest_targetGood]

section
variable {s : State} {r : Req} {entries : List TargetArg} (hr : sentTo .sequencer r) (hmap : s.map ≠ none)
include hr hmap

theorem exec_loadTargets_badArg (h : entries = [] ∨ 64 < entries.length) :
    exec (.loadTargets r entries) s = .next (s.answered r 21 .badArg .none id) := by
  have hlist : entries.isEmpty = true ∨ 64 < entries.length := by simpa using h
  refine congrArg _ (serve_refused hr ?_)
  simp only [loadTargetsAnswer, takeRequest_map, Option.isNone_iff_eq_none, hmap, if_false, if_pos hlist]

theorem exec_loadTargets_taken (f : State → State) (hne : entries ≠ []) (hlen : entries.length ≤ 64)
    (hf : entries.foldl State.writeTarget (s.takeRequest r.port r.tag 21) = f (s.takeRequest r.port r.tag 21)) :
    exec (.loadTargets r entries) s = .next (s.answered r 21 .ok
      (.targets (entries.map s.targetStatus) ((entries.map s.targetStatus).countP (· == .ok))) f) := by
  have hlist : ¬ (entries.isEmpty = true ∨ 64 < entries.length) := by simp [hne, hlen]
  refine congrArg _ (serve_sequencer s r 21 _ _ _ f hr ?_)
  simp only [loadTargetsAnswer, takeRequest_map, Option.isNone_iff_eq_none, hmap, if_false, if_neg hlist,
    ← State.targetStatus_countP, takeRequest_targetStatus, hf, okWith]

end

/-- A site of the map has a place below the site count (R1). -/
theorem State.site_lt {s : State} {i : Nat} {x : Site} (h : s.site? i = some x) : i < s.siteCount := by
  obtain ⟨m, hm, hi⟩ := Option.bind_eq_some_iff.mp h
  simpa [State.siteCount, hm] using (List.getElem?_eq_some_iff.mp hi).1

@[simp] theorem State.respond_targets (s : State) (p : PortId) (x : Response) :
    (s.respond p x).targets = s.targets := State.modPort_targets _ _ _

end Sys2Proof.Machine

open Sys2Proof Sys2Proof.Machine

/-- Settles O27: each entry is written or not by itself, and behind the last good entry for a site none touches it. -/
theorem loadTargetsWritesTheGoodEntries : Obligations.LoadTargetsWritesTheGoodEntries := by
  intro s r entries hr hmap htable good
  refine ⟨exec_loadTargets_badArg hr hmap, fun hne hlen htakes => ?_⟩
  let v := s.takeRequest r.port r.tag 21
  have hgood : ∀ e, good e ↔ s.targetGood e = true := fun e => (s.targetGood_iff e).symm
  have hbad : ∀ e, ¬ good e → ¬ v.targetGood e = true := fun e h => by simpa [v, hgood] using h
  obtain ⟨targets, robots, hframe⟩ := State.writeTargets_frame entries v
  refine ⟨_, entries.map s.targetStatus,
    exec_loadTargets_taken hr hmap (fun u => { u with targets := targets, robots := robots }) hne hlen hframe, ?_⟩
  simp only [answered_takes _ _ _ _ _ _ htakes, State.respond_targets, State.respond_robots, true_and]
  refine ⟨List.length_map _, fun k e hk => ⟨fun h => ?_, fun h => ?_⟩, fun i hi => ?_,
    fun earlier e later hsplit he hlast => ?_⟩
  · rw [List.getElem?_map, hk, Option.map_some, State.targetStatus_good ((hgood e).mp h)]
  · rw [List.getElem?_map, hk, Option.map_some, State.targetStatus_bad fun hg => h ((hgood e).mpr hg)]
  · have h := State.writeTargets_other (s := v) fun e he hs => hbad e (hi e he hs)
    rw [hframe, takeRequest_targets, takeRequest_robots] at h
    exact h
  · obtain ⟨x, hx, -⟩ := id he
    have hin : e.site < v.targets.length := by simpa [v, htable] using State.site_lt hx
    have h := State.writeTargets_last (earlier := earlier) hin (by simpa [v, hgood] using he)
      fun y hy hs => hbad y (hlast y hy hs)
    rw [← hsplit, hframe, takeRequest_robots] at h
    exact h
end

section
/-! CLEAR_TARGETS, and a CONFIGURE of a map with no target (R111, R113). -/

namespace Sys2Proof.Machine

/-! ### The request -/

section
variable {s : State} {r : Req} (hr : sentTo .sequencer r)
include hr

theorem exec_clearTargets_noMap (h : s.map = none) :
    exec (.clearTargets r) s = .next (s.answered r 22 .noMap .none id) :=
  congrArg _ (serve_refused hr (if_pos (by simp [h])))

theorem exec_clearTargets_taken (h : s.map ≠ none) : exec (.clearTargets r) s =
    .next (s.answered r 22 .ok (.count (s.targets.countP Option.isSome)) fun u =>
      { u with targets := List.replicate s.targets.length none }) := by
  refine congrArg _ (serve_sequencer s r 22 _ _ _
    (fun u => { u with targets := List.replicate s.targets.length none }) hr ((if_neg (by simpa using h)).trans ?_))
  simp only [okWith, State.targetCount, takeRequest_targets, List.map_const']

end

/-! ### A CONFIGURE with no target -/

/-- No site has a target. -/
def State.Targetless (s : State) : Prop := ∀ (i : Nat) (q : Pos), s.targets[i]? ≠ some (some q)

theorem State.targetless_of_replicate {s : State} {n : Nat} (h : s.targets = List.replicate n none) : s.Targetless := by
  intro i q hq
  have := List.eq_of_mem_replicate (h ▸ List.mem_of_getElem? hq)
  cases this

/-- The state with `k` more sites counted not-attempted. -/
def State.notAttempting (s : State) (k : Nat) : State :=
  { s with field := { s.field with notAttempted := s.field.notAttempted + k } }

/-- A site without a target is not attempted (R113). -/
theorem State.Targetless.configureSite {s : State} (h : s.Targetless) (i : Nat) :
    Machine.configureSite i s = (s.notAttempting 1, 0) :=
  configureSite_notAttempted (fun ⟨_, q, _, _, hq, _⟩ => h i q hq) fun ⟨_, q, _, _, _, hq, _⟩ => h i q hq

/-- With no target, every site is counted not-attempted. -/
theorem State.Targetless.configureSites {s : State} (h : s.Targetless) :
    Machine.configureSites s = (s.notAttempting s.robots.length, 0) := by
  unfold Machine.configureSites
  generalize s.robots.length = n
  induction n with
  | zero => rfl
  | succ n ih =>
    have hn : (s.notAttempting n).Targetless := h
    rw [List.range_succ, List.foldl_append, ih, List.foldl_cons, hn.configureSite]
    rfl

/-- A field begins with the counts that the walk over the sites leaves (R113). -/
theorem configureField_of_sites {s t : State} {number d : Nat}
    (h : configureSites { s with field := { FieldRecord.reset with number := number } } = (t, d)) :
    State.FieldBegun (configureField number s).1 t.field s.params.deadlinePreset := by
  unfold configureField
  rw [h]
  exact State.fieldBegun _ _ _

/-- The field of a CONFIGURE with no target (R113). -/
theorem State.Targetless.configureField {s : State} (h : s.Targetless) (number : Nat) :
    (Machine.configureField number s).1.field =
      { FieldRecord.reset with
        number := number, notAttempted := s.robots.length
        state := (Machine.configureField number s).1.field.state } := by
  have hnone : State.Targetless { s with field := { FieldRecord.reset with number := number } } := h
  rw [(configureField_of_sites hnone.configureSites).counts]
  simp only [State.notAttempting, FieldRecord.reset, Nat.zero_add]

end Sys2Proof.Machine

open Sys2Proof Sys2Proof.Machine

/-- Settles O28: a map with no target leaves a CONFIGURE no site to attempt. -/
theorem clearTargetsEmptiesTheTable : Obligations.ClearTargetsEmptiesTheTable := by
  intro s r hr
  refine ⟨exec_clearTargets_noMap hr, fun hmap htakes =>
    ⟨_, exec_clearTargets_taken hr hmap, rfl, fun number hn hmode hmove ht => ?_⟩⟩
  rw [answered_takes _ _ _ _ _ _ htakes] at ht ⊢
  generalize hgen : State.respond _ r.port _ = t at ht ⊢
  have hmode' : t.mode = .opened := by simpa [← hgen, State.respond] using hmode
  have hrobots : t.robots = s.robots := by simp [← hgen]
  have htargets : t.targets = List.replicate s.targets.length none := by simp [← hgen, State.respond]
  have hquiet : t.anyMove = false := Bool.eq_false_of_not_eq_true fun h => by
    obtain ⟨x, hx, hne⟩ := t.anyMove_iff.mp h
    exact hne (hmove x (hrobots ▸ hx))
  obtain ⟨u, hexec, hfield, -⟩ := execConfigure_taken (number := number) hr hn hmode' hquiet ht
  have hnone : (t.takeRequest r.port r.tag 23).Targetless :=
    State.targetless_of_replicate ((takeRequest_targets ..).trans htargets)
  rw [hnone.configureField, takeRequest_robots, hrobots] at hfield
  refine ⟨u, hexec, ?_⟩
  rw [hfield]
  exact ⟨rfl, rfl, rfl, rfl⟩
end

section
/-! OPEN, FREEZE, THAW and RESUME (R99 to R103). -/

namespace Sys2Proof.Machine

/-! ### Each request's answer, an equation for each mode -/

section
variable {t : State} {c : FrozenCause}

theorem openAnswer_opened (h : t.mode = .opened) : openAnswer t = refuseWith t .ok := by
  simp only [openAnswer, h]
  rfl

theorem openAnswer_wrongMode (h : (∃ c, t.mode = .frozen c) ∨ t.mode = .halted) :
    openAnswer t = refuseWith t .wrongMode := by
  rcases h with ⟨c, h⟩ | h <;> simp only [openAnswer, h]

theorem openAnswer_init (h : t.mode = .init) : openAnswer t =
    if t.map.isNone then refuseWith t .noMap
    else if t.inputs.shutterOpen then refuseWith t .shutter
    else okWith (t.enterMode .opened) .none := by
  simp only [openAnswer, h]

theorem freezeAnswer_opened (h : t.mode = .opened) : freezeAnswer t =
    if t.anyMove then refuseWith t .busy else okWith (t.enterMode (.frozen .freeze)) .none := by
  simp only [freezeAnswer, h]

theorem freezeAnswer_frozen (h : t.mode = .frozen c) : freezeAnswer t = refuseWith t .ok := by
  simp only [freezeAnswer, h]
  rfl

theorem freezeAnswer_wrongMode (h : t.mode = .init ∨ t.mode = .halted) :
    freezeAnswer t = refuseWith t .wrongMode := by
  rcases h with h | h <;> simp only [freezeAnswer, h]

theorem thawAnswer_frozen (h : t.mode = .frozen c) : thawAnswer t =
    if t.inputs.shutterOpen then refuseWith t .shutter else okWith (t.enterMode .opened) .none := by
  simp only [thawAnswer, h]

theorem thawAnswer_opened (h : t.mode = .opened) : thawAnswer t = refuseWith t .ok := by
  simp only [thawAnswer, h]
  rfl

theorem thawAnswer_wrongMode (h : t.mode = .init ∨ t.mode = .halted) :
    thawAnswer t = refuseWith t .wrongMode := by
  rcases h with h | h <;> simp only [thawAnswer, h]

theorem resumeAnswer_wrongMode (h : t.mode ≠ .halted) : resumeAnswer t = refuseWith t .wrongMode := if_pos h

theorem resumeAnswer_halted (h : t.mode = .halted) : resumeAnswer t =
    if t.inputs.stopAsserted then refuseWith t .notReady
    else if t.map.isNone then refuseWith t .noMap
    else if t.inputs.shutterOpen then refuseWith t .shutter
    else okWith (t.enterMode .opened) .none := if_neg fun hne => hne h

end

/-! ### A request that changes the mode -/

/-- Another mode is entered with MODE_CHANGE (R99). -/
theorem State.enterMode_other {s : State} {m : Mode} (h : s.mode.same m = false) : s.enterMode m =
    { s with mode := m, notices := { s.notices with modeChange := true } } := by
  simp [State.enterMode, h]

/-- A request on the sequencer port whose owning rule enters another mode. -/
theorem serve_enters {s : State} {r : Req} {act : State → Answer} {m : Mode} {code : Byte} (hr : sentTo .sequencer r)
    (hmode : s.mode.same m = false)
    (h : act (s.takeRequest r.port r.tag code) = okWith ((s.takeRequest r.port r.tag code).enterMode m) .none) :
    s.serve r code .sequencerOnly act = s.answered r code .ok .none fun t =>
      { t with mode := m, notices := { t.notices with modeChange := true } } := by
  refine serve_sequencer s r code _ _ _
    (fun t => { t with mode := m, notices := { t.notices with modeChange := true } }) hr (h.trans ?_)
  rw [State.enterMode_other (by rw [takeRequest_mode]; exact hmode)]
  rfl

end Sys2Proof.Machine

open Sys2Proof Sys2Proof.Machine

/-- Settles O25: each request's answer is read off by the mode it finds, and in that mode by its checks in their
order. -/
theorem modeRequestsFollowTheirTables : Obligations.ModeRequestsFollowTheirTables := by
  intro s r hr goes stays
  let v (code : Byte) : State := s.takeRequest r.port r.tag code
  have hmode : ∀ code, (v code).mode = s.mode := fun _ => takeRequest_mode ..
  have refuses : ∀ {c code st} {act : State → Answer},
      exec c s = .next (s.serve r code .sequencerOnly act) → act (v code) = refuseWith (v code) st → stays c code st :=
    fun hc h => hc.trans (congrArg _ (serve_refused hr h))
  have enters : ∀ {c code m} {act : State → Answer}, exec c s = .next (s.serve r code .sequencerOnly act) →
      s.mode.same m = false → act (v code) = okWith ((v code).enterMode m) .none → goes c code m :=
    fun hc hm h => hc.trans (congrArg _ (serve_enters hr hm h))
  have anyMove : (∃ x ∈ s.robots, x.move ≠ none) → (v 17).anyMove = true := fun h =>
    (takeRequest_anyMove ..).trans (s.anyMove_iff.mpr h)
  have noMove : (∀ x ∈ s.robots, x.move = none) → ¬ (v 17).anyMove = true := fun h hm => by
    obtain ⟨x, hx, hne⟩ := s.anyMove_iff.mp ((takeRequest_anyMove ..).symm.trans hm)
    exact hne (h x hx)
  have opens : s.mode = .init → _ := fun h => openAnswer_init ((hmode 16).trans h)
  have freezes : s.mode = .opened → _ := fun h => freezeAnswer_opened ((hmode 17).trans h)
  have thaws : ∀ {c}, s.mode = .frozen c → _ := fun h => thawAnswer_frozen ((hmode 18).trans h)
  have resumes : s.mode = .halted → _ := fun h => resumeAnswer_halted ((hmode 19).trans h)
  refine ⟨fun h => ?_, fun h => ?_, fun h hm => ?_, fun h hm hs => ?_, fun h hm hs => ?_, fun h hx => ?_,
    fun h hx => ?_, fun ⟨c, h⟩ => ?_, fun h => ?_, fun ⟨c, h⟩ hs => ?_, fun ⟨c, h⟩ hs => ?_, fun h => ?_, fun h => ?_,
    fun h => ?_, fun h hs => ?_, fun h hs hm => ?_, fun h hs hm ho => ?_, fun h hs hm ho => ?_⟩
  · exact refuses rfl (openAnswer_opened ((hmode _).trans h))
  · exact refuses rfl (openAnswer_wrongMode (by rwa [hmode]))
  · exact refuses rfl ((opens h).trans (by simp [v, hm]))
  · exact refuses rfl ((opens h).trans (by simp [v, hm, hs]))
  · exact enters rfl (by rw [h]; rfl) ((opens h).trans (by simp [v, hm, hs]))
  · exact refuses rfl ((freezes h).trans (if_pos (anyMove hx)))
  · exact enters rfl (by rw [h]; rfl) ((freezes h).trans (if_neg (noMove hx)))
  · exact refuses rfl (freezeAnswer_frozen ((hmode _).trans h))
  · exact refuses rfl (freezeAnswer_wrongMode (by rwa [hmode]))
  · exact refuses rfl ((thaws h).trans (by simp [v, hs]))
  · exact enters rfl (by rw [h]; rfl) ((thaws h).trans (by simp [v, hs]))
  · exact refuses rfl (thawAnswer_opened ((hmode _).trans h))
  · exact refuses rfl (thawAnswer_wrongMode (by rwa [hmode]))
  · exact refuses rfl (resumeAnswer_wrongMode (by rwa [hmode]))
  · exact refuses rfl ((resumes h).trans (by simp [v, hs]))
  · exact refuses rfl ((resumes h).trans (by simp [v, hs, hm]))
  · exact refuses rfl ((resumes h).trans (by simp [v, hs, hm, ho]))
  · exact enters rfl (by rw [h]; rfl) ((resumes h).trans (by simp [v, hs, hm, ho]))
end

section
/-! RE_ANCHOR (R65, R128, R129). -/

namespace Sys2Proof.Machine

/-! ### The reconciliation test of a position that is asserted (R65, R128) -/

@[simp] theorem takeRequest_facingLens (s : State) (port : PortId) (tag code : Byte) (site : Nat) (p : Pos) :
    (s.takeRequest port tag code).facingLens site p = s.facingLens site p := by
  simp [State.facingLens, State.lensToward]

@[simp] theorem takeRequest_consistent (s : State) (port : PortId) (tag code : Byte) (site : Nat) (p : Pos) :
    (s.takeRequest port tag code).consistent site p = s.consistent site p := by
  simp only [State.consistent, State.lensHas, takeRequest_facingLens, takeRequest_lenses]

/-- Only a position that extends toward a lens is inconsistent (R65), so its facing lens is the one of its sector. -/
theorem State.facingLens_of_not_consistent {s : State} {site : Nat} {x : Site} {p : Pos} (hx : s.site? site = some x)
    (h : s.consistent site p = false) : s.facingLens site p = s.lensToward site (x.sector p.alpha) := by
  have hface := State.facingLens_eq p hx
  by_cases hext : s.params.stowAngle < p.beta
  · rw [hface, if_pos hext]
  · have hpass : s.consistent site p = true := by simp [State.consistent, hface.trans (if_neg hext)]
    exact absurd (hpass.symm.trans h) nofun

/-! ### The checks in their order (R128), and what is taken (R129) -/

section
variable {t : State} {site : Nat} {p : Pos} {x : Site} {rob : Robot}

theorem reAnchorAnswer_outside (h : x.allows p.alpha p.beta = false) :
    reAnchorAnswer site p x rob t = refuseWith t .badArg := if_pos h

variable (h : x.allows p.alpha p.beta = true)
include h

theorem reAnchorAnswer_notLost (hst : rob.state ≠ .lost .power) :
    reAnchorAnswer site p x rob t = refuseWith t .notReady := by
  simp [reAnchorAnswer, h, hst]

variable (hst : rob.state = .lost .power)
include hst

theorem reAnchorAnswer_inconsistent (hx : t.site? site = some x) (hc : t.consistent site p = false) :
    reAnchorAnswer site p x rob t =
      ⟨t, .inconsistent, .inconsistent (x.sector p.alpha) ((t.lensToward site (x.sector p.alpha)).bind t.lensView)⟩ := by
  rw [← State.facingLens_of_not_consistent hx hc]
  simp [reAnchorAnswer, h, hst, hc]

theorem reAnchorAnswer_taken (hr : t.robots[site]? = some rob) (hc : t.consistent site p = true) :
    reAnchorAnswer site p x rob t =
      okWith ((t.modRobot site fun y => { y with state := .anchoring, anchor := some p }).modBus rob.bus
        fun b => { b with pendingOps := b.pendingOps ++ [.setCounts site p] }) (.reAnchoring rob.epoch) := by
  simp [reAnchorAnswer, h, hst, hc, State.startAnchor, State.busOf_eq hr]

end

/-- A RE_ANCHOR of a robot on the map is answered by its rule. -/
theorem exec_reAnchor_answered {s : State} {r : Req} {site : Nat} {x : Site} {rob : Robot} {p : Pos} {st : Status}
    {b : Body} (f : State → State) (hr : sentTo .metrology r) (hx : s.Holds site x rob)
    (h : reAnchorAnswer site p x rob (s.takeRequest r.port r.tag 27) = ⟨f (s.takeRequest r.port r.tag 27), st, b⟩) :
    exec (.reAnchor r site p.alpha p.beta) s = .next (s.answered r 27 st b f) :=
  congrArg _ (serve_metrology s r 27 _ _ _ f hr ((atSite_holds (by simpa using hx) _).trans h))

end Sys2Proof.Machine

open Sys2Proof Sys2Proof.Machine

/-- Settles O33: each check of R128 is reached where those before it pass, and what passes them all is taken. -/
theorem reAnchorQueuesSetCounts : Obligations.ReAnchorQueuesSetCounts := by
  intro s r site x rob p hr hx
  have hheld : (s.takeRequest r.port r.tag 27).Holds site x rob := by simpa using hx
  have hcons := takeRequest_consistent s r.port r.tag 27 site p
  have hlens : ((s.takeRequest r.port r.tag 27).lensToward site (x.sector p.alpha)).bind
      (s.takeRequest r.port r.tag 27).lensView = (s.lensToward site (x.sector p.alpha)).bind s.lensView := by
    rw [(takeRequest_views s r.port r.tag 27).2.2, State.lensToward, State.lensToward, takeRequest_siteLens]
  refine ⟨fun hout => ?_, fun hin hst => ?_, fun hin hst hc => ?_, fun hin hst hc => ?_⟩
  · exact exec_reAnchor_answered id hr hx (reAnchorAnswer_outside hout)
  · exact exec_reAnchor_answered id hr hx (reAnchorAnswer_notLost hin hst)
  · rw [← hlens]
    exact exec_reAnchor_answered id hr hx (reAnchorAnswer_inconsistent hin hst hheld.1 (hcons.trans hc))
  · exact exec_reAnchor_answered _ hr hx (reAnchorAnswer_taken hin hst hheld.2 (hcons.trans hc))
end

section
/-! What a departure from UP makes of each lens, and what the moves that then end leave alone: the links that are down,
PEER_CHANGE, and the parts of remote sides (R61, R62, R93, R145). -/

namespace Sys2Proof.Machine

/-! ### One member of a list -/

/-- Two changes of a member are the same where they agree on it. -/
theorem modify_congr {α : Type} {l : List α} {i : Nat} {f g : α → α} (h : ∀ x, l[i]? = some x → f x = g x) :
    l.modify i f = l.modify i g := by
  refine List.ext_getElem? fun j => ?_
  rw [List.getElem?_modify, List.getElem?_modify]
  by_cases hij : i = j
  · subst hij
    cases hx : l[i]? with
    | none => rfl
    | some x => simp [h x hx]
  · simp [hij]

/-- Two changes of a link unit are the same where they agree on it. -/
theorem State.modLink_congr {s : State} {n : Nat} {l : Link} {f g : Link → Link} (hl : s.links[n]? = some l)
    (h : f l = g l) : s.modLink n f = s.modLink n g := by
  have hlinks : s.links.modify n f = s.links.modify n g := modify_congr fun x hx => by
    cases hl.symm.trans hx
    exact h
  exact congrArg (fun links => { s with links }) hlinks

/-! ### A departure lens by lens (R145) -/

/-- What a departure of link `n` makes of a lens (R145). -/
def Lens.departed (n : Nat) (l : Lens) : Lens :=
  if l.link = some n then
    match l.body with
    | .decided d =>
      if d.waiter.isSome && d.waiter == l.remoteParty then { l with body := .decided d.dropWaiter } else l
    | .client c => if c.claim = .claiming then { l with body := .client { c with claim := .none, deadline := none } } else l
  else l

theorem State.denyRobot_lenses (s : State) (site : Nat) (reason : DenyReason) :
    (s.denyRobot site reason).lenses = s.lenses := by
  unfold State.denyRobot
  split
  · rfl
  · split <;> rfl

theorem State.departLens_lenses (s : State) (n i : Nat) :
    (s.departLens n i).lenses = s.lenses.modify i (Lens.departed n) := by
  have changed {l : Lens} {b : LensBody} (hl : s.lenses[i]? = some l) (h : l.departed n = { l with body := b }) :
      (s.modLens i fun _ => b).lenses = s.lenses.modify i (Lens.departed n) := modify_congr fun x hx => by
    cases hl.symm.trans hx
    exact h.symm
  have same {l : Lens} (hl : s.lenses[i]? = some l) (h : l.departed n = l) :
      s.lenses = s.lenses.modify i (Lens.departed n) := by
    rw [modify_congr (g := id) fun x hx => by cases hl.symm.trans hx; exact h, List.modify_id]
  unfold State.departLens
  cases hl : s.lenses[i]? with
  | none => exact (List.modify_eq_self (List.getElem?_eq_none_iff.mp hl)).symm
  | some l =>
    simp only
    split
    · next hlink =>
      split
      · next d hb =>
        split
        · next hw => exact changed hl (by simp [Lens.departed, hlink, hb, hw])
        · next hw => exact same hl (by simp [Lens.departed, hlink, hb, hw])
      · next c hb =>
        split
        · next hc =>
          rw [State.denyRobot_lenses]
          exact changed hl (by simp [Lens.departed, hlink, hb, hc])
        · next hc => exact same hl (by simp [Lens.departed, hlink, hb, hc])
    · next hlink => exact same hl (by simp [Lens.departed, hlink])

/-- A departure acts on every lens of its link (R145). -/
theorem State.depart_lenses (s : State) (n : Nat) : (s.depart n).lenses = s.lenses.map (Lens.departed n) := by
  have hwalk : ∀ (places : List Nat) (t : State), (places.foldl (fun t i => t.departLens n i) t).lenses =
      places.foldl (fun l i => l.modify i (Lens.departed n)) t.lenses := by
    intro places
    induction places with
    | nil => exact fun t => rfl
    | cons i rest ih => exact fun t => by rw [List.foldl_cons, ih, State.departLens_lenses, List.foldl_cons]
  refine List.ext_getElem? fun i => ?_
  refine (congrArg (·[i]?) (hwalk _ (s.modLink n Link.departed))).trans ?_
  rw [foldl_modify_getElem? (fun _ => Lens.departed n) List.nodup_range, List.getElem?_map]
  by_cases hi : i < s.lenses.length <;> simp [hi]

/-! ### The part of a side in a record -/

/-- Side `p` has the part in `d'` that it has in `d`: its pin, and, where it does not wait, its holding. -/
structure Decided.KeepsSide (p : Party) (d d' : Decided) : Prop where
  pin : d'.pinned p = d.pinned p
  holder : d.waiter ≠ some p → d'.waiter ≠ some p ∧ ∀ kind, d'.holder = some (p, kind) ↔ d.holder = some (p, kind)

namespace Decided.KeepsSide

variable {p q : Party} {d d' d'' : Decided}

theorem refl (p : Party) (d : Decided) : d.KeepsSide p d := ⟨rfl, fun h => ⟨h, fun _ => .rfl⟩⟩

theorem trans (h1 : d.KeepsSide p d') (h2 : d'.KeepsSide p d'') : d.KeepsSide p d'' where
  pin := h2.pin.trans h1.pin
  holder hw := by
    obtain ⟨hw1, hh1⟩ := h1.holder hw
    obtain ⟨hw2, hh2⟩ := h2.holder hw1
    exact ⟨hw2, fun kind => (hh2 kind).trans (hh1 kind)⟩

theorem dropWaiter (p : Party) (d : Decided) : d.KeepsSide p d.dropWaiter :=
  ⟨by cases p <;> rfl, fun _ => ⟨nofun, fun _ => .rfl⟩⟩

/-- The other side gives up its holding (R59). -/
theorem release {k : HoldKind} (hd : d.holder = some (q, k)) (hpq : p ≠ q) : d.KeepsSide p d.release := by
  obtain ⟨holder, pinA, pinB, waiter, deadline⟩ := d
  cases hd
  cases waiter with
  | none => exact ⟨by cases p <;> rfl, fun _ => ⟨nofun, fun kind => by simp [Decided.release, Ne.symm hpq]⟩⟩
  | some w =>
    refine ⟨by cases p <;> rfl, fun hw => ⟨nofun, fun kind => ?_⟩⟩
    have hwp : w ≠ p := fun h => hw (congrArg some h)
    simp [Decided.release, Ne.symm hpq, hwp]

/-- The other side's holding turns into its pin (R62). -/
theorem toPin {k : HoldKind} (hd : d.holder = some (q, k)) (hpq : p ≠ q) : d.KeepsSide p (d.toPin q) := by
  refine ⟨?_, fun _ => ⟨nofun, fun kind => ?_⟩⟩
  · cases p with
    | a => cases q with
      | a => exact absurd rfl hpq
      | b => rfl
    | b => cases q with
      | a => rfl
      | b => exact absurd rfl hpq
  · simp [Decided.toPin, hd, Ne.symm hpq]

end Decided.KeepsSide

/-- What a record has become keeps the part of side `p`. -/
def LensBody.KeepsSide (p : Party) (b b' : LensBody) : Prop :=
  ∀ d, b = .decided d → ∃ d', b' = .decided d' ∧ d.KeepsSide p d'

theorem LensBody.KeepsSide.refl (p : Party) (b : LensBody) : b.KeepsSide p b := fun d hd => ⟨d, hd, .refl p d⟩

theorem LensBody.KeepsSide.trans {p : Party} {b b' b'' : LensBody} (h1 : b.KeepsSide p b') (h2 : b'.KeepsSide p b'') :
    b.KeepsSide p b'' := fun d hd => by
  obtain ⟨d1, hd1, hk1⟩ := h1 d hd
  obtain ⟨d2, hd2, hk2⟩ := h2 d1 hd1
  exact ⟨d2, hd2, hk1.trans hk2⟩

/-- The same lens, in which the remote side has kept its part. -/
structure Lens.KeepsRemote (l l' : Lens) : Prop where
  a : l'.a = l.a
  b : l'.b = l.b
  body : ∀ p, l.remoteParty = some p → l.body.KeepsSide p l'.body

theorem Lens.KeepsRemote.refl (l : Lens) : l.KeepsRemote l := ⟨rfl, rfl, fun p _ => .refl p _⟩

theorem Lens.KeepsRemote.trans {l l' l'' : Lens} (h1 : l.KeepsRemote l') (h2 : l'.KeepsRemote l'') :
    l.KeepsRemote l'' where
  a := h2.a.trans h1.a
  b := h2.b.trans h1.b
  body p hp := (h1.body p hp).trans (h2.body p (by simpa [Lens.remoteParty, h1.a, h1.b] using hp))

theorem Lens.KeepsRemote.departed (n : Nat) (l : Lens) : l.KeepsRemote (l.departed n) := by
  unfold Lens.departed
  split
  · split
    · next d hb =>
      split
      · exact ⟨rfl, rfl, fun p _ e he => by
          cases hb.symm.trans he
          exact ⟨_, rfl, .dropWaiter p d⟩⟩
      · exact .refl l
    · next c hb =>
      split
      · exact ⟨rfl, rfl, fun p _ d hd => nomatch hb.symm.trans hd⟩
      · exact .refl l
  · exact .refl l

/-- A robot of this sector stands for a side that is not the remote one (R4). -/
theorem Lens.partyOf_ne_remote {l : Lens} {site : Nat} {p q : Party} (hq : l.partyOf site = some q)
    (hp : l.remoteParty = some p) : p ≠ q := by
  obtain ⟨a, b, body⟩ := l
  rintro rfl
  cases a <;> cases b <;> cases p <;> simp_all [Lens.remoteParty, Lens.partyOf, LensSide.link]

/-! ### Entering a link state -/

/-- PEER_CHANGE stays latched as a link enters a state. -/
theorem State.enterLink_peerChange {s : State} (n : Nat) (st : LinkState) (f : Link → Link)
    (h : s.notices.peerChange = true) : (s.enterLink n st f).notices.peerChange = true := by
  unfold State.enterLink
  split
  · exact h
  · simp only
    split
    · exact h
    · rfl

/-! ### What ends of moves leave alone -/

/-- `t` keeps of `s` the sides of the lenses and the parts of the remote ones, the links that are down, and a
PEER_CHANGE that is latched. -/
structure State.KeepsRemote (s t : State) : Prop where
  lenses : Matched (fun _ => Lens.KeepsRemote) s.lenses t.lenses
  down : ∀ (k : Nat) (u : Link), s.links[k]? = some u → u.state ≠ .up → t.links[k]? = some u
  change : s.notices.peerChange = true → t.notices.peerChange = true

namespace State.KeepsRemote

/-- Changes of neither lenses, links nor notices. -/
theorem quiet {s t : State} (hl : t.lenses = s.lenses) (hk : t.links = s.links)
    (hn : t.notices.peerChange = s.notices.peerChange) : s.KeepsRemote t :=
  ⟨hl ▸ .refl (fun _ => .refl) _, fun _ _ hu _ => hk ▸ hu, fun h => hn ▸ h⟩

theorem refl (s : State) : s.KeepsRemote s := quiet rfl rfl rfl

theorem trans {s t u : State} (h1 : s.KeepsRemote t) (h2 : t.KeepsRemote u) : s.KeepsRemote u where
  lenses := h1.lenses.trans (fun _ _ _ _ => Lens.KeepsRemote.trans) h2.lenses
  down k v hv hdown := h2.down k v (h1.down k v hv hdown) hdown
  change h := h2.change (h1.change h)

theorem foldl {α : Type} {f : State → α → State} (h : ∀ (s : State) x, s.KeepsRemote (f s x)) (l : List α) (s : State) :
    s.KeepsRemote (l.foldl f s) := by
  induction l generalizing s with
  | nil => exact refl s
  | cons x l ih => exact (h s x).trans (ih (f s x))

theorem forLenses {f : Nat → State → State} (h : ∀ (s : State) i, s.KeepsRemote (f i s)) (s : State) :
    s.KeepsRemote (s.forLenses f) := foldl (fun s i => h s i) _ s

/-- A record is changed in which the remote side keeps its part. -/
theorem modLens {s : State} {i : Nat} {l : Lens} {f : LensBody → LensBody} (hl : s.lenses[i]? = some l)
    (h : ∀ p, l.remoteParty = some p → l.body.KeepsSide p (f l.body)) : s.KeepsRemote (s.modLens i f) where
  lenses := .modify (fun _ => .refl) fun x hx => by
    cases hl.symm.trans hx
    exact ⟨rfl, rfl, h⟩
  down _ _ hu _ := hu
  change h := h

theorem setDecided {s : State} {i : Nat} {l : Lens} {d d' : Decided} (hl : s.lenses[i]? = some l)
    (hb : l.body = .decided d) (h : ∀ p, l.remoteParty = some p → d.KeepsSide p d') :
    s.KeepsRemote (s.setDecided i d') :=
  modLens hl fun p hp e he => by
    cases hb.symm.trans he
    exact ⟨d', rfl, h p hp⟩

theorem setClient {s : State} {i : Nat} {l : Lens} {c : Client} (hl : s.lenses[i]? = some l)
    (hb : l.body = .client c) (c' : Client) : s.KeepsRemote (s.setClient i c') :=
  modLens hl fun _ _ _ hd => nomatch hb.symm.trans hd

/-- A link that is UP is changed. -/
theorem linkUp {s t : State} {n : Nat} {f : Link → Link} {u : Link} (hu : s.links[n]? = some u) (hup : u.state = .up)
    (hk : t.links = s.links.modify n f) (hl : Matched (fun _ => Lens.KeepsRemote) s.lenses t.lenses)
    (hn : s.notices.peerChange = true → t.notices.peerChange = true) : s.KeepsRemote t where
  lenses := hl
  down k v hv hdown := by
    have hkn : n ≠ k := by
      rintro rfl
      cases hu.symm.trans hv
      exact hdown hup
    rw [hk, List.getElem?_modify, hv]
    simp [hkn]
  change := hn

theorem denyRobot (s : State) (site : Nat) (reason : DenyReason) : s.KeepsRemote (s.denyRobot site reason) := by
  unfold State.denyRobot
  split
  · exact refl s
  · split <;> exact quiet rfl rfl rfl

theorem joinQueue (s : State) (site : Nat) : s.KeepsRemote (s.joinQueue site) := by
  unfold State.joinQueue
  split
  · exact refl s
  · split
    · exact refl s
    · split <;> exact quiet rfl rfl rfl

theorem leaveQueues (s : State) (site : Nat) : s.KeepsRemote (s.leaveQueues site) := by
  unfold State.leaveQueues
  split <;> exact quiet rfl rfl rfl

theorem grantRobot (s : State) (site : Nat) : s.KeepsRemote (s.grantRobot site) := by
  unfold State.grantRobot
  split
  · exact refl s
  · split
    · exact trans (t := s.modRobot site _) (quiet rfl rfl rfl) (joinQueue _ site)
    · exact refl s

/-- A link that is UP goes down (R145). -/
theorem takeDown {s : State} {n : Nat} {u : Link} (hu : s.links[n]? = some u) (hup : u.state = .up) :
    s.KeepsRemote (s.takeDown n) := by
  have hdown : s.takeDown n = (s.depart n).enterProbing n := by
    simp only [State.takeDown, hu, if_pos hup]
  rw [hdown]
  refine linkUp (f := (s.depart n).probed n ∘ Link.departed) hu hup ?_ ?_ fun h => ?_
  · rw [State.enterProbing_eq, State.depart_eq]
    exact List.modify_modify_eq ..
  · rw [State.enterProbing_eq]
    exact State.depart_lenses s n ▸ .map fun _ l _ => .departed n l
  · refine State.enterLink_peerChange n .probing _ ?_
    rw [State.depart_eq]
    exact h

theorem sendBorder (s : State) (n i : Nat) (m : BorderMessage) : s.KeepsRemote (s.sendBorder n i m) := by
  unfold State.sendBorder State.sendNumbered
  cases hu : s.links[n]? with
  | none => exact refl s
  | some u =>
    simp only
    split
    · next hup =>
      split
      · exact linkUp hu hup rfl (.refl (fun _ => .refl) _) id
      · exact takeDown hu hup
    · exact refl s

theorem tellGrant (s : State) (i : Nat) (x : LensSide) : s.KeepsRemote (s.tellGrant i x) := by
  cases x with
  | site j => exact grantRobot s j
  | remote n _ => exact sendBorder s n i _

theorem tellDeny (s : State) (i : Nat) (r : RefuseReason) (x : LensSide) : s.KeepsRemote (s.tellDeny i r x) := by
  cases x with
  | site j => exact denyRobot s j _
  | remote n _ => exact sendBorder s n i _

/-! ### One lens -/

section
variable {s : State} {i site : Nat} {l : Lens} {d : Decided} {c : Client} {q : Party} {k : HoldKind}

theorem releaseDecided (hl : s.lenses[i]? = some l) (hb : l.body = .decided d) (hq : l.partyOf site = some q)
    (hd : d.holder = some (q, k)) : s.KeepsRemote (s.releaseDecided i l d) := by
  have hset := setDecided hl hb fun p hp => .release hd (Lens.partyOf_ne_remote hq hp)
  unfold State.releaseDecided
  simp only
  split
  · exact hset.trans (tellGrant _ _ _)
  · exact hset

theorem denyWaiter (r : RefuseReason) (hl : s.lenses[i]? = some l) (hb : l.body = .decided d) :
    s.KeepsRemote (s.denyWaiter i l d r) := by
  unfold State.denyWaiter
  split
  · exact refl s
  · exact (setDecided hl hb fun p _ => .dropWaiter p d).trans (tellDeny _ _ _ _)

theorem holdingToPin (hl : s.lenses[i]? = some l) (hb : l.body = .decided d) (hq : l.partyOf site = some q)
    (hd : d.holder = some (q, k)) : s.KeepsRemote (s.holdingToPin i l d q) := by
  have hset := setDecided hl hb fun p hp => .toPin hd (Lens.partyOf_ne_remote hq hp)
  unfold State.holdingToPin
  simp only
  split
  · exact hset
  · exact hset.trans (tellDeny _ _ _ _)

theorem clientTo (st : ClaimState) (m : BorderMessage) (hl : s.lenses[i]? = some l) (hb : l.body = .client c) :
    s.KeepsRemote (s.clientTo i l c st m) :=
  (setClient hl hb _).trans (sendBorder _ _ i m)

end

theorem moveEndLens (s : State) (site i : Nat) : s.KeepsRemote (s.moveEndLens site i) := by
  unfold State.moveEndLens
  split
  · exact refl s
  · next l hl =>
    split
    · exact refl s
    · next q hq =>
      split
      · next d hb =>
        split
        · next hd => exact releaseDecided hl hb hq hd
        · split
          · exact denyWaiter _ hl hb
          · split
            · exact setDecided hl hb fun p _ => .dropWaiter p d
            · exact refl s
      · next c hb =>
        split
        · exact clientTo _ _ hl hb
        · exact clientTo _ _ hl hb
        all_goals exact refl s

theorem lossLens (s : State) (site i : Nat) : s.KeepsRemote (s.lossLens site i) := by
  unfold State.lossLens
  split
  · exact refl s
  · next l hl =>
    split
    · exact refl s
    · next q hq =>
      split
      · next d hb =>
        split
        · next hd => exact holdingToPin hl hb hq hd
        · split
          · next hd => exact releaseDecided hl hb hq hd
          · exact refl s
      · next c hb =>
        split
        · exact clientTo _ _ hl hb
        · exact clientTo _ _ hl hb
        all_goals exact refl s

/-! ### The ends of moves -/

theorem recordEnd (s : State) (site : Nat) (kind : MoveKind) (limited : Bool) (o : MoveOutcome)
    (reason : Option DenyReason) : s.KeepsRemote (s.recordEnd site kind limited o reason) := by
  have hfield : ∀ (t : State) (o : MoveOutcome), t.KeepsRemote (t.countFieldEnd o) := fun t o => by
    unfold State.countFieldEnd State.endField
    split <;> exact quiet rfl rfl rfl
  unfold State.recordEnd
  split
  · exact refl s
  · simp only
    split
    · refine trans ?_ (hfield _ _)
      exact quiet rfl rfl rfl
    · exact quiet rfl rfl rfl

theorem finishMove (s : State) (site : Nat) (st : RobotState) (out : Option (MoveOutcome × Option DenyReason)) :
    s.KeepsRemote (s.finishMove site st out) := by
  unfold State.finishMove
  split
  · exact refl s
  · have ht := (forLenses (fun t i => moveEndLens t site i) s).trans (leaveQueues _ site)
    simp only
    split
    · exact ht.trans (quiet rfl rfl rfl)
    · refine trans (ht.trans ?_) (recordEnd _ _ _ _ _ _)
      exact quiet rfl rfl rfl

theorem endAtRest (s : State) (site : Nat) (out : Option (MoveOutcome × Option DenyReason)) :
    s.KeepsRemote (s.endAtRest site out) := by
  unfold State.endAtRest
  split
  · exact refl s
  · split
    · exact refl s
    · split
      · have ht : s.KeepsRemote ((s.modRobot site fun r => { r.forget with anchor := none }).lossConvert site) :=
          trans (t := s.modRobot site _) (quiet rfl rfl rfl) (forLenses (fun t i => lossLens t site i) _)
        unfold State.loseWith
        simp only
        split
        · exact ht.trans (quiet rfl rfl rfl)
        · exact ht.trans (finishMove _ _ _ _)
      · exact finishMove s _ _ _

theorem settleDenials (n : Nat) (s : State) : s.KeepsRemote (s.settleDenials n) := by
  induction n generalizing s with
  | zero => exact refl s
  | succ n ih =>
    unfold State.settleDenials
    split
    · exact refl s
    · refine trans ?_ (ih _)
      unfold State.endDenied
      split
      · exact refl s
      · exact endAtRest s _ _

/-- The close of an event (R93, R96, R97). -/
theorem close (s t : State) : t.KeepsRemote (s.close t) := by
  refine (settleDenials t.robots.length t).trans ?_
  unfold State.close State.closeEvent
  simp only
  split <;> exact quiet rfl rfl rfl

end State.KeepsRemote

end Sys2Proof.Machine
end

section
/-! A link that goes down, and the close of the event in which it does (R136, R138, R143, R145). -/

namespace Sys2Proof.Machine

/-! ### Entering a state -/

section
variable {s : State} {n : Nat} {l : Link}

/-- A link that enters a state other than its own latches PEER_CHANGE (R148). -/
theorem State.enterLink_other {st : LinkState} (f : Link → Link) (hl : s.links[n]? = some l) (h : l.state ≠ st) :
    s.enterLink n st f =
      { s.modLink n fun x => { f x with state := st, since := s.now, takenAt := s.now } with
        notices := { s.notices with peerChange := true } } := by
  simp only [State.enterLink, hl, if_neg h]
  rfl

theorem State.enterLink_link {st : LinkState} (f : Link → Link) (hl : s.links[n]? = some l) :
    (s.enterLink n st f).links[n]? = some { f l with state := st, since := s.now, takenAt := s.now } := by
  simp only [State.enterLink, hl]
  split <;> simp [hl, State.latchPeerChange]

theorem State.enterLink_lenses (s : State) (n : Nat) (st : LinkState) (f : Link → Link) :
    (s.enterLink n st f).lenses = s.lenses := by
  unfold State.enterLink
  split
  · rfl
  · simp only
    split <;> rfl

theorem State.enterProbing_link (hl : s.links[n]? = some l) : (s.enterProbing n).links[n]? = some (s.probed n l) :=
  State.enterLink_link _ hl

/-- The unit of a departure (R145). -/
theorem State.depart_link (hl : s.links[n]? = some l) : (s.depart n).links[n]? = some l.departed := by
  rw [State.depart_eq]
  simp [hl]

theorem State.linkState_eq (hl : s.links[n]? = some l) : s.linkState n = l.state := by
  simp [State.linkState, hl]

/-- The unit of a link that departs where it is UP (R145). -/
theorem State.departIfUp_link (hl : s.links[n]? = some l) :
    (s.departIfUp n).links[n]? = some (if l.state = .up then l.departed else l) := by
  unfold State.departIfUp
  rw [State.linkState_eq hl]
  split
  · exact State.depart_link hl
  · exact hl

theorem State.departIfUp_lenses (hl : s.links[n]? = some l) (hup : l.state = .up) :
    (s.departIfUp n).lenses = s.lenses.map (Lens.departed n) := by
  rw [State.departIfUp, State.linkState_eq hl, if_pos hup, State.depart_lenses]

/-- A link that is taken down departs where it is UP, and enters PROBING (R145). -/
theorem State.takeDown_eq (hl : s.links[n]? = some l) : s.takeDown n = (s.departIfUp n).enterProbing n := by
  simp only [State.takeDown, hl, State.departIfUp, State.linkState_eq hl]
  split <;> rfl

end

/-! ### The close of an event -/

theorem State.close_frame (s t : State) : (s.close t).map = t.map ∧ (s.close t).digests = t.digests := by
  obtain ⟨E, he, -⟩ := s.close_ebbs t
  exact ⟨by rw [he.frame], by rw [he.frame]⟩

/-- A link that is down is not touched by the ends of moves. -/
theorem State.close_link {s t : State} {n : Nat} {u : Link} (hu : t.links[n]? = some u) (hdown : u.state ≠ .up) :
    (s.close t).links[n]? = some u :=
  (KeepsRemote.close s t).down n u hu hdown

/-- A unit that has entered PROBING in a state of the same map (R137, R138). -/
theorem State.probingAt_of {s t : State} {n : Nat} {l : Link} (hl : t.links[n]? = some (s.probed n l))
    (hm : t.map = s.map) (hd : t.digests = s.digests) : t.ProbingAt n := by
  refine ⟨_, hl, rfl, rfl, rfl, rfl, ?_⟩
  have hframe := State.identFrame_congr hm hd n false
  unfold State.identFrame at hframe
  simp only [State.probed, State.identFrame, ← hframe]
  rfl

/-- A lens of a link has a remote side (R4). -/
theorem Lens.remoteParty_of_link {x : Lens} {n : Nat} (h : x.link = some n) : ∃ p, x.remoteParty = some p := by
  obtain ⟨a, b, body⟩ := x
  cases a <;> cases b <;> simp_all [Lens.link, Lens.remoteParty, LensSide.link]

/-- A departure leaves no claim under way (R145). -/
theorem Lens.departed_client {x : Lens} {n : Nat} {c : Client} (hlink : x.link = some n) (hc : x.body = .client c)
    (p : Party) : (x.departed n).body.Unwaited p := by
  simp only [Lens.departed, hlink, hc, if_true]
  split
  · exact nofun
  · next h => rw [hc]; exact h

/-- A departure leaves no remote side waiting, and its pin and holding as they are (R145). -/
theorem Lens.departed_decided {x : Lens} {n : Nat} {d : Decided} {p : Party} (hlink : x.link = some n)
    (hd : x.body = .decided d) (hp : x.remoteParty = some p) : ∃ e, x.departed n = { x with body := .decided e } ∧
      e.waiter ≠ some p ∧ e.pinned p = d.pinned p ∧ e.holder = d.holder := by
  by_cases hw : d.waiter = some p
  · exact ⟨d.dropWaiter, by simp [Lens.departed, hlink, hd, hw, hp], nofun, by cases p <;> rfl, rfl⟩
  · refine ⟨d, ?_, hw, rfl, rfl⟩
    simp only [Lens.departed, hlink, hd, hp, if_true]
    rw [if_neg (by simp [hw]), ← hd]

/-- A link that has just entered PROBING (R137, R138). -/
theorem State.enterProbing_probingAt {s : State} {n : Nat} {l : Link} (hl : s.links[n]? = some l) :
    (s.enterProbing n).ProbingAt n :=
  State.probingAt_of (State.enterProbing_link hl) (by rw [State.enterProbing_eq]) (by rw [State.enterProbing_eq])

/-- A link that has departed, and is down, has departed when the event closes (R145). -/
theorem State.close_departedAt {s s0 u : State} {n : Nat} {l v : Link} (hl : s.links[n]? = some l)
    (hlens : u.lenses = s.lenses.map (Lens.departed n)) (hv : u.links[n]? = some v) (hdown : v.state ≠ .up)
    (hwas : v.wasDown = true) (hdrops : v.drops = l.departed.drops) : s.DepartedAt (s0.close u) n := by
  refine ⟨fun l' hl' => ?_, fun i x hx hlink => ?_⟩
  · cases hl.symm.trans hl'
    exact ⟨v, State.close_link hv hdown, hwas, hdrops⟩
  · have hux : u.lenses[i]? = some (x.departed n) := by simp [hlens, hx]
    obtain ⟨y, hy, hkept⟩ := (KeepsRemote.close s0 u).lenses.get hux
    obtain ⟨q, hq⟩ := Lens.remoteParty_of_link hlink
    refine ⟨y, hy, fun c hc => ?_, fun d p hd hp => ?_⟩
    · cases hxb : x.body with
      | decided d =>
        obtain ⟨d', hd', -⟩ := ((Lens.KeepsRemote.departed n x).trans hkept).body q hq d hxb
        exact nomatch hc.symm.trans hd'
      | client c0 =>
        obtain ⟨y', hy', h⟩ := (Eases.close (O := fun _ => True) s0 u trivial).unwaited hux
          (Lens.departed_client hlink hxb q)
        cases hy.symm.trans hy'
        rw [hc] at h
        exact h
    · obtain ⟨e, hxe, hw, hpin, hholder⟩ := Lens.departed_decided hlink hd hp
      rw [hxe] at hkept
      obtain ⟨d', hd', hpin', hh⟩ := hkept.body p hp e rfl
      obtain ⟨hw', hholder'⟩ := hh hw
      exact ⟨d', hd', hw', hpin'.trans hpin, fun kind => (hholder' kind).trans (by rw [hholder])⟩

/-- A link that is taken down, as the event closes (R136, R138, R143, R145). -/
theorem State.close_takeDown {s0 s : State} {n : Nat} {l : Link} (hl : s.links[n]? = some l) :
    (s0.close (s.takeDown n)).ProbingAt n ∧
      (∃ l', (s0.close (s.takeDown n)).links[n]? = some l' ∧ l'.errors = l.errors) ∧
      (l.state = .up → s.DepartedAt (s0.close (s.takeDown n)) n ∧
        (s0.close (s.takeDown n)).notices.peerChange = true) := by
  have hd := State.departIfUp_link hl
  have hlink := State.enterProbing_link hd
  rw [State.takeDown_eq hl]
  obtain ⟨hm, hdig⟩ := s0.close_frame ((s.departIfUp n).enterProbing n)
  refine ⟨?_, ⟨_, State.close_link hlink (by simp [State.probed]), ?_⟩, fun hup => ⟨?_, ?_⟩⟩
  · refine State.probingAt_of (State.close_link hlink (by simp [State.probed])) (hm.trans ?_) (hdig.trans ?_)
    · rw [State.enterProbing_eq]
    · rw [State.enterProbing_eq]
  · simp only [State.probed]
    split <;> rfl
  · refine State.close_departedAt hl ?_ hlink (by simp [State.probed]) ?_ ?_
    · rw [State.enterProbing, State.enterLink_lenses, State.departIfUp_lenses hl hup]
    · simp [State.probed, hup, Link.departed]
    · simp [State.probed, hup]
  · refine (KeepsRemote.close _ _).change ?_
    rw [State.enterProbing, State.enterLink_other _ hd (by simp [hup, Link.departed])]

end Sys2Proof.Machine
end

section
/-! PEER_CONTROL (R134, R137, R145). -/

namespace Sys2Proof.Machine

/-! ### What a port does not show -/

theorem State.ProbingAt.respond {t : State} {n : Nat} (h : t.ProbingAt n) (p : PortId) (x : Response) :
    (t.respond p x).ProbingAt n := by
  cases p <;> exact h

theorem State.DepartedAt.taken {s t : State} {p : PortId} {tag code : Byte} {n : Nat}
    (h : (s.takeRequest p tag code).DepartedAt t n) (x : Response) : s.DepartedAt (t.respond p x) n := by
  cases p <;> exact h

/-! ### The answers -/

section
variable {t : State} {n : Nat} {l : Link}

theorem linkCheck_none (hn : n < 6) (hm : t.map ≠ none) : linkCheck t n = none := by
  simp [linkCheck, hm, show ¬ 5 < n by omega]

theorem enableAnswer_disabled (hc : linkCheck t n = none) (hl : t.links[n]? = some l) (h : l.state = .disabled) :
    enableAnswer n t = ⟨t.enterProbing n, .ok, .linkState .probing⟩ := by
  have hst := State.linkState_eq (State.enterProbing_link hl)
  simp only [enableAnswer, hc, State.linkState_eq hl, if_pos h, linkAnswer, okWith, hst]
  rfl

theorem enableAnswer_other (hc : linkCheck t n = none) (hl : t.links[n]? = some l) (h : l.state ≠ .disabled) :
    enableAnswer n t = ⟨t, .ok, .linkState l.state⟩ := by
  simp only [enableAnswer, hc, State.linkState_eq hl, if_neg h, linkAnswer, okWith]

theorem disableAnswer_disabled (hc : linkCheck t n = none) (hl : t.links[n]? = some l) (h : l.state = .disabled) :
    disableAnswer n t = ⟨t, .ok, .linkState .disabled⟩ := by
  simp only [disableAnswer, hc, State.linkState_eq hl, if_true, linkAnswer, okWith, h]

theorem resetAnswer_disabled (hc : linkCheck t n = none) (hl : t.links[n]? = some l) (h : l.state = .disabled) :
    resetAnswer n t = refuseWith t .notReady := by
  simp only [resetAnswer, hc, State.linkState_eq hl, if_pos h]

/-- The unit that DISABLE leaves (R134). -/
theorem State.enterDisabled_link (hl : t.links[n]? = some l) : ((t.departIfUp n).enterDisabled n).links[n]? =
    some { if l.state = .up then l.departed else l with
      transmit := [], lastIdent := none, state := .disabled, since := (t.departIfUp n).now,
      takenAt := (t.departIfUp n).now } :=
  State.enterLink_link _ (State.departIfUp_link hl)

theorem disableAnswer_other (hc : linkCheck t n = none) (hl : t.links[n]? = some l) (h : l.state ≠ .disabled) :
    disableAnswer n t = ⟨t.close ((t.departIfUp n).enterDisabled n), .ok, .linkState .disabled⟩ := by
  have hst := State.linkState_eq (State.close_link (s := t) (State.enterDisabled_link hl) nofun)
  simp only [disableAnswer, hc, State.linkState_eq hl, if_neg h, linkAnswer, okWith, hst]

theorem resetAnswer_other (hc : linkCheck t n = none) (hl : t.links[n]? = some l) (h : l.state ≠ .disabled) :
    resetAnswer n t = ⟨t.close (t.takeDown n), .ok, .linkState .probing⟩ := by
  obtain ⟨⟨u, hu, hprobing, -⟩, -⟩ := State.close_takeDown (s0 := t) hl
  simp only [resetAnswer, hc, State.linkState_eq hl, if_neg h, linkAnswer, okWith, ← State.takeDown_eq hl,
    State.linkState_eq hu, hprobing]

/-- What DISABLE leaves as its event closes (R134, R145). -/
theorem State.disabling_leaves (hl : t.links[n]? = some l) (h : l.state ≠ .disabled) :
    (∃ l', (t.close ((t.departIfUp n).enterDisabled n)).links[n]? = some l' ∧ l'.state = .disabled ∧
      l'.transmit = [] ∧ l'.lastIdent = none ∧ l'.errors = l.errors) ∧
    (t.close ((t.departIfUp n).enterDisabled n)).notices.peerChange = true ∧
    (l.state = .up → t.DepartedAt (t.close ((t.departIfUp n).enterDisabled n)) n) := by
  have hlink := State.enterDisabled_link hl
  refine ⟨⟨_, State.close_link hlink nofun, rfl, rfl, rfl, ?_⟩, (KeepsRemote.close _ _).change ?_, fun hup => ?_⟩
  · simp only
    split <;> rfl
  · rw [State.enterDisabled, State.enterLink_other _ (State.departIfUp_link hl)]
    split
    · exact h
    · exact h
  · refine State.close_departedAt hl ?_ hlink nofun ?_ ?_
    · rw [State.enterDisabled, State.enterLink_lenses, State.departIfUp_lenses hl hup]
    · simp [hup, Link.departed]
    · simp [hup]

end

end Sys2Proof.Machine

open Sys2Proof Sys2Proof.Machine

/-- Settles O34: each action's answer by the link's state, and what a departure leaves as its event closes
(`State.close_takeDown`, `State.disabling_leaves`). -/
theorem peerControlActsByState : Obligations.PeerControlActsByState := by
  intro s r n l hr hmap hn hl _
  have hc : linkCheck (s.takeRequest r.port r.tag 28) n = none := linkCheck_none hn (by simpa using hmap)
  have hu : (s.takeRequest r.port r.tag 28).links[n]? = some l := by simpa using hl
  refine ⟨fun h ht => ?_, fun h => ?_, fun h => ⟨?_, ?_⟩, fun h ht => ?_, fun h ht => ?_⟩
  · have hexec : exec (.peerControlEnable r n) s =
        .next (s.answered r 28 .ok (.linkState .probing) fun u => u.enterProbing n) :=
      congrArg _ (serve_sequencer s r 28 _ _ _ _ hr (enableAnswer_disabled hc hu h))
    refine ⟨_, hexec, ?_, ?_, fun k hk => ?_⟩
    · rw [answered_takes _ _ _ _ _ _ ht]
      exact (State.enterProbing_probingAt hu).respond _ _
    · simp only [answered_takes _ _ _ _ _ _ ht, State.respond, State.modPort_links]
      rw [State.enterProbing, State.enterLink_other _ hu (by simp [h])]
      rfl
    · rw [answered_takes _ _ _ _ _ _ ht, State.enterProbing_eq, State.respond, State.modPort_links]
      simp [Ne.symm hk]
  · exact congrArg _ (serve_sequencer s r 28 _ _ _ id hr (enableAnswer_other hc hu h))
  · exact congrArg _ (serve_sequencer s r 28 _ _ _ id hr (disableAnswer_disabled hc hu h))
  · exact congrArg _ (serve_refused hr (resetAnswer_disabled hc hu h))
  · have hexec : exec (.peerControlDisable r n) s = .next (s.answered r 28 .ok (.linkState .disabled)
        fun u => u.close ((u.departIfUp n).enterDisabled n)) :=
      congrArg _ (serve_sequencer s r 28 _ _ _ _ hr (disableAnswer_other hc hu h))
    obtain ⟨⟨l', hl', hst, htransmit, hident, herrors⟩, hchange, hdeparted⟩ := State.disabling_leaves hu h
    refine ⟨_, l', hexec, State.answered_engine ht (Acts.close ((Acts.departIfUp _ n).trans (.enterDisabled _ n))).engine,
      ?_, hst, htransmit, hident, herrors, ?_, fun hup => ?_⟩
    · rw [answered_takes _ _ _ _ _ _ ht, State.respond, State.modPort_links]
      exact hl'
    · rw [answered_takes _ _ _ _ _ _ ht, State.respond, State.modPort_notices]
      exact hchange
    · rw [answered_takes _ _ _ _ _ _ ht]
      exact (hdeparted hup).taken _
  · have hexec : exec (.peerControlReset r n) s = .next (s.answered r 28 .ok (.linkState .probing)
        fun u => u.close (u.takeDown n)) :=
      congrArg _ (serve_sequencer s r 28 _ _ _ _ hr (resetAnswer_other hc hu h))
    obtain ⟨hprobing, -, hup⟩ := State.close_takeDown (s0 := s.takeRequest r.port r.tag 28) hu
    refine ⟨_, hexec, State.answered_engine ht (Acts.close (.takeDown _ n)).engine, ?_, fun h => ?_⟩
    · rw [answered_takes _ _ _ _ _ _ ht]
      exact hprobing.respond _ _
    · rw [answered_takes _ _ _ _ _ _ ht]
      exact (hup h).1.taken _
end

section
/-! Frame errors and the time limits of a link (R136, R139, R140, R143, R145). -/

namespace Sys2Proof.Machine

section
variable {s : State} {n : Nat} {l : Link}

/-- The unit after a frame error is counted (R136). -/
def Link.erred (l : Link) : Link := { l with errors := if l.errors < 65535 then l.errors + 1 else l.errors }

theorem State.frameError_disabled (hl : s.links[n]? = some l) (h : l.state = .disabled) : s.frameError n = s := by
  simp only [State.frameError, hl, h]

/-- In PROBING and FAULT a frame error is counted only (R136). -/
theorem State.frameError_counted (hl : s.links[n]? = some l) (h : l.state = .probing ∨ l.state = .fault) :
    s.frameError n = s.modLink n Link.erred := by
  rcases h with h | h <;> · simp only [State.frameError, hl, h]; rfl

/-- In MATCHED, SYNCING and UP a frame error takes the link down (R136). -/
theorem State.frameError_down (hl : s.links[n]? = some l)
    (h : l.state = .matched ∨ l.state = .syncing ∨ l.state = .up) :
    s.frameError n = (s.modLink n Link.erred).takeDown n := by
  rcases h with h | h | h <;> · simp only [State.frameError, hl, h]; rfl

/-- A numbered frame from a wrong sender, of a wrong kind or lens, or out of its sequence is a frame error (R136). -/
theorem State.takeNumbered_bad {h : PeerHeader} {good : Bool} {act : State → State} (hl : s.links[h.link]? = some l)
    (hst : l.state ≠ .disabled)
    (hbad : h.sender ≠ s.neighbourNumber h.link ∨ good = false ∨ l.sequenceBad h.seq = true) :
    s.takeNumbered h good act = s.close (s.frameError h.link) := by
  simp only [State.takeNumbered, hl, if_neg hst, if_pos hbad]

/-- What is said of a departure does not depend on the unit's error count. -/
theorem State.DepartedAt.of_erred {t : State} (h : (s.modLink n Link.erred).DepartedAt t n) : s.DepartedAt t n :=
  ⟨fun x hx => h.1 x.erred (by simp [hx]), h.2⟩

theorem State.linkIs_eq (hl : s.links[n]? = some l) (st : LinkState) : s.linkIs n st = (l.state == st) := by
  simp [State.linkIs, hl]

/-- A frame error where it takes the link down, as its event closes (R136, R145). -/
theorem exec_peerFrameError_down (hl : s.links[n]? = some l)
    (h : l.state = .matched ∨ l.state = .syncing ∨ l.state = .up) : ∃ t l',
      exec (.peerFrameError n) s = .next t ∧ t = s.engine t ∧ t.ProbingAt n ∧ t.links[n]? = some l' ∧
        l'.errors = l.erred.errors ∧ (l.state = .up → s.DepartedAt t n) := by
  have hl' : (s.modLink n Link.erred).links[n]? = some l.erred := by simp [hl]
  obtain ⟨hprobing, ⟨l', hl1, herrors⟩, hup⟩ := State.close_takeDown (s0 := s) hl'
  have hexec : exec (.peerFrameError n) s = .next (s.close ((s.modLink n Link.erred).takeDown n)) :=
    congrArg Host.Outcome.next (congrArg s.close (State.frameError_down hl h))
  exact ⟨_, l', hexec, ((ActsOut.peerFrameError s n).acts hexec).engine, hprobing, hl1, herrors,
    fun h => (hup h).1.of_erred⟩

/-- The time limits of MATCHED and SYNCING (R139, R140). -/
theorem State.enterProbing_expired (hl : s.links[n]? = some l) (h : l.state ≠ .probing) :
    (s.enterProbing n).ProbingAt n ∧
      s.enterProbing n =
        { s with links := (s.enterProbing n).links, notices := { s.notices with peerChange := true } } ∧
      ∀ k, k ≠ n → (s.enterProbing n).links[k]? = s.links[k]? := by
  refine ⟨State.enterProbing_probingAt hl, ?_, fun k hk => ?_⟩
  · rw [State.enterProbing, State.enterLink_other _ hl h]
    rfl
  · rw [State.enterProbing_eq]
    simp [Ne.symm hk]

end

end Sys2Proof.Machine

open Sys2Proof Sys2Proof.Machine

/-- Settles O41: a frame error by the link's state, the frames that are such errors (`State.takeNumbered_bad`), and the
limits of time, each of which takes the link down. -/
theorem frameErrorsAndTimeLimitsTakeLinksDown : Obligations.FrameErrorsAndTimeLimitsTakeLinksDown := by
  refine ⟨fun s n l hl hquiet => ⟨fun h => ?_, fun h => ?_, exec_peerFrameError_down hl, ?_⟩,
    fun s n l hl => ⟨fun hup => ?_, fun c hc => ?_⟩⟩
  · exact congrArg _ ((congrArg s.close (State.frameError_disabled hl h)).trans (State.close_quiet' hquiet rfl))
  · exact congrArg _ ((congrArg s.close (State.frameError_counted hl h)).trans
      (State.close_quiet' (t := s.modLink n Link.erred) hquiet rfl))
  · rintro h name rfl hst
    refine ⟨fun hbad => ?_, fun hrole => ?_, fun hrole => ?_⟩
    · have herror : ∀ role : Bool, h.sender ≠ s.neighbourNumber h.link ∨
          (role && (s.lensNamed h.link name).isSome) = false ∨ l.sequenceBad h.seq = true := fun role => by
        rcases hbad with hbad | hbad | ⟨hup, hseq⟩
        · exact .inl hbad
        · exact .inr (.inl (by simp [hbad]))
        · exact .inr (.inr (by simp [Link.sequenceBad, hup, hseq]))
      exact ⟨congrArg _ (State.takeNumbered_bad hl hst (herror _)), congrArg _ (State.takeNumbered_bad hl hst (herror _))⟩
    · exact congrArg _ (State.takeNumbered_bad hl hst (.inr (.inl (by simp [hrole]))))
    · exact congrArg _ (State.takeNumbered_bad hl hst (.inr (.inl (by simp [hrole]))))
  · obtain ⟨hprobing, -, hdeparted⟩ := State.close_takeDown (s0 := s) hl
    have hexec : exec (.silenceLimit n) s = .next (s.close (s.takeDown n)) :=
      if_pos (by rw [State.linkIs_eq hl, hup]; rfl)
    exact ⟨_, hexec, ((ActsOut.silenceLimit s n).acts hexec).engine, hprobing, hdeparted hup⟩
  · have hexec : exec c s = .next (s.enterProbing n) := by
      rcases hc with ⟨hst, rfl⟩ | ⟨hst, rfl⟩
      · exact if_pos (by rw [State.linkIs_eq hl, hst]; rfl)
      · exact if_pos (by rw [State.linkIs_eq hl, hst]; rfl)
    refine ⟨_, hexec, State.enterProbing_expired hl ?_⟩
    rcases hc with ⟨hst, -⟩ | ⟨hst, -⟩ <;> simp [hst]
end

section
/-! KEEPALIVE, and what a link unit sends in time (R135, R136, R137, R143). -/

namespace Sys2Proof.Machine

section
variable {s : State} {n : Nat} {l : Link}

theorem State.takeNumbered_disabled {h : PeerHeader} {good : Bool} {act : State → State}
    (hl : s.links[h.link]? = some l) (hst : l.state = .disabled) : s.takeNumbered h good act = s := by
  simp only [State.takeNumbered, hl, if_pos hst]

/-- Outside UP a numbered frame without error restarts the silence time alone (R136, R143). -/
theorem State.takeNumbered_outside {h : PeerHeader} {act : State → State} (hl : s.links[h.link]? = some l)
    (hst : l.state ≠ .disabled) (hup : l.state ≠ .up) (hsender : h.sender = s.neighbourNumber h.link)
    (hseq : l.sequenceBad h.seq = false) : s.takeNumbered h true act = s.touch h.link := by
  simp only [State.takeNumbered, hl, if_neg hst, if_neg hup, hsender, hseq]
  simp

/-- An IDENT that finds room joins the queue, and the time is noted (R135, R137). -/
theorem State.sendIdent_roomy (hl : s.links[n]? = some l) (hroom : l.transmit.length < 64) (ack : Bool) :
    s.sendIdent n ack = s.modLink n fun x =>
      { x with identAt := s.now, transmit := x.transmit ++ [s.identFrame n ack] } := by
  have hl' : (s.modLink n fun x => { x with identAt := s.now }).links[n]? = some { l with identAt := s.now } := by
    simp [hl]
  simp only [State.sendIdent, State.joinTransmit, hl', Config.transmitDepth, hroom, if_true]
  simp only [State.modLink, List.modify_modify_eq]
  rfl

/-- A numbered frame that finds room joins the queue with the send sequence (R135). -/
theorem State.sendNumbered_roomy (hl : s.links[n]? = some l) (hroom : l.transmit.length < 64) (b : PeerBody) :
    s.sendNumbered n b = s.modLink n fun x =>
      { x with
        transmit := x.transmit ++ [⟨s.sectorNumber, x.sendSeq, b⟩]
        sendSeq := (x.sendSeq + 1) % 256 } := by
  simp only [State.sendNumbered, hl, Config.transmitDepth, hroom, if_true]

end

end Sys2Proof.Machine

open Sys2Proof Sys2Proof.Machine

/-- Settles O37: a KEEPALIVE by the link's state (`State.takeNumbered_outside`), and each frame that a unit with room
sends in time. -/
theorem linkUnitsKeepAliveAndSend : Obligations.LinkUnitsKeepAliveAndSend := by
  refine ⟨fun s h k hk hquiet => ⟨fun hst => ?_, fun ho => ?_, fun hst hsender => ?_, fun hst hsender hseq => ?_⟩,
    fun s n l hl hquiet => ⟨fun ack hst hroom => ?_, fun hst hroom => ?_, fun f rest hq => ?_⟩⟩
  · exact congrArg _ (State.takeNumbered_disabled hk hst)
  · exact congrArg _ ((State.takeNumbered_inOrder ho id).trans
      (State.close_quiet' (t := s.frameTaken h.link) hquiet rfl))
  · refine congrArg _ (State.takeNumbered_outside hk ?_ ?_ hsender ?_) <;>
      rcases hst with hst | hst | hst <;> simp [hst, Link.sequenceBad]
  · exact congrArg _ (State.takeNumbered_outside hk (by simp [hst]) (by simp [hst]) hsender
      (by simp [Link.sequenceBad, hseq]))
  · have hsend : exec (.identSend n) s = .next (s.sendIdent n ack) := by
      rcases hst with ⟨hst, rfl⟩ | ⟨hst, rfl⟩
      · exact if_pos (by rw [State.linkIs_eq hl, hst]; rfl)
      · exact (if_neg (by rw [State.linkIs_eq hl, hst]; decide)).trans (if_pos (by rw [State.linkIs_eq hl, hst]; rfl))
    exact hsend.trans (congrArg _ (State.sendIdent_roomy hl hroom ack))
  · have hsend : exec (.keepaliveSend n) s = .next (s.close (s.sendNumbered n .keepalive)) :=
      if_pos (by rw [State.linkIs_eq hl, hst]; rfl)
    rw [hsend, State.sendNumbered_roomy hl hroom]
    exact congrArg _ (State.close_quiet' (t := s.modLink n _) hquiet rfl)
  · exact congrArg _ (State.modLink_congr hl (by simp [hq]))
end

section
/-! IDENTs by the link's state (R137 to R140, R143, R145). -/

namespace Sys2Proof.Machine

/-- Two changes of a link unit in a row are one. -/
theorem State.modLink_modLink {s : State} {n : Nat} {l : Link} {f g k : Link → Link} (hl : s.links[n]? = some l)
    (h : g (f l) = k l) : (s.modLink n f).modLink n g = s.modLink n k := by
  rw [← State.modLink_congr (f := g ∘ f) hl h]
  simp only [State.modLink, List.modify_modify_eq]

/-! ### Whether an IDENT matches (R138) -/

/-- The sectors of an IDENT that is right for the link. -/
def State.SectorsRight (s : State) (n : Nat) (f : Ident) : Prop :=
  s.neighbourNumber n ≠ 0 ∧ f.sector = s.neighbourNumber n ∧ f.expected = s.sectorNumber

theorem State.sectorsMatch_iff (s : State) (n : Nat) (f : Ident) : s.sectorsMatch n f = true ↔ s.SectorsRight n f := by
  simp [State.sectorsMatch, State.SectorsRight, and_assoc]

theorem State.identMatches_iff (s : State) (n : Nat) (f : Ident) :
    s.identMatches n f = true ↔ s.SectorsRight n f ∧ f.digest = s.digest n := by
  rw [← State.sectorsMatch_iff]
  simp [State.identMatches]

theorem State.identMatches_false {s : State} {n : Nat} {f : Ident} (h : ¬ (s.SectorsRight n f ∧ f.digest = s.digest n)) :
    s.identMatches n f = false :=
  Bool.eq_false_iff.mpr fun hm => h ((s.identMatches_iff n f).mp hm)

/-- An IDENT is judged by the map and the digests alone. -/
theorem State.ident_congr {s t : State} (hm : t.map = s.map) (hd : t.digests = s.digests) (n : Nat) (f : Ident) :
    t.identMatches n f = s.identMatches n f ∧ t.mismatchOf n f = s.mismatchOf n f := by
  constructor
  · simp [State.identMatches, State.sectorsMatch, State.sectorNumber, State.neighbourNumber, State.digest, hm, hd]
  · funext held
    simp [State.mismatchOf, State.sectorsMatch, State.sectorNumber, State.neighbourNumber, State.digest, hm, hd]

section
variable {s : State} {n : Nat} {f : Ident} (held : Mismatch)

theorem State.mismatchOf_sector (h : ¬ s.SectorsRight n f) : s.mismatchOf n f held = .sector :=
  if_pos (Bool.eq_false_iff.mpr fun hm => h ((s.sectorsMatch_iff n f).mp hm))

theorem State.mismatchOf_digest (h : s.SectorsRight n f) (hd : f.digest ≠ s.digest n) :
    s.mismatchOf n f held = .digest := by
  simp [State.mismatchOf, (s.sectorsMatch_iff n f).mpr h, hd]

theorem State.mismatchOf_held (h : s.SectorsRight n f) (hd : f.digest = s.digest n) : s.mismatchOf n f held = held := by
  simp [State.mismatchOf, (s.sectorsMatch_iff n f).mpr h, hd]

end

/-! ### Entering MATCHED and SYNCING -/

section
variable {s : State} {n : Nat} {l : Link}

/-- Entry to MATCHED of a unit with room (R137, R139). -/
theorem State.enterMatched_roomy (hl : s.links[n]? = some l) (hst : l.state ≠ .matched)
    (hroom : l.transmit.length < 64) : s.enterMatched n =
      { s.modLink n fun x =>
          { x with
            state := .matched, since := s.now, takenAt := s.now, identAt := s.now, partnerAck := false
            transmit := x.transmit ++ [s.identFrame n true] } with
        notices := { s.notices with peerChange := true } } := by
  have hlink := State.enterLink_link (st := .matched) (fun x => { x with partnerAck := false }) hl
  rw [State.enterMatched, State.sendIdent_roomy hlink hroom, State.enterLink_other _ hl hst]
  simp only [State.modLink, List.modify_modify_eq]
  rfl

/-- Entry to SYNCING of a unit with room: both sequences restart, and the SUMMARY is the first frame (R135, R140). -/
theorem State.enterSyncing_roomy (hl : s.links[n]? = some l) (hst : l.state ≠ .syncing)
    (hroom : l.transmit.length < 64) : s.enterSyncing n =
      { s.modLink n fun x =>
          { x with
            state := .syncing, since := s.now, takenAt := s.now, sendSeq := 1, recvSeq := 0
            sentSummary := s.summaryEntries n
            transmit := x.transmit ++ [⟨s.sectorNumber, 0, .summary (s.summaryEntries n)⟩] } with
        notices := { s.notices with peerChange := true } } := by
  have hlink := State.enterLink_link (st := .syncing)
    (fun x => { x with sendSeq := 0, recvSeq := 0, sentSummary := s.summaryEntries n }) hl
  rw [State.enterSyncing, State.sendNumbered_roomy hlink hroom, State.enterLink_other _ hl hst]
  simp only [State.modLink, List.modify_modify_eq]
  rfl

end

/-! ### An IDENT in PROBING (R138) -/

/-- A unit in PROBING that has taken an IDENT. -/
def Link.counted (l : Link) (f : Ident) (m : Mismatch) (count now : Nat) : Link :=
  { l with lastIdent := some f, mismatch := m, matchCount := count, takenAt := now }

section
variable {s : State} {n : Nat} {l : Link} {f : Ident}

theorem State.probingIdent_eq (hl : s.links[n]? = some l) : s.probingIdent n f =
    if 3 ≤ l.matchAfter (s.identMatches n f) f then
      (s.modLink n fun x =>
        x.counted f (s.mismatchOf n f l.mismatch) (l.matchAfter (s.identMatches n f) f) s.now).enterMatched n
    else
      s.modLink n fun x => x.counted f (s.mismatchOf n f l.mismatch) (l.matchAfter (s.identMatches n f) f) s.now := by
  have hcounted : ((s.recordIdent n f false).modLink n fun x =>
      { x with matchCount := l.matchAfter (s.identMatches n f) f }) =
      s.modLink n fun x => x.counted f (s.mismatchOf n f l.mismatch) (l.matchAfter (s.identMatches n f) f) s.now := by
    exact State.modLink_modLink hl (by simp [Link.counted])
  simp only [State.probingIdent, hl, hcounted]

theorem State.takeIdent_probing (hl : s.links[n]? = some l) (hst : l.state = .probing) :
    s.takeIdent n f = s.probingIdent n f := by
  simp only [State.takeIdent, hl, hst]

theorem Link.matchAfter_bad (l : Link) (f : Ident) : l.matchAfter false f = 0 := rfl

/-- An IDENT that does not match is counted 0, with its cause (R138). -/
theorem State.takeIdent_probing_bad (hl : s.links[n]? = some l) (hst : l.state = .probing)
    (h : ¬ (s.SectorsRight n f ∧ f.digest = s.digest n)) :
    s.takeIdent n f = s.modLink n fun x => x.counted f (s.mismatchOf n f l.mismatch) 0 s.now := by
  rw [State.takeIdent_probing hl hst, State.probingIdent_eq hl, State.identMatches_false h, Link.matchAfter_bad]
  rfl

/-- The count that an IDENT of an UP link starts (R138, R143). -/
theorem Link.matchAfter_fresh (good : Bool) (f : Ident) (h : l.lastIdent = none) :
    l.matchAfter good f = if good = true then 1 else 0 := by
  cases good <;> simp [Link.matchAfter, h]

/-! ### An IDENT outside PROBING (R139, R140, R143) -/

theorem State.takeIdent_disabled (hl : s.links[n]? = some l) (hst : l.state = .disabled) : s.takeIdent n f = s := by
  simp only [State.takeIdent, hl, hst]

theorem State.takeIdent_fault (hl : s.links[n]? = some l) (hst : l.state = .fault) : s.takeIdent n f = s.touch n := by
  simp only [State.takeIdent, hl, hst]

/-- In MATCHED and SYNCING an IDENT that does not match takes the unit to PROBING (R139, R140). -/
theorem State.takeIdent_mismatch (hl : s.links[n]? = some l) (hst : l.state = .matched ∨ l.state = .syncing)
    (h : s.identMatches n f = false) : s.takeIdent n f = (s.recordIdent n f true).enterProbing n := by
  rcases hst with hst | hst
  · simp only [State.takeIdent, hl, hst, State.matchedIdent, h, if_true]
  · simp [State.takeIdent, hl, hst, State.syncingIdent, h]

/-- In MATCHED a match with ack opens SYNCING (R139). -/
theorem State.takeIdent_matched (hl : s.links[n]? = some l) (hst : l.state = .matched) (h : s.identMatches n f = true) :
    s.takeIdent n f = if f.ack then (s.recordIdent n f true).enterSyncing n else s.recordIdent n f true := by
  simp [State.takeIdent, hl, hst, State.matchedIdent, h]

/-- In SYNCING a match without ack takes the unit to PROBING (R140). -/
theorem State.takeIdent_syncing (hl : s.links[n]? = some l) (hst : l.state = .syncing) (h : s.identMatches n f = true) :
    s.takeIdent n f = if f.ack then s.recordIdent n f true else (s.recordIdent n f true).enterProbing n := by
  simp [State.takeIdent, hl, hst, State.syncingIdent, h]

/-- The unit that has recorded an IDENT outside PROBING (R133, R138). -/
theorem State.recordIdent_link (hl : s.links[n]? = some l) : (s.recordIdent n f true).links[n]? =
    some { l with
      lastIdent := some f, partnerAck := l.partnerAck || f.ack, mismatch := s.mismatchOf n f l.mismatch
      takenAt := s.now } := by
  simp [State.recordIdent, hl]

/-- An IDENT taken in UP: the link departs, enters PROBING, and counts the IDENT as its first (R143, R145). -/
theorem State.takeIdent_up (hl : s.links[n]? = some l) (hst : l.state = .up) : s.DepartedAt (s.takeIdent n f) n ∧
    ∃ l', (s.takeIdent n f).links[n]? = some l' ∧ l'.state = .probing ∧ l'.lastIdent = some f ∧
      l'.matchCount = if s.identMatches n f = true then 1 else 0 := by
  have hd := State.departIfUp_link hl
  rw [if_pos hst] at hd
  have hdown := State.enterProbing_link hd
  rw [← State.takeDown_eq hl] at hdown
  obtain ⟨hm, -⟩ := State.ident_congr (s := s) (t := s.takeDown n) (Acts.takeDown s n).keeps.map
    (Acts.takeDown s n).keeps.digests n f
  have hcount : ((s.departIfUp n).probed n l.departed).matchAfter ((s.takeDown n).identMatches n f) f =
      if s.identMatches n f = true then 1 else 0 := by
    rw [Link.matchAfter_fresh _ _ rfl, hm]
  have htake : s.takeIdent n f = s.close ((s.takeDown n).modLink n fun x =>
      x.counted f ((s.takeDown n).mismatchOf n f l.departed.mismatch) (if s.identMatches n f = true then 1 else 0)
        (s.takeDown n).now) := by
    simp only [State.takeIdent, hl, hst, State.probingIdent_eq hdown, hcount]
    rw [if_neg (by split <;> decide)]
    rfl
  have hlink : ((s.takeDown n).modLink n fun x =>
      x.counted f ((s.takeDown n).mismatchOf n f l.departed.mismatch) (if s.identMatches n f = true then 1 else 0)
        (s.takeDown n).now).links[n]? = some (((s.departIfUp n).probed n l.departed).counted f
          ((s.takeDown n).mismatchOf n f l.departed.mismatch) (if s.identMatches n f = true then 1 else 0)
          (s.takeDown n).now) := by
    simp [hdown]
  rw [htake]
  refine ⟨State.close_departedAt hl ?_ hlink nofun rfl rfl, _, State.close_link hlink nofun, rfl, rfl, rfl⟩
  rw [State.modLink_lenses, State.takeDown_eq hl, State.enterProbing, State.enterLink_lenses,
    State.departIfUp_lenses hl hst]

end

end Sys2Proof.Machine

open Sys2Proof Sys2Proof.Machine

/-- Settles O35: in PROBING by whether the IDENT matches and what it counts to; in the other states one case each. -/
theorem identsActByLinkState : Obligations.IdentsActByLinkState := by
  constructor
  · intro s n l f hl hst sectors counted count
    have hexec : exec (.ident n f) s = .next (s.takeIdent n f) := rfl
    have hbad : ¬ (s.SectorsRight n f ∧ f.digest = s.digest n) →
        exec (.ident n f) s = .next (counted 0 (s.mismatchOf n f l.mismatch)) := fun h =>
      hexec.trans (congrArg _ (State.takeIdent_probing_bad hl hst h))
    refine ⟨fun hs => ?_, fun hs hd => ?_, fun hs hd => ?_⟩
    · rw [← State.mismatchOf_sector l.mismatch hs]
      exact hbad fun h => hs h.1
    · rw [← State.mismatchOf_digest l.mismatch hs hd]
      exact hbad fun h => hd h.2
    · have hmatch : s.identMatches n f = true := (s.identMatches_iff n f).mpr ⟨hs, hd⟩
      have hcount : l.matchAfter (s.identMatches n f) f = count := by
        simp [Link.matchAfter, hmatch, count]
      have hprobing := (State.takeIdent_probing (f := f) hl hst).trans (State.probingIdent_eq hl)
      rw [hcount, State.mismatchOf_held _ hs hd] at hprobing
      rw [hexec, hprobing]
      refine ⟨fun hlow => ?_, fun hhigh hroom => ?_⟩
      · rw [if_neg (by omega)]
        rfl
      · have hlink : (s.modLink n fun x => x.counted f l.mismatch count s.now).links[n]? =
            some (l.counted f l.mismatch count s.now) := by simp [hl]
        rw [if_pos hhigh, State.enterMatched_roomy hlink (by simp [Link.counted, hst]) hroom]
        refine congrArg _ (congrArg (fun t : State => { t with notices := { s.notices with peerChange := true } }) ?_)
        exact State.modLink_modLink hl rfl
  · intro s n l f hl _ sectors good
    have hacts := (ActsOut.ident s n f).acts rfl
    obtain ⟨l', hl'⟩ : ∃ l', (s.takeIdent n f).links[n]? = some l' := by
      have hlen := (List.getElem?_eq_some_iff.mp hl).1
      rw [← hacts.keeps.links] at hlen
      exact ⟨_, List.getElem?_eq_getElem hlen⟩
    have hrecord := State.recordIdent_link (f := f) hl
    have hmatches : good → s.identMatches n f = true := (s.identMatches_iff n f).mpr
    refine ⟨s.takeIdent n f, l', rfl, hacts.engine, hl', fun hst => ?_, fun hst hbad => ?_, fun hst hgood hack => ?_,
      fun hst hgood hack hroom => ?_, fun hst hgood hack => ?_, fun hst hgood hack => ?_, fun hst => ?_, fun hst => ?_⟩
    · exact State.takeIdent_disabled hl hst
    · rw [State.takeIdent_mismatch hl hst (State.identMatches_false hbad)] at hl' ⊢
      have hlink := State.enterProbing_link hrecord
      refine ⟨State.enterProbing_probingAt hrecord, ?_⟩
      cases hl'.symm.trans hlink
      by_cases hs : s.SectorsRight n f
      · rw [if_neg (by unfold State.SectorsRight at hs; tauto)]
        exact State.mismatchOf_digest _ hs fun hd => hbad ⟨hs, hd⟩
      · rw [if_pos (by unfold State.SectorsRight at hs; tauto)]
        exact State.mismatchOf_sector _ hs
    · rw [State.takeIdent_matched hl hst (hmatches hgood), hack] at hl'
      cases hl'.symm.trans hrecord
      exact ⟨hst, rfl⟩
    · rw [State.takeIdent_matched hl hst (hmatches hgood), hack, if_pos rfl,
        State.enterSyncing_roomy hrecord (by simp [hst]) hroom] at hl'
      simp only [State.modLink_links, List.getElem?_modify_eq, hrecord, Option.map_eq_map, Option.map_some,
        Option.some.injEq] at hl'
      subst hl'
      exact ⟨rfl, rfl, rfl, rfl, rfl⟩
    · rw [State.takeIdent_syncing hl hst (hmatches hgood), hack] at hl'
      cases hl'.symm.trans hrecord
      exact ⟨hst, rfl⟩
    · rw [State.takeIdent_syncing hl hst (hmatches hgood), hack]
      exact State.enterProbing_probingAt hrecord
    · obtain ⟨hdeparted, l1, hl1, hprobing, hident, hcount⟩ := State.takeIdent_up (f := f) hl hst
      cases hl'.symm.trans hl1
      refine ⟨hdeparted, hprobing, ?_, hident⟩
      rw [hcount]
      simp only [State.identMatches_iff, State.SectorsRight, and_assoc]
    · have hfault := State.takeIdent_fault (f := f) hl hst
      rw [hfault] at hl' ⊢
      simp only [State.touch, State.modLink_links, List.getElem?_modify_eq, hl, Option.map_eq_map, Option.map_some,
        Option.some.injEq] at hl'
      subst hl'
      exact ⟨hst, rfl⟩
end

section
/-! The layout of peer frames, written and read back (R135, R181). -/

namespace Sys2Proof.Machine

/-! ### Fields -/

theorem byteOf_toNat {n : Nat} (h : n < 256) : (byteOf n).toNat = n := by
  simp [byteOf, Nat.mod_eq_of_lt h]

theorem pairValue_wordOf {n : Nat} (h : n < 65536) :
    pairValue (BitVec.ofNat 8 (n / 256)) (BitVec.ofNat 8 n) = n := by
  simp only [pairValue, BitVec.toNat_ofNat]
  omega

theorem word16_wordOf (w : Word16) : word16 (BitVec.ofNat 8 (w.toNat / 256)) (BitVec.ofNat 8 w.toNat) = w := by
  apply BitVec.eq_of_toNat_eq
  have hw : w.toNat < 65536 := w.isLt
  have hlow : w.toNat % 2 ^ 8 < 2 ^ 8 := Nat.mod_lt _ (by decide)
  simp only [word16, BitVec.toNat_append, BitVec.toNat_ofNat]
  rw [← Nat.shiftLeft_add_eq_or_of_lt hlow, Nat.shiftLeft_eq]
  omega

/-! ### The frame around a payload -/

theorem coreOf_framed (lead hi lo : Byte) (core : List Byte) : coreOf (lead :: (core ++ [hi, lo])) = core := by
  simp [coreOf]

theorem framed_crc (lead hi lo : Byte) (core : List Byte) :
    (lead :: (core ++ [hi, lo])).getD ((lead :: (core ++ [hi, lo])).length - 2) 0 = hi ∧
      (lead :: (core ++ [hi, lo])).getD ((lead :: (core ++ [hi, lo])).length - 1) 0 = lo := by
  simp

theorem PeerBody.kind_lt (b : PeerBody) : b.kind < 256 := by
  cases b with
  | border m _ => cases m <;> exact Nat.lt_of_sub_eq_succ rfl
  | _ => exact Nat.lt_of_sub_eq_succ rfl

/-- A frame reads back as the command that its kind and payload stand for, with its header (R181). -/
theorem readPeerFrame_bytes (link : Nat) (f : PeerFrame) (hsender : f.sender < 256) (hseq : f.seq < 256)
    (hlen : f.body.payload.length < 65536) : readPeerFrame link f.bytes =
      (payloadCommand f.body.kind ⟨link, f.sender, f.seq⟩ f.body.payload).getD (.peerFrameError link) := by
  obtain ⟨hhi, hlo⟩ := framed_crc 0x5A#8 (BitVec.ofNat 8 ((crc16 f.core).toNat / 256))
    (BitVec.ofNat 8 (crc16 f.core).toNat) f.core
  have hlong : ¬ f.bytes.length < 8 := by simp [PeerFrame.bytes, PeerFrame.core, wordOf]
  have hlead : ¬ (f.bytes.length < 8 ∨ f.bytes.getD 0 0 ≠ 0x5A#8) := by
    simp only [hlong, false_or, not_not]
    rfl
  have hcore : coreOf f.bytes = f.core := coreOf_framed _ _ _ f.core
  have hcrc : ¬ crc16 (coreOf f.bytes) ≠
      word16 (f.bytes.getD (f.bytes.length - 2) 0) (f.bytes.getD (f.bytes.length - 1) 0) := by
    rw [hcore, not_not, show f.bytes = 0x5A#8 :: (f.core ++ [_, _]) from rfl, hhi, hlo, word16_wordOf]
  have hfields : f.core.getD 0 0 = byteOf f.body.kind ∧ f.core.getD 1 0 = byteOf f.sender ∧
      f.core.getD 2 0 = byteOf f.seq ∧ f.core.getD 3 0 = BitVec.ofNat 8 (f.body.payload.length / 256) ∧
      f.core.getD 4 0 = BitVec.ofNat 8 f.body.payload.length ∧ f.core.drop 5 = f.body.payload :=
    ⟨rfl, rfl, rfl, rfl, rfl, rfl⟩
  obtain ⟨hkind, hs, hq, hl1, hl2, hpayload⟩ := hfields
  simp only [readPeerFrame, if_neg hlead, if_neg hcrc]
  rw [hcore, hkind, hs, hq, hl1, hl2, hpayload, pairValue_wordOf hlen, if_neg (by simp), byteOf_toNat f.body.kind_lt,
    byteOf_toNat hsender, byteOf_toNat hseq]

/-! ### Payloads -/

/-- The entries of a SUMMARY survive their layout (R181). -/
theorem summaryEntriesOf_flatMap (l : List (Nat × SummaryState)) (h : ∀ x ∈ l, x.1 < 65536) :
    summaryEntriesOf (l.flatMap fun x => wordOf x.1 ++ [summaryByte x.2]) =
      some (l.map fun x => ⟨x.1, if x.2 = .held then 1 else 2⟩) := by
  induction l with
  | nil => rfl
  | cons x l ih =>
    have hx : x.1 < 65536 := h x List.mem_cons_self
    have hbyte : (summaryByte x.2).toNat = if x.2 = .held then 1 else 2 := by cases x.2 <;> rfl
    have hrest := ih fun y hy => h y (List.mem_cons_of_mem _ hy)
    have hstep : summaryEntriesOf ((x :: l).flatMap fun x => wordOf x.1 ++ [summaryByte x.2]) =
        (summaryEntriesOf (l.flatMap fun x => wordOf x.1 ++ [summaryByte x.2])).map fun entries =>
          ⟨pairValue (BitVec.ofNat 8 (x.1 / 256)) (BitVec.ofNat 8 x.1), (summaryByte x.2).toNat⟩ :: entries := rfl
    rw [hstep, hrest, pairValue_wordOf hx, hbyte]
    rfl

/-- The command of a SUMMARY's payload (R136, R181). -/
theorem payloadCommand_summary (h : PeerHeader) (a b : Byte) (bytes : List Byte) (entries : List SummaryEntry)
    (he : summaryEntriesOf bytes = some entries) :
    payloadCommand 2 h (a :: b :: bytes) = some (.summary h (pairValue a b) entries) := by
  rcases bytes with _ | ⟨c, _ | ⟨d, _ | ⟨e, _ | ⟨f, _ | ⟨g, rest⟩⟩⟩⟩⟩
  · cases he
    rfl
  · cases he
  · cases he
  · exact congrArg (Option.map _) he
  · cases he
  · exact congrArg (Option.map _) he

/-- Each border message's payload stands for its command (R135, R181). -/
theorem payloadCommand_border (h : PeerHeader) (m : BorderMessage) {n : LensName} (hp : n.position < 65536)
    (ha : n.arbiterSite < 256) (hc : n.clientSite < 256) :
    payloadCommand m.kind h (PeerBody.border m n).payload = some (match m with
      | .claim => .claim h n
      | .grant => .grant h n
      | .refuse reason => .refuse h n reason
      | .withdraw => .withdraw h n
      | .release => .release h n
      | .pin => .pin h n
      | .hold => .hold h n) := by
  have hname : lensNameOf (BitVec.ofNat 8 (n.position / 256)) (BitVec.ofNat 8 n.position) (byteOf n.arbiterSite)
      (byteOf n.clientSite) = n := by
    rw [lensNameOf, pairValue_wordOf hp, byteOf_toNat ha, byteOf_toNat hc]
  have hplain : ∀ (kind : Nat), payloadCommand kind h (wordOf n.position ++ [byteOf n.arbiterSite, byteOf n.clientSite]) =
      borderCommand kind h n := fun kind => congrArg (borderCommand kind h) hname
  cases m with
  | refuse reason =>
    have hrefuse : payloadCommand 6 h (PeerBody.border (.refuse reason) n).payload =
        refuseCommand 6 h n (reasonByte reason) := congrArg (fun x => refuseCommand 6 h x (reasonByte reason)) hname
    cases reason <;> exact hrefuse
  | _ => exact hplain _

end Sys2Proof.Machine

open Sys2Proof Sys2Proof.Machine

/-- Settles O42: a frame reads back as the command of its kind and payload (`readPeerFrame_bytes`), and each payload
stands for what it was written from. -/
theorem peerFramesReadBack : Obligations.PeerFramesReadBack := by
  intro link f hsender hseq h
  have hread : ∀ b c, f.body = b → b.payload.length < 65536 → payloadCommand b.kind h b.payload = some c →
      readPeerFrame link f.bytes = c := fun b c hb hlen hc => by
    subst hb
    rw [readPeerFrame_bytes link f hsender hseq hlen, hc, Option.getD_some]
  refine ⟨fun x hb hs he hl => ?_, fun hb => ?_, fun l hb hlen hpos => ?_, fun m n hb hp ha hc => ?_⟩
  · refine hread _ _ hb (by simp [PeerBody.payload, wordOf]) ?_
    have hack : ((if x.ack then 1 else 0 : Byte) != 0) = x.ack := by cases x.ack <;> rfl
    simp only [PeerBody.kind, PeerBody.payload, wordOf, List.cons_append, List.nil_append, payloadCommand, if_true,
      byteOf_toNat hs, byteOf_toNat he, byteOf_toNat hl, word16_wordOf, hack]
    rfl
  · exact hread _ _ hb (by simp [PeerBody.payload]) rfl
  · have hbytes : (l.flatMap fun x => wordOf x.1 ++ [summaryByte x.2]).length = 3 * l.length := by
      simp [wordOf, List.length_flatMap, Nat.mul_comm]
    have hcommand := payloadCommand_summary h (BitVec.ofNat 8 (l.length / 256)) (BitVec.ofNat 8 l.length) _ _
      (summaryEntriesOf_flatMap l hpos)
    rw [pairValue_wordOf (by omega)] at hcommand
    refine hread _ _ hb ?_ hcommand
    rw [PeerBody.payload, List.length_append, hbytes]
    simp only [wordOf, List.length_cons, List.length_nil]
    omega
  · refine hread _ _ hb ?_ (payloadCommand_border h m hp ha hc)
    cases m <;> simp [PeerBody.payload, BorderMessage.tailBytes, wordOf]
end

section
/-! The adoption of one lens by the arbiter side (R141). -/

namespace Sys2Proof.Machine

/-- What the arbiter side makes of a record where the client says `e` of its side `p` (R141). -/
def Decided.adopted (d : Decided) (p : Party) : Option SummaryState → Decided
  | some .held =>
    if d.heldBy p then d.setKind p .occupied
    else if d.heldBy p.other then d
    else if d.pinned p.other then d.addPin p
    else d.occupyBy p
  | some .pinned => if d.heldBy p then d.toPin p else d.addPin p
  | none => if d.heldBy p then d.release else if d.pinned p then d.removePin p else d

/-- The lens of an adopted record. -/
def Lens.adopted (e : Option SummaryState) (l : Lens) : Lens :=
  match l.remoteParty, l.body with
  | some p, .decided d => { l with body := .decided (d.adopted p e) }
  | _, _ => l

theorem Lens.adopted_decided {l : Lens} {d : Decided} {p : Party} (e : Option SummaryState) (hb : l.body = .decided d)
    (hp : l.remoteParty = some p) : l.adopted e = { l with body := .decided (d.adopted p e) } := by
  simp only [Lens.adopted, hp, hb]

section
variable {d : Decided} {p : Party} {kind : HoldKind}

/-- The remote side's own holding is adopted as the client says. -/
theorem Decided.adopted_held (h : d.holder = some (p, kind)) :
    d.adopted p (some .held) = { d with holder := some (p, .occupied) } ∧ d.adopted p (some .pinned) = d.toPin p ∧
      d.adopted p none = d.release := by
  have hp : d.heldBy p = true := by simp [Decided.heldBy, h]
  simp [Decided.adopted, Decided.setKind, hp]

/-- Where nobody holds, the client's words are taken, but for a HELD that meets a local pin. -/
theorem Decided.adopted_unheld (h : d.holder = none) :
    d.adopted p (some .held) = (if d.pinned p.other = true then d.setPin p true
      else { (d.setPin p false) with holder := some (p, .occupied) }) ∧
    d.adopted p (some .pinned) = d.setPin p true ∧ d.adopted p none = d.setPin p false := by
  have hpin : d.addPin p = d.setPin p true := by simp [Decided.addPin, h]
  have hsame : d.pinned p = false → d = d.setPin p false := by
    obtain ⟨holder, pinA, pinB, waiter, deadline⟩ := d
    cases p <;> rintro ⟨⟩ <;> rfl
  refine ⟨?_, ?_, ?_⟩
  · simp only [Decided.adopted, Decided.Ebbs.heldBy_false h, hpin, Decided.occupyBy, Decided.removePin, Bool.false_eq_true,
      if_false, Bool.or_false]
    split <;> rfl
  · simp [Decided.adopted, Decided.Ebbs.heldBy_false h, hpin]
  · simp only [Decided.adopted, Decided.Ebbs.heldBy_false h, Decided.removePin, Bool.false_eq_true, if_false]
    split
    · rfl
    · next hp => exact hsame (by simpa using hp)

/-- A local holding stands, whatever the client says. -/
theorem Decided.adopted_other (hwf : d.wf = true) (h : d.holder = some (p.other, kind)) (e : Option SummaryState) :
    d.adopted p e = d := by
  have hp : d.heldBy p = false := by cases p <;> simp [Decided.heldBy, h, Party.other]
  have ho : d.heldBy p.other = true := by simp [Decided.heldBy, h]
  have hpin : d.pinned p = false := Decided.pinned_of_held hwf (by simp [h]) p
  rcases e with _ | _ | _ <;> simp [Decided.adopted, hp, ho, hpin, Decided.addPin, h]

/-- What is disputed (R141). -/
theorem Decided.disputed_iff (d : Decided) (p : Party) (e : Option SummaryState) :
    d.disputed p e = true ↔ e = some .held ∧ (d.heldBy p.other = true ∨ d.pinned p.other = true) := by
  simp [Decided.disputed]

end

section
variable {s : State} {i : Nat} {l : Lens} {d : Decided}

/-- With no waiter, adoption replaces the record and tells nobody. -/
theorem State.adoptLens_unwaited (p : Party) (e : Option SummaryState) (hl : s.lenses[i]? = some l)
    (hb : l.body = .decided d) (hw : d.waiter = none) : s.adoptLens i l d p e = s.setDecided i (d.adopted p e) := by
  have hsame : s = s.setDecided i d := (State.modLens_same hl hb).symm
  rcases e with _ | _ | _
  · simp only [State.adoptLens, Decided.adopted, State.releaseDecided, hw]
    split
    · cases d.holder <;> rfl
    · split
      · rfl
      · exact hsame
  · simp only [State.adoptLens, Decided.adopted]
    split
    · rfl
    · split
      · exact hsame
      · split <;> rfl
  · simp only [State.adoptLens, Decided.adopted, State.holdingToPin, hw]
    split <;> rfl

/-- Where a local robot waits behind the remote holder, a released holding is granted to it (R57, R59). -/
theorem State.adoptLens_granted {p q : Party} {kind : HoldKind} (hd : d.holder = some (p, kind)) (hw : d.waiter = some q)
    {j : Nat} (hside : l.side q = .site j) : s.adoptLens i l d p none = (s.setDecided i (d.adopted p none)).grantRobot j := by
  have hp : d.heldBy p = true := by simp [Decided.heldBy, hd]
  simp [State.adoptLens, Decided.adopted, hp, State.releaseDecided, hd, hw, hside, State.tellGrant]

/-- Where it waits at a holding that the client has pinned, its claim is denied (R57). -/
theorem State.adoptLens_denied {p q : Party} {kind : HoldKind} (hd : d.holder = some (p, kind)) (hw : d.waiter = some q)
    {j : Nat} (hside : l.side q = .site j) :
    s.adoptLens i l d p (some .pinned) = (s.setDecided i (d.adopted p (some .pinned))).denyRobot j .pinned := by
  have hp : d.heldBy p = true := by simp [Decided.heldBy, hd]
  simp [State.adoptLens, Decided.adopted, hp, State.holdingToPin, hw, hside, State.tellDeny, DenyReason.ofRefusal]

/-- A holding that the client confirms keeps its waiter. -/
theorem State.adoptLens_held {p : Party} {kind : HoldKind} (hd : d.holder = some (p, kind)) :
    s.adoptLens i l d p (some .held) = s.setDecided i (d.adopted p (some .held)) := by
  have hp : d.heldBy p = true := by simp [Decided.heldBy, hd]
  simp [State.adoptLens, Decided.adopted, hp]

end

end Sys2Proof.Machine
end

section
/-! The walk over a link's border list that adopts a SUMMARY, and the state it concludes in (R140, R141, R147). -/

namespace Sys2Proof.Machine

/-! ### Border lists -/

theorem State.borderList_nodup (s : State) (n : Nat) : (s.borderList n).Nodup := List.nodup_range.filter _

theorem State.mem_borderList {s : State} {n i : Nat} (h : i ∈ s.borderList n) :
    ∃ l, s.lenses[i]? = some l ∧ l.link = some n := by
  have hhas := (List.mem_filter.mp h).2
  rw [State.lensHas, Option.any_eq_true] at hhas
  obtain ⟨l, hl, hlink⟩ := hhas
  exact ⟨l, hl, by simpa using hlink⟩

theorem State.borderPlaces_nodup (s : State) (n : Nat) : ((s.borderList n).zipIdx.map (·.1)).Nodup := by
  rw [List.zipIdx_map_fst]
  exact s.borderList_nodup n

theorem State.mem_borderPlaces {s : State} {n : Nat} {x : Nat × Nat} (h : x ∈ (s.borderList n).zipIdx) :
    x.1 ∈ s.borderList n :=
  List.fst_mem_of_mem_zipIdx h

/-! ### The walk -/

/-- A decided record at which nobody waits, of a border lens. -/
def Lens.Quiet (l : Lens) : Prop := l.remoteParty ≠ none ∧ ∃ d, l.body = .decided d ∧ d.waiter = none

/-- Whether what the client says of a lens is disputed (R141). -/
def Lens.disputes (e : Option SummaryState) (l : Lens) : Bool :=
  match l.remoteParty, l.body with
  | some p, .decided d => d.disputed p e
  | _, _ => false

/-- The lenses of the places `places` have been adopted between `a` and `b`, and nothing else has changed. -/
structure AdoptedAt (entries : List SummaryEntry) (places : List (Nat × Nat)) (a b : State × List Nat) : Prop where
  frame : b.1 = { a.1 with lenses := b.1.lenses }
  lens : ∀ x ∈ places, b.1.lenses[x.1]? = (a.1.lenses[x.1]?).map (Lens.adopted (entryFor entries x.2))
  apart : ∀ i, i ∉ places.map (·.1) → b.1.lenses[i]? = a.1.lenses[i]?
  disputes : b.2 = a.2 ++
    (places.filter fun x => (a.1.lenses[x.1]?).any (Lens.disputes (entryFor entries x.2))).map (·.1)

/-- A lens at which nobody waits is adopted, and noted where it is disputed (R141). -/
theorem adoptPosition_quiet {entries : List SummaryEntry} {a : State × List Nat} {x : Nat × Nat} {l : Lens}
    (hl : a.1.lenses[x.1]? = some l) (hq : l.Quiet) : adoptPosition entries a x =
      ({ a.1 with lenses := a.1.lenses.modify x.1 (Lens.adopted (entryFor entries x.2)) },
        if l.disputes (entryFor entries x.2) then a.2 ++ [x.1] else a.2) := by
  obtain ⟨hp, d, hb, hw⟩ := hq
  obtain ⟨p, hp⟩ := Option.ne_none_iff_exists'.mp hp
  have hset : a.1.setDecided x.1 (d.adopted p (entryFor entries x.2)) =
      { a.1 with lenses := a.1.lenses.modify x.1 (Lens.adopted (entryFor entries x.2)) } := by
    refine congrArg (fun lenses => { a.1 with lenses }) (modify_congr fun y hy => ?_)
    cases hl.symm.trans hy
    exact (Lens.adopted_decided _ hb hp).symm
  simp only [adoptPosition, hl, hp, hb, State.adoptLens_unwaited p _ hl hb hw, hset, Lens.disputes]

/-- Lenses at which nobody waits are adopted one after another. -/
theorem adoptedAt_foldl (entries : List SummaryEntry) {places : List (Nat × Nat)} (h : (places.map (·.1)).Nodup)
    (a : State × List Nat) (hq : ∀ x ∈ places, ∃ l, a.1.lenses[x.1]? = some l ∧ l.Quiet) :
    AdoptedAt entries places a (places.foldl (adoptPosition entries) a) := by
  induction places generalizing a with
  | nil => exact ⟨rfl, nofun, fun _ _ => rfl, by simp⟩
  | cons x rest ih =>
    obtain ⟨hx, hrest⟩ := List.nodup_cons.mp h
    obtain ⟨l, hl, hlq⟩ := hq x List.mem_cons_self
    have hother : ∀ i, i ≠ x.1 → (adoptPosition entries a x).1.lenses[i]? = a.1.lenses[i]? := fun i hi => by
      rw [adoptPosition_quiet hl hlq]
      simp [Ne.symm hi]
    have hne : ∀ y ∈ rest, y.1 ≠ x.1 := fun y hy hyx => hx (List.mem_map.mpr ⟨y, hy, hyx⟩)
    obtain ⟨hframe, hlens, hapart, hdisputes⟩ := ih hrest (adoptPosition entries a x) fun y hy => by
      rw [hother _ (hne y hy)]
      exact hq y (List.mem_cons_of_mem _ hy)
    refine ⟨?_, fun y hy => ?_, fun i hi => ?_, ?_⟩
    · rw [List.foldl_cons, hframe, adoptPosition_quiet hl hlq]
    · rw [List.foldl_cons]
      rcases List.mem_cons.mp hy with rfl | hy
      · rw [hapart _ hx, adoptPosition_quiet hl hlq]
        simp
      · rw [hlens y hy, hother _ (hne y hy)]
    · obtain ⟨hix, hirest⟩ : i ≠ x.1 ∧ i ∉ rest.map (·.1) := by simpa using hi
      rw [List.foldl_cons, hapart i hirest, hother i hix]
    · have hsame : (rest.filter fun y => ((adoptPosition entries a x).1.lenses[y.1]?).any
          (Lens.disputes (entryFor entries y.2))) =
          rest.filter fun y => (a.1.lenses[y.1]?).any (Lens.disputes (entryFor entries y.2)) :=
        List.filter_congr fun y hy => by rw [hother _ (hne y hy)]
      rw [List.foldl_cons, hdisputes, hsame, adoptPosition_quiet hl hlq, List.filter_cons, hl]
      cases hd : l.disputes (entryFor entries x.2) <;> simp [hd]

/-! ### The state that is concluded in -/

/-- The end of an adoption: the disputes are noted, and the unit enters UP or FAULT (R141, R147). -/
def State.concluded (t : State) (n : Nat) (disputes : List Nat) : State :=
  let u := t.modLink n fun l =>
    { l with
      lastDisputeCount := disputes.length, lastDisputeLens := disputes.head?
      dispute := l.dispute || !disputes.isEmpty }
  if disputes.isEmpty then u.enterUp n else u.enterFault n

theorem State.adopt_eq (s : State) (n : Nat) (entries : List SummaryEntry) :
    s.adopt n entries = s.close (((s.borderList n).zipIdx.foldl (adoptPosition entries) (s.summaryTaken n, [])).1.concluded n
      ((s.borderList n).zipIdx.foldl (adoptPosition entries) (s.summaryTaken n, [])).2) := rfl

theorem State.concluded_frame (t : State) (n : Nat) (disputes : List Nat) :
    (t.concluded n disputes).lenses = t.lenses ∧ (t.concluded n disputes).robots = t.robots ∧
      (t.concluded n disputes).outcomes = t.outcomes := by
  unfold State.concluded
  simp only
  split
  · exact ⟨State.enterLink_lenses _ _ _ _, (State.enterLink_robots _ _ _ _).1, (State.enterLink_robots _ _ _ _).2⟩
  · exact ⟨State.enterLink_lenses _ _ _ _, (State.enterLink_robots _ _ _ _).1, (State.enterLink_robots _ _ _ _).2⟩

/-- The unit of an adoption that has concluded. -/
theorem State.concluded_link {t : State} {n : Nat} {l : Link} (disputes : List Nat) (hl : t.links[n]? = some l) :
    ∃ l', (t.concluded n disputes).links[n]? = some l' ∧ l'.recvSeq = l.recvSeq ∧
      l'.lastDisputeCount = disputes.length ∧ l'.lastDisputeLens = disputes.head? ∧
      l'.state = (if disputes = [] then .up else .fault) ∧ l'.dispute = (l.dispute || !disputes.isEmpty) := by
  have hnoted : (t.modLink n fun l =>
      { l with
        lastDisputeCount := disputes.length, lastDisputeLens := disputes.head?
        dispute := l.dispute || !disputes.isEmpty }).links[n]? = some { l with
      lastDisputeCount := disputes.length, lastDisputeLens := disputes.head?
      dispute := l.dispute || !disputes.isEmpty } := by simp [hl]
  unfold State.concluded
  cases disputes with
  | nil => exact ⟨_, State.enterLink_link _ hnoted, rfl, rfl, rfl, rfl, rfl⟩
  | cons x rest => exact ⟨_, State.enterLink_link _ hnoted, rfl, rfl, rfl, rfl, rfl⟩

/-! ### Adoption where nobody waits -/

/-- What the adoption of a SUMMARY leaves where nobody waits at the link's lenses (R141, R147). -/
theorem State.adopt_quiet {s : State} {n : Nat} {l : Link} {entries : List SummaryEntry} (hl : s.links[n]? = some l)
    (hquiet : s.NoDenialWaits)
    (hq : ∀ y ∈ s.lenses, y.link = some n → ∃ d, y.body = .decided d ∧ d.waiter = none) :
    let disputes := ((s.borderList n).zipIdx.filter fun x =>
      (s.lenses[x.1]?).any (Lens.disputes (entryFor entries x.2))).map (·.1)
    (∃ l', (s.adopt n entries).links[n]? = some l' ∧ l'.recvSeq = 1 ∧
      l'.lastDisputeCount = disputes.length ∧ l'.lastDisputeLens = disputes.head? ∧
      l'.state = (if disputes = [] then .up else .fault) ∧ l'.dispute = (l.dispute || !disputes.isEmpty)) ∧
    (∀ x ∈ (s.borderList n).zipIdx,
      (s.adopt n entries).lenses[x.1]? = (s.lenses[x.1]?).map (Lens.adopted (entryFor entries x.2))) ∧
    ∀ i, i ∉ s.borderList n → (s.adopt n entries).lenses[i]? = s.lenses[i]? := by
  intro disputes
  obtain ⟨hframe, hlens, hapart, hdisputes⟩ := adoptedAt_foldl entries (s.borderPlaces_nodup n) (s.summaryTaken n, [])
    fun x hx => by
      obtain ⟨y, hy, hlink⟩ := State.mem_borderList (State.mem_borderPlaces hx)
      obtain ⟨p, hp⟩ := Lens.remoteParty_of_link hlink
      exact ⟨y, hy, by simp [hp], hq y (List.mem_of_getElem? hy) hlink⟩
  rw [State.adopt_eq]
  generalize (s.borderList n).zipIdx.foldl (adoptPosition entries) (s.summaryTaken n, []) = b at *
  obtain ⟨t, noted⟩ := b
  replace hframe : t = { s.summaryTaken n with lenses := t.lenses } := hframe
  replace hdisputes : noted = disputes := hdisputes
  obtain ⟨hl1, hr1, ho1⟩ := t.concluded_frame n disputes
  have hclose : s.close (t.concluded n disputes) = t.concluded n disputes := by
    refine State.close_quiet' (fun r hr => hquiet r ?_) (ho1.trans ?_)
    · rw [hr1, hframe] at hr
      exact hr
    · rw [hframe]
      rfl
  have htaken : t.links[n]? = some { l with recvSeq := 1, takenAt := s.now } := by
    rw [hframe]
    simp [State.summaryTaken, hl]
  simp only [hdisputes, hclose, hl1]
  refine ⟨State.concluded_link disputes htaken, hlens, fun i hi => hapart i ?_⟩
  rw [List.zipIdx_map_fst]
  exact hi

end Sys2Proof.Machine
end

section
/-! Adoption where a local robot waits behind the remote holder of one lens (R57, R59, R93, R141). -/

namespace Sys2Proof.Machine

/-! ### What the robot is told -/

/-- A robot that is granted its lens (R81). -/
def Robot.granted (r : Robot) : Robot := if r.state = .waitLens then { r with state := .queued } else r

/-- A robot whose waiting claim is denied (R93). -/
def Robot.denied (reason : DenyReason) (r : Robot) : Robot :=
  if r.state = .queued ∨ r.state = .waitLens ∨ r.state = .inLeg then
    { r with move := r.move.map fun m => { m with pendingDenial := some reason } }
  else r

/-- `tell` tells robot `j`, whose record is `y`, what `g` makes of it, and changes no lens and no outcome. -/
def TellsRobot (j : Nat) (y : Robot) (g : Robot → Robot) (tell : State → State) : Prop :=
  ∀ u : State, u.robots[j]? = some y →
    (tell u).robots = u.robots.modify j g ∧ (tell u).lenses = u.lenses ∧ (tell u).outcomes = u.outcomes

theorem State.joinQueue_frame (t : State) (j : Nat) : (t.joinQueue j).robots = t.robots ∧
    (t.joinQueue j).lenses = t.lenses ∧ (t.joinQueue j).outcomes = t.outcomes := by
  unfold State.joinQueue
  split
  · exact ⟨rfl, rfl, rfl⟩
  · split
    · exact ⟨rfl, rfl, rfl⟩
    · split <;> exact ⟨rfl, rfl, rfl⟩

theorem tellsRobot_nothing (j : Nat) (y : Robot) : TellsRobot j y id id :=
  fun _ _ => ⟨(List.modify_id ..).symm, rfl, rfl⟩

theorem tellsRobot_grant (j : Nat) (y : Robot) : TellsRobot j y Robot.granted (·.grantRobot j) := fun s hy => by
  have hsame (f : Robot → Robot) (hf : f y = y.granted) : s.robots.modify j f = s.robots.modify j Robot.granted :=
    modify_congr fun x hx => by
      cases hy.symm.trans hx
      exact hf
  simp only [State.grantRobot, hy]
  split
  · next hst =>
    obtain ⟨h1, h2, h3⟩ := (s.modRobot j fun x => { x with state := .queued }).joinQueue_frame j
    exact ⟨h1.trans (hsame _ (by simp [Robot.granted, hst])), h2, h3⟩
  · next hst => exact ⟨(List.modify_id ..).symm.trans (hsame id (by simp [Robot.granted, hst])), rfl, rfl⟩

theorem State.denyRobot_eq {s : State} {j : Nat} {y : Robot} (hy : s.robots[j]? = some y) (reason : DenyReason) :
    s.denyRobot j reason = s.modRobot j (Robot.denied reason) := by
  simp only [State.denyRobot, hy, State.modMove]
  split
  · next hst => exact State.modRobot_congr hy (by simp [Robot.denied, hst])
  · next hst =>
    rw [State.modRobot_congr (g := id) hy (by simp [Robot.denied, hst])]
    exact congrArg (fun robots => { s with robots }) (List.modify_id ..).symm

theorem tellsRobot_deny (j : Nat) (y : Robot) (reason : DenyReason) :
    TellsRobot j y (Robot.denied reason) (·.denyRobot j reason) := fun s hy => by
  simp only [State.denyRobot_eq hy reason]
  exact ⟨rfl, rfl, rfl⟩

/-- A grant leaves no denial where none waits. -/
theorem Robot.granted_quiet {y : Robot} (h : y.deniedAtRest = none) : y.granted.deniedAtRest = none := by
  unfold Robot.granted
  split
  · next hst => simpa [Robot.deniedAtRest, hst] using h
  · exact h

/-- A denial of a robot that is not at rest with a move stays noted at most (R93). -/
theorem Robot.denied_quiet {y : Robot} (h : y.deniedAtRest = none) (hrest : y.atRest = true → y.move = none)
    (reason : DenyReason) : (y.denied reason).deniedAtRest = none := by
  unfold Robot.denied
  split
  · by_cases hst : y.atRest = true
    · exact Robot.deniedAtRest_none (by simp [hrest hst])
    · have hno : ¬ (y.state = .queued ∨ y.state = .waitLens) := by simpa [Robot.atRest] using hst
      simp [Robot.deniedAtRest, hno]
  · exact h

/-! ### The walk with one lens that has a waiter -/

section
variable {s : State} {n i pos j : Nat} {l : Lens} {d : Decided} {p : Party} {entries : List SummaryEntry}
  {tell : State → State} {g : Robot → Robot} {y : Robot}

/-- The walk over the border list where lens `i` alone has a waiter: that lens is adopted, and robot `j` told. -/
theorem adoptWalk_telling {a : State × List Nat} {places : List (Nat × Nat)} (hnd : (places.map (·.1)).Nodup)
    (hplace : (i, pos) ∈ places) (hl : a.1.lenses[i]? = some l) (hb : l.body = .decided d)
    (hp : l.remoteParty = some p) (hy : a.1.robots[j]? = some y)
    (hquiet : ∀ x ∈ places, x.1 ≠ i → ∃ z, a.1.lenses[x.1]? = some z ∧ z.Quiet)
    (hadopt : ∀ u : State, u.adoptLens i l d p (entryFor entries pos) =
      tell (u.setDecided i (d.adopted p (entryFor entries pos)))) (htell : TellsRobot j y g tell) :
    (places.foldl (adoptPosition entries) a).1.robots = a.1.robots.modify j g ∧
      (places.foldl (adoptPosition entries) a).1.outcomes = a.1.outcomes ∧
      (places.foldl (adoptPosition entries) a).1.lenses[i]? =
        some { l with body := .decided (d.adopted p (entryFor entries pos)) } := by
  obtain ⟨before, after, rfl⟩ := List.append_of_mem hplace
  rw [List.map_append, List.map_cons] at hnd
  obtain ⟨hnd1, hnd2, hdisjoint⟩ := List.nodup_append.mp hnd
  obtain ⟨hafter, hnd2⟩ := List.nodup_cons.mp hnd2
  have hbefore : i ∉ before.map (·.1) := fun h => hdisjoint i h i List.mem_cons_self rfl
  have h1 := adoptedAt_foldl entries hnd1 a fun x hx =>
    hquiet x (by simp [hx]) fun h => hbefore (List.mem_map.mpr ⟨x, hx, h⟩)
  rw [List.foldl_append, List.foldl_cons]
  generalize before.foldl (adoptPosition entries) a = b1 at h1 ⊢
  have hl1 : b1.1.lenses[i]? = some l := (h1.apart i hbefore).trans hl
  have hr1 : b1.1.robots = a.1.robots := by rw [h1.frame]
  have ho1 : b1.1.outcomes = a.1.outcomes := by rw [h1.frame]
  have hstep : (adoptPosition entries b1 (i, pos)).1 =
      tell (b1.1.setDecided i (d.adopted p (entryFor entries pos))) := by
    simp only [adoptPosition, hl1, hp, hb, hadopt]
  obtain ⟨hr2, hlens2, ho2⟩ := htell (b1.1.setDecided i (d.adopted p (entryFor entries pos))) (by
    rw [← hy, ← hr1]; rfl)
  rw [← hstep] at hr2 hlens2 ho2
  generalize adoptPosition entries b1 (i, pos) = b2 at hr2 hlens2 ho2 ⊢
  have h3 := adoptedAt_foldl entries hnd2 b2 fun x hx => by
    have hxi : x.1 ≠ i := fun h => hafter (List.mem_map.mpr ⟨x, hx, h⟩)
    have hxb : x.1 ∉ before.map (·.1) := fun h =>
      hdisjoint x.1 h x.1 (List.mem_cons_of_mem _ (List.mem_map_of_mem hx)) rfl
    obtain ⟨z, hz, hzq⟩ := hquiet x (by simp [hx]) hxi
    refine ⟨z, ?_, hzq⟩
    rw [hlens2, State.setDecided, State.modLens_lenses, List.getElem?_modify, h1.apart _ hxb, hz]
    simp [Ne.symm hxi]
  refine ⟨?_, ?_, ?_⟩
  · rw [h3.frame]
    exact hr2.trans (congrArg (·.modify j g) hr1)
  · rw [h3.frame]
    exact ho2.trans ho1
  · rw [h3.apart i hafter, hlens2]
    simp [State.setDecided, hl1]

/-- The adoption of a SUMMARY where lens `i` alone has a waiter comes to the close of a state in which that lens is
adopted and robot `j` told. -/
theorem State.adopt_telling (hplace : (i, pos) ∈ (s.borderList n).zipIdx) (hl : s.lenses[i]? = some l)
    (hb : l.body = .decided d) (hp : l.remoteParty = some p) (hy : s.robots[j]? = some y)
    (hothers : ∀ (e : Nat) (z : Lens), e ≠ i → s.lenses[e]? = some z → z.link = some n →
      ∃ d', z.body = .decided d' ∧ d'.waiter = none)
    (hadopt : ∀ u : State, u.adoptLens i l d p (entryFor entries pos) =
      tell (u.setDecided i (d.adopted p (entryFor entries pos)))) (htell : TellsRobot j y g tell) :
    ∃ u : State, s.adopt n entries = s.close u ∧ u.robots = s.robots.modify j g ∧ u.outcomes = s.outcomes ∧
      u.lenses[i]? = some { l with body := .decided (d.adopted p (entryFor entries pos)) } := by
  obtain ⟨hr, ho, hlens⟩ := adoptWalk_telling (a := (s.summaryTaken n, [])) (s.borderPlaces_nodup n) hplace hl hb hp hy
    (fun x hx hxi => by
      obtain ⟨z, hz, hlink⟩ := State.mem_borderList (State.mem_borderPlaces hx)
      obtain ⟨q, hq⟩ := Lens.remoteParty_of_link hlink
      exact ⟨z, hz, by simp [hq], hothers _ z hxi hz hlink⟩) hadopt htell
  obtain ⟨hl1, hr1, ho1⟩ := State.concluded_frame _ n
    ((s.borderList n).zipIdx.foldl (adoptPosition entries) (s.summaryTaken n, [])).2
  exact ⟨_, State.adopt_eq s n entries, hr1.trans hr, ho1.trans ho, (congrArg (·[i]?) hl1).trans hlens⟩

/-! ### As the event closes -/

/-- A record that nobody holds is as it was when the event closes. -/
theorem State.close_unheld {t : State} (hl : t.lenses[i]? = some l) (hb : l.body = .decided d) (hwf : d.wf = true)
    (hd : d.holder = none) : (s.close t).lenses[i]? = some l := by
  obtain ⟨E, he, -⟩ := s.close_ebbs t
  obtain ⟨l', hl', ⟨ha, hb'⟩, hebbs⟩ := he.lenses.get hl
  obtain ⟨d', hd', hde⟩ := (hebbs id).decided d hb
  have hw := Decided.waiter_none hwf hd
  have hw' := hde.unwaited hw
  have hsame : d' = d := by
    have hpin : ∀ q, d'.pinned q = d.pinned q := fun q => hde.pins q (by simp [hd])
    have hA : d'.pinA = d.pinA := hpin .a
    have hB : d'.pinB = d.pinB := hpin .b
    have hh := hde.free hd
    have ht := ((Decided.wf_iff d).mp hwf).2.1 hw
    have ht' := ((Decided.wf_iff d').mp (hde.wf hwf)).2.1 hw'
    cases d'
    cases d
    simp_all
  rw [hl']
  cases l'
  cases l
  simp_all

/-- Where no denial ends the robot's move at once, the event closes as it stands. -/
theorem State.close_told_quiet {u : State} (hquiet : s.NoDenialWaits) (hy : s.robots[j]? = some y)
    (hr : u.robots = s.robots.modify j g) (ho : u.outcomes = s.outcomes) (hg : (g y).deniedAtRest = none) :
    s.close u = u ∧ u.robots[j]? = some (g y) := by
  have hmod : (s.modRobot j g).NoDenialWaits := hquiet.modRobot fun x hx => by
    cases hy.symm.trans hx
    exact hg
  exact ⟨State.close_quiet' (fun x hx => hmod x (by rw [hr] at hx; exact hx)) ho, by simp [hr, hy]⟩

/-- A robot at rest whose claim is denied ends its move as the event closes (R93, R96). -/
theorem State.close_told_denied {u : State} {m : Move} {reason : DenyReason} (hquiet : s.NoDenialWaits)
    (hy : s.robots[j]? = some y) (hm : y.move = some m) (hrest : y.atRest = true)
    (hr : u.robots = s.robots.modify j (Robot.denied reason)) (ho : u.outcomes = s.outcomes) :
    ∃ y', (s.close u).robots[j]? = some y' ∧ y.EndedAtRest y' .denied := by
  have hu : u = ({ u with robots := s.robots } : State).denyRobot j reason := by
    rw [State.denyRobot_eq (s := { u with robots := s.robots }) hy]
    exact congrArg (fun robots => { u with robots }) hr
  obtain ⟨y', hy', hended, -⟩ := State.close_denied (s := s) (t := { u with robots := s.robots }) reason hquiet hy hm
    hrest ho
  rw [← hu] at hy'
  exact ⟨y', hy', hended⟩

end

/-! ### The three entries at a holding with a waiter (R141) -/

section
variable {s : State} {n i pos j : Nat} {l : Lens} {d : Decided} {p q : Party} {kind : HoldKind} {y : Robot}
  {entries : List SummaryEntry}
  (hquiet : s.NoDenialWaits) (hplace : (i, pos) ∈ (s.borderList n).zipIdx) (hl : s.lenses[i]? = some l)
  (hb : l.body = .decided d) (hp : l.remoteParty = some p) (hheld : d.holder = some (p, kind))
  (hw : d.waiter = some q) (hside : l.side q = .site j) (hy : s.robots[j]? = some y)
  (hothers : ∀ (e : Nat) (z : Lens), e ≠ i → s.lenses[e]? = some z → z.link = some n →
    ∃ d', z.body = .decided d' ∧ d'.waiter = none)
include hquiet hplace hl hb hp hheld hy hothers

/-- HELD: the holding is OCCUPIED, and its waiter waits on. -/
theorem State.adopt_confirms (he : entryFor entries pos = some .held) : (s.adopt n entries).robots[j]? = some y ∧
    (s.adopt n entries).lenses[i]? = some { l with body := .decided { d with holder := some (p, .occupied) } } := by
  obtain ⟨u, hclose, hr, ho, hlens⟩ := State.adopt_telling (entries := entries) hplace hl hb hp hy hothers
    (fun u => he ▸ State.adoptLens_held hheld) (tellsRobot_nothing j y)
  obtain ⟨hstands, hyu⟩ := State.close_told_quiet hquiet hy hr ho (hquiet y (List.mem_of_getElem? hy))
  rw [he, (Decided.adopted_held hheld).1] at hlens
  rw [hclose, hstands]
  exact ⟨hyu, hlens⟩

include hw hside

/-- No entry: the holding goes to the waiter, which is granted its lens. -/
theorem State.adopt_releases (he : entryFor entries pos = none) : (s.adopt n entries).robots[j]? = some y.granted ∧
    (s.adopt n entries).lenses[i]? = some { l with
      body := .decided { d with holder := some (q, .reserved), waiter := none, deadline := none } } := by
  obtain ⟨u, hclose, hr, ho, hlens⟩ := State.adopt_telling (entries := entries) hplace hl hb hp hy hothers
    (fun u => he ▸ State.adoptLens_granted hheld hw hside) (tellsRobot_grant j y)
  obtain ⟨hstands, hyu⟩ := State.close_told_quiet hquiet hy hr ho
    (Robot.granted_quiet (hquiet y (List.mem_of_getElem? hy)))
  rw [he, (Decided.adopted_held hheld).2.2] at hlens
  rw [hclose, hstands]
  exact ⟨hyu, hlens.trans (by simp [Decided.release, hheld, hw])⟩

/-- PINNED: the holding is the remote side's pin, and the waiter is denied PINNED, which ends a move at rest. -/
theorem State.adopt_pins (he : entryFor entries pos = some .pinned) :
    (s.adopt n entries).lenses[i]? = some { l with body := .decided (d.toPin p) } ∧
    (y.atRest = true → y.move ≠ none →
      ∃ y', (s.adopt n entries).robots[j]? = some y' ∧ y.EndedAtRest y' .denied) ∧
    ((y.atRest = true → y.move = none) → (s.adopt n entries).robots[j]? = some (y.denied .pinned)) := by
  obtain ⟨u, hclose, hr, ho, hlens⟩ := State.adopt_telling (entries := entries) hplace hl hb hp hy hothers
    (fun u => he ▸ State.adoptLens_denied hheld hw hside) (tellsRobot_deny j y .pinned)
  rw [he, (Decided.adopted_held hheld).2.1] at hlens
  rw [hclose]
  refine ⟨State.close_unheld hlens rfl (Decided.wf_toPin p) rfl, fun hrest hmove => ?_, fun hcalm => ?_⟩
  · obtain ⟨m, hm⟩ := Option.ne_none_iff_exists'.mp hmove
    exact State.close_told_denied hquiet hy hm hrest hr ho
  · obtain ⟨hstands, hyu⟩ := State.close_told_quiet hquiet hy hr ho
      (Robot.denied_quiet (hquiet y (List.mem_of_getElem? hy)) hcalm .pinned)
    rw [hstands]
    exact hyu

end

end Sys2Proof.Machine
end

section
/-! The client side's answer to a SUMMARY (R142). -/

namespace Sys2Proof.Machine

/-- The message that the client side owes for the lens at a border position (R142). -/
def State.owed (s : State) (sent : List (Nat × SummaryState)) (x : Nat × Nat) : Option BorderMessage :=
  (s.lenses[x.1]?).bind fun y =>
    match y.body with
    | .client c => changeMessage ((sent.find? fun z => z.1 == x.2).map (·.2)) c.claim
    | .decided _ => none

/-- A comparison sends the message owed, if there is one. -/
theorem comparePosition_eq (n : Nat) (sent : List (Nat × SummaryState)) (s : State) (x : Nat × Nat) :
    comparePosition n sent s x = match s.owed sent x with
      | none => s
      | some m => s.sendBorder n x.1 m := by
  unfold comparePosition State.owed
  cases s.lenses[x.1]? with
  | none => rfl
  | some l =>
    simp only [Option.bind_some]
    cases l.body with
    | decided d => rfl
    | client c => rfl

/-- Every message owed joins the queue of a link that is UP and has room for them, in the order of the border list. -/
theorem compareWalk {n : Nat} (sent : List (Nat × SummaryState)) (places : List (Nat × Nat)) {s : State} {u : Link}
    (hu : s.links[n]? = some u) (hup : u.state = .up) (hroom : u.transmit.length + places.length ≤ 64) :
    places.foldl (comparePosition n sent) s = { s with links := (places.foldl (comparePosition n sent) s).links } ∧
      ∃ u', (places.foldl (comparePosition n sent) s).links[n]? = some u' ∧ u'.state = .up ∧ u'.recvSeq = u.recvSeq ∧
        u'.transmit.map (·.body) = u.transmit.map (·.body) ++
          places.filterMap fun x => (s.owed sent x).map fun m => .border m (s.lensName n x.1) := by
  induction places generalizing s u with
  | nil => exact ⟨rfl, u, hu, hup, rfl, by simp⟩
  | cons x rest ih =>
    rw [List.length_cons] at hroom
    rw [List.foldl_cons, comparePosition_eq]
    cases hm : s.owed sent x with
    | none =>
      obtain ⟨hframe, u', hu', hup', hseq, hq⟩ := ih hu hup (by omega)
      exact ⟨hframe, u', hu', hup', hseq, by simpa [hm] using hq⟩
    | some m =>
      simp only
      rw [State.sendBorder_eq x.1 m hu hup (by omega)]
      have hsent : (s.withMessage n x.1 m).links[n]? = some { u with
          transmit := u.transmit ++ [⟨s.sectorNumber, u.sendSeq, .border m (s.lensName n x.1)⟩]
          sendSeq := (u.sendSeq + 1) % 256 } := by
        simp [State.withMessage, hu]
      obtain ⟨hframe, u', hu', hup', hseq, hq⟩ := ih hsent hup (by simp; omega)
      refine ⟨hframe.trans rfl, u', hu', hup', hseq, hq.trans ?_⟩
      simp only [List.map_append, List.map_cons, List.map_nil, List.filterMap_cons, hm, Option.map_some,
        List.append_assoc, List.cons_append, List.nil_append]
      rfl

/-- What the client side leaves that takes the arbiter's SUMMARY (R142). -/
theorem State.followSummary_leaves {s : State} {n : Nat} {l : Link} (hl : s.links[n]? = some l)
    (hquiet : s.NoDenialWaits) (hroom : l.transmit.length + (s.borderList n).length ≤ 64) :
    (s.followSummary n).lenses = s.lenses ∧ (s.followSummary n).robots = s.robots ∧
      ∃ l', (s.followSummary n).links[n]? = some l' ∧ l'.state = .up ∧ l'.recvSeq = 1 ∧
        l'.transmit.map (·.body) = l.transmit.map (·.body) ++ (s.borderList n).zipIdx.filterMap fun x =>
          (s.owed l.sentSummary x).map fun m => .border m (s.lensName n x.1) := by
  have htaken : (s.summaryTaken n).links[n]? = some { l with recvSeq := 1, takenAt := s.now } := by
    simp [State.summaryTaken, hl]
  obtain ⟨v, hv, hvup, hvseq, hvq⟩ : ∃ v, ((s.summaryTaken n).enterUp n).links[n]? = some v ∧ v.state = .up ∧
      v.recvSeq = 1 ∧ v.transmit = l.transmit := ⟨_, State.enterLink_link _ htaken, rfl, rfl, rfl⟩
  have hlenses : ((s.summaryTaken n).enterUp n).lenses = s.lenses := State.enterLink_lenses _ _ _ _
  obtain ⟨hrobots, houtcomes⟩ : ((s.summaryTaken n).enterUp n).robots = s.robots ∧
      ((s.summaryTaken n).enterUp n).outcomes = s.outcomes := State.enterLink_robots _ _ _ _
  have hfollow : s.followSummary n = s.close ((s.borderList n).zipIdx.foldl (comparePosition n l.sentSummary)
      ((s.summaryTaken n).enterUp n)) := by
    simp only [State.followSummary, hl, Option.map_some, Option.getD_some]
  rw [hfollow]
  generalize (s.summaryTaken n).enterUp n = e at *
  obtain ⟨hframe, u', hu', hup, hseq, hq⟩ := compareWalk l.sentSummary (s.borderList n).zipIdx hv hvup
    (by rw [hvq, List.length_zipIdx]; exact hroom)
  have hclose : s.close ((s.borderList n).zipIdx.foldl (comparePosition n l.sentSummary) e) =
      (s.borderList n).zipIdx.foldl (comparePosition n l.sentSummary) e := by
    refine State.close_quiet' (fun r hr => hquiet r ?_) ?_
    · rw [hframe] at hr
      exact hrobots ▸ hr
    · rw [hframe]
      exact houtcomes
  rw [hclose]
  refine ⟨?_, ?_, u', hu', hup, hseq.trans hvseq, hq.trans ?_⟩
  · rw [hframe]
    exact hlenses
  · rw [hframe]
    exact hrobots
  · have howed : e.owed l.sentSummary = s.owed l.sentSummary := by
      funext x
      rw [State.owed, State.owed, hlenses]
    have hname : e.lensName n = s.lensName n :=
      funext (State.SameSides.lensName (s := s) (t := e) (congrArg (List.map _) hlenses) n)
    rw [howed, hname, hvq]

end Sys2Proof.Machine
end

section
/-! A SUMMARY by the link's state (R136, R139, R140, R143). -/

namespace Sys2Proof.Machine

/-- A SUMMARY that is no frame error on the link: well formed, from its neighbour, and in SYNCING and UP with the
receive sequence (R136). -/
def State.SummaryFits (s : State) (h : PeerHeader) (count : Nat) (entries : List SummaryEntry) (l : Link) : Prop :=
  s.summaryGood h.link count entries = true ∧ h.sender = s.neighbourNumber h.link ∧
    (l.state = .syncing ∨ l.state = .up → h.seq = l.recvSeq)

section
variable {s : State} {h : PeerHeader} {count : Nat} {entries : List SummaryEntry} {l : Link}

theorem State.summaryFits_iff : s.SummaryFits h count entries l ↔
    ¬ (h.sender ≠ s.neighbourNumber h.link ∨ s.summaryGood h.link count entries = false ∨
      l.sequenceBad h.seq = true) := by
  simp only [State.SummaryFits, Link.sequenceBad, Bool.and_eq_true, Bool.or_eq_true, beq_iff_eq, bne_iff_ne]
  cases s.summaryGood h.link count entries <;> simp

theorem State.takeSummary_disabled (hl : s.links[h.link]? = some l) (hst : l.state = .disabled) :
    s.takeSummary h count entries = s := by
  simp only [State.takeSummary, hl, if_pos hst]

/-- A SUMMARY that does not fit is a frame error (R136). -/
theorem State.takeSummary_error (hl : s.links[h.link]? = some l) (hst : l.state ≠ .disabled)
    (hbad : ¬ s.SummaryFits h count entries l) :
    s.takeSummary h count entries = s.close (s.frameError h.link) := by
  rw [State.summaryFits_iff, not_not] at hbad
  simp only [State.takeSummary, hl, if_neg hst, if_pos hbad]

/-- In PROBING and FAULT a SUMMARY restarts the silence time alone (R143). -/
theorem State.takeSummary_touch (hl : s.links[h.link]? = some l) (hst : l.state = .probing ∨ l.state = .fault)
    (hgood : s.SummaryFits h count entries l) : s.takeSummary h count entries = s.touch h.link := by
  rw [State.summaryFits_iff] at hgood
  rcases hst with hst | hst <;> simp [State.takeSummary, hl, hst, if_neg hgood]

/-- In UP a SUMMARY is a numbered frame that is taken (log entry 18). -/
theorem State.takeSummary_up (hl : s.links[h.link]? = some l) (hst : l.state = .up)
    (hgood : s.SummaryFits h count entries l) : s.takeSummary h count entries = s.frameTaken h.link := by
  rw [State.summaryFits_iff] at hgood
  have htaken : (s.touch h.link).advanceRecv h.link = s.frameTaken h.link := State.modLink_modLink hl rfl
  simp [State.takeSummary, hl, hst, if_neg hgood, htaken]

theorem State.takeSummary_syncing (hl : s.links[h.link]? = some l) (hst : l.state = .syncing)
    (hgood : s.SummaryFits h count entries l) : s.takeSummary h count entries = s.syncSummary h.link entries := by
  rw [State.summaryFits_iff] at hgood
  simp [State.takeSummary, hl, hst, if_neg hgood]

/-- In MATCHED a unit with room enters SYNCING and takes the SUMMARY there, whatever its sequence number (R139, log
entry 18). -/
theorem State.takeSummary_matched (hl : s.links[h.link]? = some l) (hst : l.state = .matched)
    (hroom : l.transmit.length < 64) (hgood : s.SummaryFits h count entries l) :
    s.takeSummary h count entries = (s.enterSyncing h.link).takeSummary { h with seq := 0 } count entries := by
  have hentered := State.enterSyncing_roomy hl (by simp [hst]) hroom
  obtain ⟨v, hv, hvst, hvseq⟩ : ∃ v, (s.enterSyncing h.link).links[h.link]? = some v ∧ v.state = .syncing ∧
      v.recvSeq = 0 := by
    rw [hentered]
    simp [hl]
  have hfits : (s.enterSyncing h.link).SummaryFits { h with seq := 0 } count entries v := by
    refine ⟨?_, ?_, fun _ => hvseq.symm⟩
    · rw [hentered]
      exact hgood.1
    · rw [hentered]
      exact hgood.2.1
  rw [State.takeSummary_syncing (h := { h with seq := 0 }) hv hvst hfits]
  rw [State.summaryFits_iff] at hgood
  have his : (s.enterSyncing h.link).linkIs h.link .syncing = true := by
    rw [State.linkIs_eq hv, hvst]
    rfl
  simp [State.takeSummary, hl, hst, if_neg hgood, his]

end

end Sys2Proof.Machine

open Sys2Proof Sys2Proof.Machine

/-- Settles O36: one lens by the rows of R141 (`Decided.adopted`), the rows of R142, a SUMMARY in each link state, and
the two sides' walks over the border list (`State.adopt_telling`, `State.adopt_quiet`, `State.followSummary_leaves`). -/
theorem summariesEndTheBringUp : Obligations.SummariesEndTheBringUp := by
  refine ⟨?_, ⟨rfl, rfl, rfl, rfl, rfl, rfl, rfl, rfl, rfl⟩, ?_, ?_, ?_⟩
  · intro s i l d p hl hb hp hwf hw becomes
    have hdeadline : d.deadline = none := ((Decided.wf_iff d).mp hwf).2.1 hw
    have hbecomes : ∀ e d', d.adopted p e = d' → becomes e d' := fun e d' h =>
      (State.adoptLens_unwaited p e hl hb hw).trans (congrArg (fun x => s.modLens i fun _ => .decided x) h)
    refine ⟨fun kind hd => ?_, fun hd hpin => ?_, fun hd hpin => ?_, fun hd => ?_, fun kind hd e => ?_,
      fun e => d.disputed_iff p e⟩
    · obtain ⟨hheld, hpinned, hnone⟩ := Decided.adopted_held hd
      refine ⟨hbecomes _ _ hheld, hbecomes _ _ (hpinned.trans ?_), hbecomes _ _ (hnone.trans ?_)⟩
      · cases d
        cases p <;> simp_all [Decided.toPin, Decided.setPin]
      · cases d
        simp_all [Decided.release]
    · exact hbecomes _ _ ((Decided.adopted_unheld hd).1.trans (if_neg (by simp [hpin])))
    · exact hbecomes _ _ ((Decided.adopted_unheld hd).1.trans (if_pos hpin))
    · obtain ⟨-, hpinned, hnone⟩ := Decided.adopted_unheld (p := p) hd
      exact ⟨hbecomes _ _ hpinned, hbecomes _ _ hnone⟩
    · exact hbecomes e d (Decided.adopted_other hwf hd e)
  · intro s h count entries l hl hquiet good c hc
    have hexec : exec c s = .next (s.takeSummary h count entries) := by
      rcases List.mem_pair.mp hc with rfl | rfl <;> rfl
    refine ⟨fun hst => ?_, fun hst hbad => ?_, fun hst hgood => ?_, fun hst hgood => ?_, fun hst hgood hroom => ?_, hexec⟩
    · rw [hexec, State.takeSummary_disabled hl hst]
    · rw [hexec, State.takeSummary_error hl hst hbad]
      rfl
    · rw [hexec, State.takeSummary_touch hl hst hgood]
      rfl
    · rw [hexec, State.takeSummary_up hl hst hgood]
    · rw [hexec, State.takeSummary_matched hl hst hroom hgood, State.enterSyncing_roomy hl (by simp [hst]) hroom]
      rfl
  · intro s n i j pos count entries k l d p y hk hst hrole hgood hquiet hplace hl hb hp hwf hw hside hy hothers
    have hexec : exec (.summary ⟨n, s.neighbourNumber n, k.recvSeq⟩ count entries) s = .next (s.adopt n entries) :=
      congrArg _ ((State.takeSummary_syncing (h := ⟨n, s.neighbourNumber n, k.recvSeq⟩) hk hst
        ⟨hgood, rfl, fun _ => rfl⟩).trans (if_pos hrole))
    have hengine := (Acts.adopt s n entries).engine
    obtain ⟨kind, hheld⟩ : ∃ kind, d.holder = some (p, kind) := by
      have hbehind := ((Decided.wf_iff d).mp hwf).2.2 _ hw
      cases p <;> exact Decided.heldBy_iff.mp hbehind
    cases he : entryFor entries pos with
    | none =>
      obtain ⟨hy', hlens⟩ := State.adopt_releases hquiet hplace hl hb hp hheld hw hside hy hothers he
      exact ⟨_, _, hexec, hengine, hy', nofun, fun _ =>
        ⟨hlens, fun hst => by simp [Robot.granted, hst], fun hst => by simp [Robot.granted, hst]⟩, nofun⟩
    | some e =>
      cases e with
      | held =>
        obtain ⟨hy', hlens⟩ := State.adopt_confirms hquiet hplace hl hb hp hheld hy hothers he
        exact ⟨_, y, hexec, hengine, hy', fun _ => ⟨hlens, rfl⟩, nofun, nofun⟩
      | pinned =>
        obtain ⟨hlens, hends, hcalm⟩ := State.adopt_pins hquiet hplace hl hb hp hheld hw hside hy hothers he
        by_cases hrest : y.atRest = true ∧ y.move ≠ none
        · obtain ⟨y', hy', hended⟩ := hends hrest.1 hrest.2
          refine ⟨_, y', hexec, hengine, hy', nofun, nofun, fun _ => ⟨hlens, fun _ _ => hended, fun m hst _ => ?_⟩⟩
          have hnot := hrest.1
          simp [Robot.atRest, hst] at hnot
        · refine ⟨_, _, hexec, hengine, hcalm fun h => by_contra fun hm => hrest ⟨h, hm⟩, nofun, nofun, fun _ =>
            ⟨hlens, fun h1 h2 => absurd ⟨h1, h2⟩ hrest, fun m hst hm => ?_⟩⟩
          simp [Robot.denied, hst, hm]
  · intro s h count entries l hl hst hsender hseq hgood hquiet
    have hsync : s.takeSummary h count entries = s.syncSummary h.link entries :=
      State.takeSummary_syncing hl hst ⟨hgood, hsender, fun _ => hseq⟩
    refine ⟨fun hrole hq => ?_, fun hrole hroom => ?_⟩
    · have hexec : exec (.summary h count entries) s = .next (s.adopt h.link entries) :=
        congrArg _ (hsync.trans (if_pos hrole))
      obtain ⟨⟨l', hl', hseq', hcount, hfirst, hstate, hdispute⟩, hlens, hapart⟩ :=
        State.adopt_quiet (entries := entries) hl hquiet hq
      refine ⟨_, l', hexec, (Acts.adopt s h.link entries).engine, hl', hseq', hcount, hfirst, hstate, hdispute,
        fun x hx => ?_, hapart⟩
      obtain ⟨y, hy, hlink⟩ := State.mem_borderList (State.mem_borderPlaces hx)
      obtain ⟨p, hp⟩ := Lens.remoteParty_of_link hlink
      obtain ⟨d, hb, hw⟩ := hq y (List.mem_of_getElem? hy) hlink
      refine ⟨y, d, p, hy, hb, hp, ?_⟩
      rw [hlens x hx, hy, State.adoptLens_unwaited p _ hy hb hw, Option.map_some, Lens.adopted_decided _ hb hp]
      simp [State.setDecided, hy]
    · have hexec : exec (.summaryClient h count entries) s = .next (s.followSummary h.link) :=
        congrArg _ (hsync.trans (if_neg (by simp [hrole])))
      obtain ⟨hlenses, hrobots, l', hl', hup, hseq', hq⟩ := State.followSummary_leaves hl hquiet hroom
      refine ⟨_, l', hexec, (Acts.followSummary s h.link).engine, hlenses, hrobots, hl', hup, hseq', hq.trans ?_⟩
      refine congrArg (_ ++ ·) (List.filterMap_congr fun x _ => ?_)
      unfold State.owed
      cases s.lenses[x.1]? with
      | none => rfl
      | some y =>
        cases hb : y.body with
        | decided d => simp [hb]
        | client c => simp [hb]
end
